-- ==== Sys2Proof/Word.lean ====
section
/-! DEFINITION. The word types of the link and of the counters that wrap, and the small containers the part
repeats: two sides, four banks, four slots, four lines. -/

namespace Sys2Proof

/-- One byte as it crosses the link (R160, R170). -/
abbrev Byte := BitVec 8

/-- A camera frame counter or frame number: "the counter runs modulo 2^32" (R121). -/
abbrev Frame := BitVec 32

/-- The two sides of an opening: LEFT is the even-numbered face, RIGHT the odd-numbered one (R2). -/
inductive Side where
  | left
  | right
deriving DecidableEq, Repr

/-- The other side of the same opening. -/
def Side.other : Side → Side
  | .left => .right
  | .right => .left

/-- One value for each side. -/
structure Sides (α : Type) where
  left : α
  right : α
deriving DecidableEq, Repr

def Sides.get {α : Type} (p : Sides α) : Side → α
  | .left => p.left
  | .right => p.right

def Sides.set {α : Type} (p : Sides α) (side : Side) (v : α) : Sides α :=
  match side with
  | .left => { p with left := v }
  | .right => { p with right := v }

/-- The same value on both sides. -/
def Sides.both {α : Type} (v : α) : Sides α := { left := v, right := v }

/-- The four lamp banks: LA and LB on the left wing, RA and RB on the right (chapter 5). -/
inductive Bank where
  | la
  | lb
  | ra
  | rb
deriving DecidableEq, Repr

/-- The banks in the order in which a reference check takes them (R95). -/
def Bank.all : List Bank := [.la, .lb, .ra, .rb]

/-- The side whose face a bank belongs to (R2). -/
def Bank.side : Bank → Side
  | .la => .left
  | .lb => .left
  | .ra => .right
  | .rb => .right

/-- The number by which logs and conditions name a bank: 1 LA, 2 LB, 3 RA, 4 RB (R40, R152). -/
def Bank.number : Bank → Nat
  | .la => 1
  | .lb => 2
  | .ra => 3
  | .rb => 4

/-- The bank after this one in the rotation: LA, LB, RA, RB and LA again (R99). -/
def Bank.next : Bank → Bank
  | .la => .lb
  | .lb => .ra
  | .ra => .rb
  | .rb => .la

/-- One value for each bank. -/
structure Banks (α : Type) where
  la : α
  lb : α
  ra : α
  rb : α
deriving DecidableEq, Repr

def Banks.get {α : Type} (q : Banks α) : Bank → α
  | .la => q.la
  | .lb => q.lb
  | .ra => q.ra
  | .rb => q.rb

def Banks.set {α : Type} (q : Banks α) (b : Bank) (v : α) : Banks α :=
  match b with
  | .la => { q with la := v }
  | .lb => { q with lb := v }
  | .ra => { q with ra := v }
  | .rb => { q with rb := v }

/-- The same value for each bank. -/
def Banks.all {α : Type} (v : α) : Banks α := { la := v, lb := v, ra := v, rb := v }

/-- A set of banks, one membership for each. -/
abbrev BankSet := Banks Bool

/-- The four volume slots, numbered 0 to 3 (R20). -/
inductive SlotId where
  | s0
  | s1
  | s2
  | s3
deriving DecidableEq, Repr

/-- The slots in ascending order. -/
def SlotId.all : List SlotId := [.s0, .s1, .s2, .s3]

def SlotId.number : SlotId → Nat
  | .s0 => 0
  | .s1 => 1
  | .s2 => 2
  | .s3 => 3

/-- The slot a request's field names, if it names one of the four. -/
def SlotId.ofNumber? : Nat → Option SlotId
  | 0 => some .s0
  | 1 => some .s1
  | 2 => some .s2
  | 3 => some .s3
  | _ => none

/-- The four auxiliary input lines AUX0 to AUX3 (chapter 8). -/
inductive AuxLine where
  | aux0
  | aux1
  | aux2
  | aux3
deriving DecidableEq, Repr

/-- The lines in ascending order. -/
def AuxLine.all : List AuxLine := [.aux0, .aux1, .aux2, .aux3]

def AuxLine.number : AuxLine → Nat
  | .aux0 => 0
  | .aux1 => 1
  | .aux2 => 2
  | .aux3 => 3

/-- One value for each auxiliary line. -/
structure Lines (α : Type) where
  aux0 : α
  aux1 : α
  aux2 : α
  aux3 : α
deriving DecidableEq, Repr

def Lines.get {α : Type} (q : Lines α) : AuxLine → α
  | .aux0 => q.aux0
  | .aux1 => q.aux1
  | .aux2 => q.aux2
  | .aux3 => q.aux3

def Lines.set {α : Type} (q : Lines α) (l : AuxLine) (v : α) : Lines α :=
  match l with
  | .aux0 => { q with aux0 := v }
  | .aux1 => { q with aux1 := v }
  | .aux2 => { q with aux2 := v }
  | .aux3 => { q with aux3 := v }

/-- The same value for each line. -/
def Lines.all {α : Type} (v : α) : Lines α := { aux0 := v, aux1 := v, aux2 := v, aux3 := v }

end Sys2Proof
end

