-- ==== Sys2Proof/Syntax.lean ====
section
/-! DEFINITION. The commands the part takes from outside: one constructor for each row of the opcode table.
Every request carries the tag its frame carries, then its payload fields as they cross the link, in payload
order (R170 to R173): a field is the number its bytes give, and the owning rule judges it. Every event carries
what the sensor, the line or the drive reports with it. -/

namespace Sys2Proof

/-- OPEN_VOLUME's payload field by field (section 11.4): `presence` is its 16 presence bits, `shelfMark` its
40 text bytes, and the rest the numbers its bytes give, judged by R5, R170 and R173. -/
structure RawProfile where
  presence : Nat
  shelfMark : List Byte
  partNumber : Nat
  leaves : Nat
  firstFolio : Nat
  thickness : Nat
  angleLimit : Nat
  initialAngle : Nat
  glassMode : Nat
  forceLimit : Nat
  airLevel : Nat
  pageAllowance : Nat
  volumeAllowance : Nat
  warning : Nat
  releaseMode : Nat
deriving DecidableEq, Repr

/-- The input lines and sensor readings of the part (00_scope.md, Field connections), as they stand at one
moment. A line that is a level is `true` when it is high or set. `straps` is 0 to 3 (R159), positions are in
µm, the angle in degrees and the force in gf. -/
structure Pins where
  straps : Nat
  aux : Lines Bool
  home : Bool
  farEnd : Bool
  hold : Bool
  cupEmpty : Bool
  raisedStop : Bool
  force : Nat
  position : Sides Nat
  angle : Nat
  exposureActive : Sides Bool
deriving DecidableEq, Repr

/-- A restart that cuts CLEAR_STORE off (R35): it comes when `writes` of the request's writes have been made, by power-on
or by the reset line, with the lines and sensors as sampled then. -/
structure Cut where
  writes : Nat
  power : Bool
  pins : Pins
deriving DecidableEq, Repr

/-- A run of CLEAR_STORE: the tag of its frame, and the restart that cuts it off, if one does. -/
structure ClearRun where
  tag : Nat
  cut : Option Cut
deriving DecidableEq, Repr

/-- The commands. The first 43 are the requests, which arrive as good frames with a tag; the rest are the events of
the link, of the two restart inputs, of the field lines and of the part's timers. DESIGN CHOICE
(notes/assumptions/17.md), safe. -/
inductive Instr where
  /-- OPEN_VOLUME (R25). -/
  | openVolume (tag : Nat) (profile : RawProfile)
  /-- EXTEND_VOLUME (R26): the count of extra leaves. -/
  | extendVolume (tag count : Nat)
  /-- CLOSE_VOLUME (R28). -/
  | closeVolume (tag : Nat)
  /-- EXPORT_VOLUME (R31): the slot. -/
  | exportVolume (tag slot : Nat)
  /-- DISCARD_VOLUME (R34): the slot. -/
  | discardVolume (tag slot : Nat)
  /-- CLEAR_STORE (R35), with the restart that cuts it off between two of its writes, if one does. -/
  | clearStore (run : ClearRun)
  /-- LIST_VOLUMES (R36). -/
  | listVolumes (tag : Nat)
  /-- READ_FACES (R37): slot, first face, count. -/
  | readFaces (tag slot first count : Nat)
  /-- SET_MARK (R8): leaf and the byte of mark kinds. -/
  | setMark (tag leaf kinds : Nat)
  /-- CLEAR_MARK (R9): leaf. -/
  | clearMark (tag leaf : Nat)
  /-- PLACE (R13): the opening number. -/
  | place (tag opening : Nat)
  /-- READ_OPENING (R19). -/
  | readOpening (tag : Nat)
  /-- TURN (R46): the direction code and the flags byte. -/
  | turn (tag direction flags : Nat)
  /-- PARK (R59). -/
  | park (tag : Nat)
  /-- MANUAL_DONE (R61): the direction code. -/
  | manualDone (tag direction : Nat)
  /-- CANCEL_TURN (R62). -/
  | cancelTurn (tag : Nat)
  /-- SET_TURNER (R63): the five time-outs and the attempt limit. -/
  | setTurner (tag reach lift carry lay ret limit : Nat)
  /-- READ_TURNER (R64). -/
  | readTurner (tag : Nat)
  /-- SET_GLASS (R70): the force. -/
  | setGlass (tag force : Nat)
  /-- RAISE_GLASS (R77). -/
  | raiseGlass (tag : Nat)
  /-- SET_ANGLE (R78): the angle. -/
  | setAngle (tag angle : Nat)
  /-- READ_MECHANICS (R81). -/
  | readMechanics (tag : Nat)
  /-- LAMPS_ON (R84). -/
  | lampsOn (tag : Nat)
  /-- LAMPS_OFF (R84). -/
  | lampsOff (tag : Nat)
  /-- SET_LIGHTING (R87): the four drives, the two durations, the spill. -/
  | setLighting (tag driveLA driveLB driveRA driveRB timeL timeR spill : Nat)
  /-- SET_AIMING (R89): the aiming and rest levels. -/
  | setAiming (tag level rest : Nat)
  /-- SET_IDLE (R91): T_rest, T_dark, T_supply and the settle interval. -/
  | setIdle (tag rest dark supply settle : Nat)
  /-- REFERENCE_CHECK (R97): the bank set byte. -/
  | referenceCheck (tag banks : Nat)
  /-- SET_CHECKS (R102): K, rotation, drift tolerance, fail limit. -/
  | setChecks (tag interval rotation tolerance failLimit : Nat)
  /-- READ_LAMPS (R103). -/
  | readLamps (tag : Nat)
  /-- CAPTURE (R122): the sides code. -/
  | capture (tag sides : Nat)
  /-- FRAME_RECEIVED (R130): camera and frame number. -/
  | frameReceived (tag camera number : Nat)
  /-- ACCEPT (R132). -/
  | accept (tag : Nat)
  /-- REJECT (R133). -/
  | reject (tag : Nat)
  /-- SET_CAPTURE (R137): release mode, camera time-out, left and right strobe delays, pedal-capture. -/
  | setCapture (tag mode timeout delayL delayR pedal : Nat)
  /-- READ_CAPTURE (R138). -/
  | readCapture (tag : Nat)
  /-- RESUME (R148). -/
  | resume (tag : Nat)
  /-- SET_AUX (R143): function and edge selection of AUX0 to AUX3 in turn. -/
  | setAux (tag func0 edge0 func1 edge1 func2 edge2 func3 edge3 : Nat)
  /-- READ_AUX (R144). -/
  | readAux (tag : Nat)
  /-- STATUS (R156). -/
  | status (tag : Nat)
  /-- SET_ATTENTION (R157): the class set and the elevated class. -/
  | setAttention (tag mask elevated : Nat)
  /-- IDENTIFY (R167). -/
  | identify (tag : Nat)
  /-- RESET (R168). -/
  | resetRequest (tag : Nat)
  /-- One character arrives on the UART (R159, R161). -/
  | byteReceived (byte : Byte)
  /-- The 10 ms gap timer of the framer expires (R161, R162). -/
  | gap
  /-- The transmitter has sent the last byte of the frame on the line (R165). -/
  | frameSent
  /-- Power comes on; `pins` are the lines and sensors as sampled then (R43, R159). -/
  | powerOn (pins : Pins)
  /-- The reset line is asserted; `pins` are the lines and sensors as sampled then (R43, R159). -/
  | resetLine (pins : Pins)
  /-- The sampled level of an auxiliary line changes to `high` (R140). -/
  | auxLevelChange (line : AuxLine) (high : Bool)
  /-- The 20 ms debounce window of a line expires (R140, R141). -/
  | auxEdge (line : AuxLine)
  /-- The home sensor sets (`on`) or clears (R44, R53). -/
  | homeSensor (on : Bool)
  /-- The far-end sensor sets (`on`) or clears (R44, R52, R54). -/
  | farEndSensor (on : Bool)
  /-- The hold sensor sets (`on`) or clears (R44, R49). -/
  | holdSensor (on : Bool)
  /-- The cup-empty sensor sets (`on`) or clears (R44, R52). -/
  | cupEmptySensor (on : Bool)
  /-- The separation time expires and the leaf-count sensor reports `count` (R50). -/
  | separationTime (count : Nat)
  /-- The lowering of RESTORE comes to rest (R51). -/
  | restoreDescentEnd
  /-- 300 ms have passed since the valve opened in RESTORE (R51). -/
  | restoreReleaseWait
  /-- The LIFT time-out expires, in LIFT or in RESTORE's lowering (R49, R51). -/
  | liftTimeout
  /-- The time-out of REACH, CARRY, LAY or RETURN expires (R56, R59). -/
  | turnTimeout
  /-- A platen's position feedback reads `position` (R66); it is the settling when that is its setpoint. -/
  | platenSettled (side : Side) (position : Nat)
  /-- The angle feedback reads `angle` (R78); it is the settling when that is the target. -/
  | angleSettled (angle : Nat)
  /-- The force sensor reads `force` (R72, R74). -/
  | glassForceReading (force : Nat)
  /-- The raised-stop sensor sets (`on`) or clears (R73). -/
  | raisedStopSensor (on : Bool)
  /-- The 2000 ms glass move time-out expires (R72, R73). -/
  | glassMoveTimeout
  /-- The settle interval of the lamp supply expires (R83). -/
  | supplySettled
  /-- The idle timer reaches T_rest, T_dark or T_supply (R90). -/
  | idleStageExpiry
  /-- The lighting arbiter grants the free resource (R93). -/
  | lightingGrant
  /-- The reservoir covers the granted capture's cost (R94). -/
  | lightingReady
  /-- The reservoir covers 200 units and the next reference pulse starts (R95). -/
  | referencePulseStart
  /-- The 200 µs pulse ends; the photometric sensor on the bank's side reads `reading` lux (R95). -/
  | referencePulseEnd (reading : Nat)
  /-- 100 ms have passed since the start of the aiming interval that runs (R117). -/
  | aimingInterval
  /-- A camera's exposure-active line rises (R121). -/
  | exposureActiveRise (side : Side)
  /-- A side's strobe delay expires (R126). -/
  | strobeDelayExpiry (side : Side)
  /-- A side's strobe has run its set duration (R126). -/
  | strobeEnd (side : Side)
  /-- A camera's exposure-active line falls (R127). -/
  | exposureActiveFall (side : Side)
  /-- The camera time-out that runs for a side expires (R128). -/
  | cameraTimeout (side : Side)
  /-- One second of the volume clock (R23). -/
  | volumeClockTick
deriving DecidableEq, Repr

end Sys2Proof
end

