-- ==== Sys2Proof/Decode.lean ====
section
/-! DEFINITION. The table's words. No row of the opcode table of this part gives bits, so no word spells a command. -/

namespace Sys2Proof

/-- The command that a word of the opcode table spells: none, since no row gives bits. Commands come from outside by
the queue (notes/assumptions/21.md), and a request's own bytes are read by the framer (R161, R164). DESIGN CHOICE
(notes/assumptions/21.md), safe. -/
def decodeTableWord (_nbits _w : Nat) : Option Instr := none

end Sys2Proof
end

