-- ==== Sys2Proof/Config.lean ====
section
/-! DEFINITION. What is fixed for one part and the limits the spec states as numbers. -/

namespace Sys2Proof.Config

/-- The part's serial number, "written at manufacture and differs from part to part" (R167): nothing is known of its
value, so it has no body. DESIGN CHOICE (notes/assumptions/18.md), safe. -/
opaque serialNumber : BitVec 64

/-- Log entries in the pool (R21). -/
def logPool : Nat := 16384
/-- Face records in the pool (R21). -/
def facePool : Nat := 16384
/-- The incident reserve (R21). -/
def reserve : Nat := 8
/-- Free log entries at or below which an append latches STORE LOW (R42). -/
def lowMark : Nat := 256
/-- Platen travel in µm (R65). -/
def platenTravel : Nat := 80000
/-- Capacity of the strobe reservoir in units (R92). -/
def reservoirFull : Nat := 80000
/-- Rated maximum of a bank and the highest reading taken, in lux (R95, R114). -/
def ratedLux : Nat := 60000
/-- Units drawn at the start of a reference pulse (R92). -/
def pulseCost : Nat := 200
/-- Length of a reference pulse in µs (R95). -/
def pulseTime : Nat := 200
/-- The argument and detail that stand for the volume where a face number would stand (R108). -/
def volumeCode : Nat := 65535
/-- The highest value of a 16-bit count that holds (R22, R107). -/
def hold16 : Nat := 65535
/-- The highest value of the volume clock (R23). -/
def hold32 : Nat := 4294967295
/-- Requests the request queue holds, and QUEUE_FULL refusals that may wait (R163). -/
def queueDepth : Nat := 4
/-- The greatest payload length of a frame (R160). -/
def maxPayload : Nat := 1000

end Sys2Proof.Config
end

