-- ==== Sys2Proof/Machine/State.lean ====
section
/-! DEFINITION. The state of the part, block by block, and its value right after the first power-on of a new
part. Every record follows the table of its chapter; the few fields that are the model's own (sub-counters of
the clock, the arming progress of a capture) say so. -/

namespace Sys2Proof.Machine

/-- Why a command stops the machine. The spec gives every command an effect in every state, so no command of
this part raises a fault: the type has no value (safe). -/
inductive Fault where
deriving DecidableEq, Repr

/-- Why a command has no meaning. -/
inductive Refusal where
  /-- Raised by `exec` for a command that has no meaning in the model yet; no command is in that case (safe). -/
  | notModelled (mnemonic : String)
deriving DecidableEq, Repr

/-! ## The Accounting Store (chapters 1 and 2) -/

/-- Glass mode of a profile (R5 field 8). -/
inductive GlassMode where
  | press
  | none
deriving DecidableEq, Repr

/-- Release mode (R5 field 14, R120). -/
inductive ReleaseMode where
  | onReceipt
  | onAccept
deriving DecidableEq, Repr

/-- A volume's profile (R5), as taken by OPEN_VOLUME; `leaves` is L. -/
structure Profile where
  shelfMark : List Byte
  partNumber : Nat
  leaves : Nat
  firstFolio : Nat
  thickness : Nat
  angleLimit : Nat
  initialAngle : Nat
  glassMode : GlassMode
  forceLimit : Nat
  airLevel : Nat
  pageAllowance : Nat
  volumeAllowance : Nat
  warning : Nat
  releaseMode : ReleaseMode
deriving DecidableEq, Repr

/-- The kinds of a mark record (R7). -/
structure MarkKinds where
  foldout : Bool
  plate : Bool
  hold : Bool
deriving DecidableEq, Repr

/-- One mark record (R7). -/
structure Mark where
  leaf : Nat
  kinds : MarkKinds
deriving DecidableEq, Repr

/-- Accumulated dose: whole lx·s and a remainder in lx·ms (R22, R107). -/
structure Dose where
  whole : Nat
  rem : Nat
deriving DecidableEq, Repr

/-- One face record (R22). -/
structure FaceRec where
  dose : Dose
  exposures : Nat
deriving DecidableEq, Repr

/-- The incident kinds (R40). -/
inductive IncidentKind where
  | doubleLeaf
  | noLift
  | turnFailed
  | turnTimeout
  | manualTurn
  | skipped
  | pauseBroken
  | reseat
  | restart
  | strayFrame
  | lampDrift
  | lampFailed
  | doseLimit
  | platenLimit
  | glassFault
  | extended
  | closed
deriving DecidableEq, Repr

/-- The sides of a capture (R39, R122). -/
inductive CaptureSides where
  | both
  | left
  | right
deriving DecidableEq, Repr

/-- Status of a capture entry (R39). -/
inductive EntryStatus where
  | pending
  | accepted
  | rejected
  | void
deriving DecidableEq, Repr

/-- The flags of a capture entry (R39). -/
structure EntryFlags where
  under : Bool
  singleBank : Bool
  focusLimit : Bool
  noGlass : Bool
  manual : Bool
deriving DecidableEq, Repr

/-- What a capture entry holds besides the common fields (R39). -/
structure CaptureEntry where
  take : Nat
  sides : CaptureSides
  frames : Sides (Option Frame)
  doses : Sides Nat
  durations : Sides Nat
  banks : BankSet
  flags : EntryFlags
  status : EntryStatus
deriving DecidableEq, Repr

/-- What a log entry says: a capture, or an incident with its two details (R38 to R40). -/
inductive EntryBody where
  | capture (c : CaptureEntry)
  | incident (kind : IncidentKind) (detail second : Nat)
deriving DecidableEq, Repr

/-- A log entry (R38). Its index is its position in the log. -/
structure Entry where
  opening : Nat
  timestamp : Nat
  body : EntryBody
deriving DecidableEq, Repr

/-- A volume record (R22). `faces` lists the face records that are not all zero, by face number in rising
order; every other face from 0 to 2L+1 is all zero. -/
structure Volume where
  profile : Profile
  marks : List Mark
  log : List Entry
  faces : List (Nat × FaceRec)
  dose : Dose
  captureCount : Nat
  incidentCount : Nat
  logComplete : Bool
  restartCount : Nat
  clock : Nat
  placedBefore : Bool
deriving DecidableEq, Repr

/-- One slot (R20): every state but FREE holds a volume record. -/
inductive Slot where
  | free
  | opened (v : Volume)
  | closed (v : Volume)
  | exported (v : Volume)
deriving DecidableEq, Repr

/-- The name of a slot's state (R20). -/
inductive SlotState where
  | free
  | opened
  | closed
  | exported
deriving DecidableEq, Repr

/-- The four slots (R20). -/
structure Slots where
  s0 : Slot
  s1 : Slot
  s2 : Slot
  s3 : Slot
deriving DecidableEq, Repr

/-- The values that an export stream fixes at its request (R32). -/
structure Snapshot where
  profile : Profile
  marks : List Mark
  captureCount : Nat
  incidentCount : Nat
  restartCount : Nat
  logComplete : Bool
  dose : Dose
  clock : Nat
deriving DecidableEq, Repr

/-- A running export stream (R31 to R33, R166). `next` is the number of the chunk that waits or is being sent,
counted from 0 (the HEADER). -/
structure Stream where
  slot : SlotId
  start : SlotState
  entries : Nat
  faces : Nat
  header : Snapshot
  next : Nat
deriving DecidableEq, Repr

/-- The Accounting Store: nonvolatile slots, and the stream that runs (volatile, R33). -/
structure Store where
  slots : Slots
  stream : Option Stream
deriving DecidableEq, Repr

/-! ## The Opening Tracker (R11) -/

inductive TrackerState where
  | noVolume
  | unplaced
  | placed
  | uncertain
deriving DecidableEq, Repr

/-- The tracker's record. The placed-before flag stands in the volume record (R22). -/
structure Tracker where
  state : TrackerState
  slot : Option SlotId
  n : Option Nat
  lastPlaced : Option Nat
  doseLogged : Bool
deriving DecidableEq, Repr

/-! ## The Leaf Turner (R44) -/

inductive TurnerState where
  | idle
  | reach
  | lift
  | separate
  | restore
  | carry
  | lay
  | ret
  | manualWait
  | halted
deriving DecidableEq, Repr

inductive TurnerStep where
  | glassWait
  | running
deriving DecidableEq, Repr

inductive Purpose where
  | turn
  | failureReturn
  | park
deriving DecidableEq, Repr

inductive Direction where
  | forward
  | back
deriving DecidableEq, Repr

inductive TurnOutcome where
  | none
  | done
  | failed
  | glassFailed
  | cancelled
  | timeout
  | broken
  | parked
  | parkFailed
deriving DecidableEq, Repr

/-- The settings of SET_TURNER (R63): time-outs in ms and the attempt limit. -/
structure TurnerSettings where
  reach : Nat
  lift : Nat
  carry : Nat
  lay : Nat
  ret : Nat
  limit : Nat
deriving DecidableEq, Repr

/-- The turner's record (R44). `valveClosed` is the vacuum valve it drives. `restoreReleased` tells, in
RESTORE, whether the valve has been opened (R51); `layEmpty` tells, in LAY, whether cup-empty has been
taken (R52). -/
structure Turner where
  state : TurnerState
  step : TurnerStep
  purpose : Option Purpose
  direction : Option Direction
  manual : Option Bool
  leaf : Option Nat
  plateHeld : Option Bool
  attempt : Option Nat
  airLevel : Option Nat
  lastCount : Option Nat
  lastOutcome : TurnOutcome
  parkWaiting : Bool
  cupHeld : Bool
  settings : TurnerSettings
  valveClosed : Bool
  restoreReleased : Bool
  layEmpty : Bool
deriving DecidableEq, Repr

/-! ## Cradle Mechanics (chapter 4) -/

/-- One platen drive (R66, R67); its position is an input (`Pins.position`). -/
structure Platen where
  setpoint : Nat
  pending : Bool
  logged : Bool
deriving DecidableEq, Repr

inductive GlassState where
  | raised
  | lowering
  | pressed
  | raising
  | halted
deriving DecidableEq, Repr

/-- The target and the two thresholds of the last lowering (R71). -/
structure PressTarget where
  target : Nat
  pressedAt : Nat
  overforceAt : Nat
deriving DecidableEq, Repr

/-- Who waits for the outcome of a raise (R73): a turn or a park of the Leaf Turner. DEDUCED
(notes/assumptions/10.md), unsafe. -/
inductive RaiseWaiter where
  | turn
  | park
deriving DecidableEq, Repr

/-- Cause of the last glass fault and the force measured at it (R69). -/
inductive GlassFault where
  | none
  | timeout (force : Nat)
  | overforce (force : Nat)
deriving DecidableEq, Repr

/-- The glass (R69). `keptRaise` is a raise that is kept until the claim is freed (R73). -/
structure Glass where
  state : GlassState
  requestedForce : Nat
  press : Option PressTarget
  claim : Bool
  waiters : List RaiseWaiter
  keptRaise : Bool
  heldPress : Bool
  fault : GlassFault
deriving DecidableEq, Repr

/-- Cradle Mechanics. `targets` are the unclamped platen targets in µm (R65), absent unless PLACED. The
measured angle is an input (`Pins.angle`). -/
structure Mechanics where
  targets : Option (Sides Nat)
  platens : Sides Platen
  glass : Glass
  angleTarget : Nat
  anglePending : Bool
deriving DecidableEq, Repr

/-! ## The Lamp Controller (R82) -/

inductive Supply where
  | off
  | settling
  | ready
deriving DecidableEq, Repr

inductive Health where
  | uncalibrated
  | good
  | failed
deriving DecidableEq, Repr

inductive IdleStage where
  | active
  | rest
  | dark
  | expired
deriving DecidableEq, Repr

inductive CheckKind where
  | requested
  | periodic
  | full
deriving DecidableEq, Repr

inductive Verdict where
  | accepted
  | drift
  | failed
deriving DecidableEq, Repr

inductive CheckOutcome where
  | complete
  | endedHood
  | endedUncertain
  | refusedDose
deriving DecidableEq, Repr

structure PulseResult where
  reading : Nat
  verdict : Verdict
deriving DecidableEq, Repr

/-- The two faces that a check's pulses are charged to, with the volume's slot (R98). -/
structure BoundFaces where
  slot : SlotId
  faces : Sides Nat
deriving DecidableEq, Repr

/-- A reference check that waits or runs (R95, R98). `remaining` are the banks not yet judged, in order; `lit`
tells whether the first of them is being pulsed; `hoodEnded` that the hood has opened under it (R101). -/
structure Check where
  kind : CheckKind
  banks : BankSet
  remaining : List Bank
  results : Banks (Option PulseResult)
  bound : Option BoundFaces
  lit : Bool
  hoodEnded : Bool
deriving DecidableEq, Repr

/-- The lighting resource (R82, R93). -/
inductive Holder where
  | free
  | capture
  | check (c : Check)
deriving DecidableEq, Repr

/-- The last check record (R98). -/
structure CheckRecord where
  kind : CheckKind
  banks : BankSet
  results : Banks (Option PulseResult)
  bound : Option BoundFaces
  outcome : CheckOutcome
deriving DecidableEq, Repr

/-- The Lamp Controller's record (R82). `settleRun` is the interval the settle in progress began with (R83).
`settleUs`, `idleUs` and `reservoirUs` are the model's own sub-counters of the clock, in µs. `fixedBanks` and
`captureCost` are the banks and the cost fixed at a capture's grant (R94). -/
structure Lamps where
  supply : Supply
  settle : Nat
  settleRun : Nat
  settleUs : Nat
  health : Banks Health
  fullScale : Banks (Option Nat)
  lastReading : Banks (Option Nat)
  drive : Banks Nat
  duration : Sides Nat
  spill : Nat
  aimingLevel : Nat
  restLevel : Nat
  aimingCut : Bool
  tRest : Nat
  tDark : Nat
  tSupply : Nat
  idleStage : IdleStage
  idleElapsed : Nat
  idleUs : Nat
  reservoir : Nat
  reservoirUs : Nat
  counter : Nat
  interval : Nat
  rotation : Bool
  pointer : Bank
  fullCheck : Bool
  tolerance : Nat
  failLimit : Nat
  deferrals : Nat
  holder : Holder
  waitingCapture : Bool
  waitingCheck : Option Check
  lastCheck : Option CheckRecord
  fixedBanks : BankSet
  captureCost : Nat
deriving DecidableEq, Repr

/-! ## The Dose Unit (R104) -/

/-- The capture settle record (R104): totals in lx·ms before the first charge, and for each side the doses its
strobe gives to the two faces, predicted once it has started and actual once it has ended. -/
structure CaptureSettle where
  slot : SlotId
  faces : Sides Nat
  before : Sides Nat
  volumeBefore : Nat
  predicted : Sides (Option (Sides Nat))
  actual : Sides (Option (Sides Nat))
deriving DecidableEq, Repr

/-- The pulse settle record (R104). -/
structure PulseSettle where
  bound : BoundFaces
  before : Sides Nat
  volumeBefore : Nat
  bank : Bank
  predicted : Sides Nat
deriving DecidableEq, Repr

/-- The aiming interval that runs (R104): `elapsedUs` is the time elapsed in it, in µs; `level` the level and
`lux` the illuminance on each face for which it was charged. -/
structure AimInterval where
  elapsedUs : Nat
  level : Nat
  lux : Sides Nat
deriving DecidableEq, Repr

/-- The Dose Unit's four records (R104). The aiming light is lit while an interval runs (R117). -/
structure DoseUnit where
  captureSettle : Option CaptureSettle
  pulseSettle : Option PulseSettle
  aiming : Option AimInterval
  lastRefusal : Option Nat
deriving DecidableEq, Repr

/-! ## Refusal reasons (R164) -/

inductive Reason where
  | queueFull
  | unknownKind
  | badLength
  | badValue
  | wrongState
  | busy
  | noVolume
  | uncertain
  | storeFull
  | notExported
  | endOfVolume
  | hoodOpen
  | notCalibrated
  | noLight
  | doseFace
  | doseVolume
  | wrongFrame
deriving DecidableEq, Repr

/-! ## The Capture Unit (R120) -/

inductive CaptureState where
  | none
  | arming
  | exposing
  | receiptWait
  | acceptWait
  | released
deriving DecidableEq, Repr

inductive Progress where
  | notRequested
  | triggered
  | delay
  | lit
  | awaitFall
  | done
deriving DecidableEq, Repr

inductive CaptureOutcome where
  | none
  | released
  | rejected
  | voidTimeout
  | voidStop
  | voidGlass
  | endedGlass
  | endedLight
  | endedDose
  | endedStore
  | refused (reason : Reason)
deriving DecidableEq, Repr

/-- How the press of an ARMING capture was answered (R124); the model's own record of the wait. -/
inductive PressAnswer where
  | none
  | pressed
  | noGlass
deriving DecidableEq, Repr

/-- The Capture Unit's record (R120). `trigger` is each camera's trigger output, asserted while outstanding
(R121). `admitted` are the strobe doses predicted at admission (R100), `faceDoses` the sums of actual doses
handed over by the Dose Unit (R112), `litUs` the time each lit strobe has been lit, in µs (R127). -/
structure Capture where
  state : CaptureState
  voiding : Bool
  sides : Option CaptureSides
  opening : Option Nat
  take : Option Nat
  hold : Option Bool
  release : Option ReleaseMode
  manual : Option Bool
  progress : Sides Progress
  frame : Sides (Option Frame)
  receipt : Sides Bool
  duration : Sides Nat
  flags : EntryFlags
  entry : Option Nat
  lastOutcome : CaptureOutcome
  counter : Sides Frame
  releaseMode : ReleaseMode
  timeout : Nat
  strobeDelay : Sides Nat
  pedalCapture : Bool
  trigger : Sides Bool
  press : PressAnswer
  admitted : Sides Nat
  faceDoses : Sides Nat
  litUs : Sides Nat
deriving DecidableEq, Repr

/-! ## The Pause Logic (R139) -/

inductive PauseState where
  | running
  | paused
  | pausedBroken
deriving DecidableEq, Repr

inductive PauseCause where
  | stop
  | hood
deriving DecidableEq, Repr

inductive LineFunction where
  | none
  | stop
  | pedal
  | hood
  | signal
deriving DecidableEq, Repr

inductive EdgeSelection where
  | rising
  | falling
  | both
deriving DecidableEq, Repr

inductive EdgeKind where
  | rising
  | falling
deriving DecidableEq, Repr

/-- Pending edges of a line (R142). -/
structure PendingEdges where
  count : Nat
  last : Option EdgeKind
deriving DecidableEq, Repr

/-- A request in the deferred slot, with its fields as they arrived (R147). -/
inductive Deferred where
  | turn (direction flags : Nat)
  | capture (sides : Nat)
deriving DecidableEq, Repr

inductive DeferredOutcome where
  | none
  | started
  | refused (reason : Reason)
deriving DecidableEq, Repr

inductive PedalAction where
  | none
  | manualDone
  | accept
  | capture
  | ignored
deriving DecidableEq, Repr

/-- One auxiliary line as the Pause Logic holds it (R139, R140); `window` tells whether a debounce window is
open. The sampled level is an input (`Pins.aux`). -/
structure Aux where
  func : LineFunction
  edge : EdgeSelection
  debounced : Bool
  window : Bool
  edges : PendingEdges
deriving DecidableEq, Repr

/-- The Pause Logic's record (R139). -/
structure Pause where
  state : PauseState
  cause : Option PauseCause
  brokenPhase : Option Nat
  lines : Lines Aux
  hoodOpen : Bool
  deferred : Option Deferred
  lastDeferred : DeferredOutcome
  lastPedal : PedalAction
deriving DecidableEq, Repr

/-! ## The Condition Summary (R151) -/

/-- The nine classes, highest first (R152). -/
inductive CondClass where
  | halt
  | uncertain
  | dose
  | lamp
  | turn
  | capture
  | store
  | aux
  | link
deriving DecidableEq, Repr

/-- What a latched class holds (R151). -/
structure Latched where
  detail : Nat
  arg : Nat
  repeated : Bool
deriving DecidableEq, Repr

/-- The latch of each class, absent while the class is not latched. -/
structure Latches where
  halt : Option Latched
  uncertain : Option Latched
  dose : Option Latched
  lamp : Option Latched
  turn : Option Latched
  capture : Option Latched
  store : Option Latched
  aux : Option Latched
  link : Option Latched
deriving DecidableEq, Repr

/-- The summary's record (R151). Bit k−1 of the mask stands for class k (R170). -/
structure Summary where
  latches : Latches
  mask : BitVec 9
  elevated : Option CondClass
  outstanding : Bool
deriving DecidableEq, Repr

/-! ## The Link Port (chapter 10) -/

/-- The receive framer (R161), each state with what it has received so far. -/
inductive Framer where
  | hunt
  | length (first : Option Byte)
  | header (length : Nat) (kind : Option Byte)
  | payload (length : Nat) (kind tag : Byte) (received : List Byte)
  | check (length : Nat) (kind tag : Byte) (received : List Byte) (first : Option Byte)
deriving DecidableEq, Repr

/-- The outcome byte of an own-kind reply (R164, R170). -/
inductive OwnOutcome where
  | taken
  | started
  | deferred
deriving DecidableEq, Repr

/-- One item of a reply (R170, R171): bytes that are always present, or an item of `width` bytes that may be
absent. -/
inductive Item where
  | bytes (bs : List Byte)
  | opt (width : Nat) (bs : Option (List Byte))
deriving DecidableEq, Repr

/-- What a reply says (R164): its own kind with an outcome and items (`presence` is the width of the presence
field its layout uses), or a refusal with its reason and field index. -/
inductive Answer where
  | own (outcome : OwnOutcome) (presence : Nat) (items : List Item)
  | refused (reason : Reason) (field : Nat)
deriving DecidableEq, Repr

/-- A reply in the reply list (R163): `kind` is the request's kind; `queueFull` marks the refusals that have
no place in the request queue. -/
structure Reply where
  kind : Nat
  tag : Nat
  answer : Answer
  queueFull : Bool
deriving DecidableEq, Repr

/-- A request that holds a place in the request queue (R163). -/
structure Queued where
  kind : Nat
  tag : Nat
deriving DecidableEq, Repr

/-- Which of the three kinds of outgoing frame is on the line (R165). -/
inductive SendingKind where
  | reply
  | attention
  | chunk
deriving DecidableEq, Repr

/-- The frame on the line (R160, R165): its kind byte, its tag and its payload. -/
structure Sending where
  what : SendingKind
  kind : Nat
  tag : Nat
  payload : List Byte
deriving DecidableEq, Repr

/-- The Link Port. `chunkAge` is the aging count of the waiting export chunk, absent when none waits (R165,
R166); `resetting` is set from a taken RESET until the restart (R168). The reply being sent stays at the head
of `replies`, and its request at the head of `queue`, until it has been sent whole (R163). -/
structure Link where
  framer : Framer
  queue : List Queued
  replies : List Reply
  attentionQueued : Bool
  chunkAge : Option Nat
  sending : Option Sending
  resetting : Bool
  rate : Nat
deriving DecidableEq, Repr

/-! ## The whole part -/

structure State where
  pending : List Instr
  store : Store
  tracker : Tracker
  turner : Turner
  mech : Mechanics
  lamps : Lamps
  dose : DoseUnit
  capture : Capture
  pause : Pause
  summary : Summary
  link : Link
  pins : Pins
deriving DecidableEq, Repr

/-! ## The values after a restart -/

/-- No flag set. -/
def EntryFlags.empty : EntryFlags :=
  { under := false, singleBank := false, focusLimit := false, noGlass := false, manual := false }

/-- The restart values of the turner's settings (R44). -/
def TurnerSettings.default : TurnerSettings :=
  { reach := 1500, lift := 1500, carry := 3000, lay := 1500, ret := 3000, limit := 3 }

/-- The Lamp Controller after any restart (R82). DESIGN CHOICE (notes/assumptions/5.md), unsafe. -/
def Lamps.restarted : Lamps :=
  { supply := .off, settle := 1500, settleRun := 1500, settleUs := 0
    health := Banks.all .uncalibrated, fullScale := Banks.all none, lastReading := Banks.all none
    drive := Banks.all 0, duration := Sides.both 4000, spill := 0
    aimingLevel := 0, restLevel := 0, aimingCut := false
    tRest := 20, tDark := 120, tSupply := 600, idleStage := .active, idleElapsed := 0, idleUs := 0
    reservoir := 0, reservoirUs := 0
    counter := 0, interval := 40, rotation := true, pointer := .la, fullCheck := false
    tolerance := 30, failLimit := 200, deferrals := 0
    holder := .free, waitingCapture := false, waitingCheck := none, lastCheck := none
    fixedBanks := Banks.all false, captureCost := 0 }

/-- The Dose Unit after any restart (R104). -/
def DoseUnit.restarted : DoseUnit :=
  { captureSettle := none, pulseSettle := none, aiming := none, lastRefusal := none }

/-- The Capture Unit after any restart, with the release mode of R120. DESIGN CHOICE (notes/assumptions/5.md), unsafe. -/
def Capture.restarted (mode : ReleaseMode) : Capture :=
  { state := .none, voiding := false, sides := none, opening := none, take := none, hold := none
    release := none, manual := none, progress := Sides.both .notRequested, frame := Sides.both none
    receipt := Sides.both false, duration := Sides.both 0, flags := EntryFlags.empty, entry := none
    lastOutcome := .none, counter := Sides.both 0, releaseMode := mode, timeout := 500
    strobeDelay := Sides.both 0, pedalCapture := false, trigger := Sides.both false, press := .none
    admitted := Sides.both 0, faceDoses := Sides.both 0, litUs := Sides.both 0 }

/-- A line after any restart: no window, no pending edge, the sampled level debounced at once (R139, R140). -/
def Aux.restarted (func : LineFunction) (level : Bool) : Aux :=
  { func := func, edge := .rising, debounced := level, window := false, edges := { count := 0, last := none } }

/-- The lines after any restart (R139). -/
def Aux.restartedLines (levels : Lines Bool) : Lines Aux :=
  { aux0 := Aux.restarted .stop levels.aux0, aux1 := Aux.restarted .pedal levels.aux1
    aux2 := Aux.restarted .hood levels.aux2, aux3 := Aux.restarted .signal levels.aux3 }

/-- No class latched. -/
def Latches.empty : Latches :=
  { halt := none, uncertain := none, dose := none, lamp := none, turn := none, capture := none
    store := none, aux := none, link := none }

/-- The Condition Summary after any restart: all nine classes enabled (R151). -/
def Summary.restarted : Summary :=
  { latches := Latches.empty, mask := 0x1FF, elevated := none, outstanding := false }

/-- The Link Port after any restart, with the latched rate (R169). -/
def Link.restarted (rate : Nat) : Link :=
  { framer := .hunt, queue := [], replies := [], attentionQueued := false, chunkAge := none
    sending := none, resetting := false, rate := rate }

/-- The input lines at the first power-on. DESIGN CHOICE (notes/assumptions/2.md), unsafe: the spec says what
the lines mean and not what they read; the part stands at rest with the arm home, the glass at its raised
stop, the hood closed and no button pressed. -/
def Pins.atRest : Pins :=
  { straps := 0, aux := { aux0 := true, aux1 := true, aux2 := false, aux3 := true }
    home := true, farEnd := false, hold := false, cupEmpty := true, raisedStop := true, force := 0
    position := Sides.both 0, angle := 80, exposureActive := Sides.both false }

/-- The part right after the first power-on of a new part: every slot FREE (R20), every volatile record at its restart
values, the straps at 00 (R159), nothing waiting. DEDUCED (notes/assumptions/20.md), safe. -/
def State.reset : State :=
  { pending := []
    store := { slots := { s0 := .free, s1 := .free, s2 := .free, s3 := .free }, stream := none }
    tracker := { state := .noVolume, slot := none, n := none, lastPlaced := some 0, doseLogged := false }
    turner :=
      { state := .idle, step := .running, purpose := none, direction := none, manual := none, leaf := none
        plateHeld := none, attempt := none, airLevel := none, lastCount := none, lastOutcome := .none
        parkWaiting := false, cupHeld := false, settings := TurnerSettings.default, valveClosed := false
        restoreReleased := false, layEmpty := false }
    mech :=
      { targets := none
        platens := Sides.both { setpoint := 0, pending := false, logged := false }
        glass :=
          { state := .raised, requestedForce := 0, press := none, claim := false, waiters := []
            keptRaise := false, heldPress := false, fault := .none }
        angleTarget := 80, anglePending := false }
    lamps := Lamps.restarted
    dose := DoseUnit.restarted
    capture := Capture.restarted .onAccept
    pause :=
      { state := .running, cause := none, brokenPhase := none, lines := Aux.restartedLines Pins.atRest.aux
        hoodOpen := false, deferred := none, lastDeferred := .none, lastPedal := .none }
    summary := Summary.restarted
    link := Link.restarted 115200
    pins := Pins.atRest }

end Sys2Proof.Machine
end

