-- ==== Sys2Proof/Machine/Operands.lean ====
section
/-! DEFINITION. The operand forms: how numbers, codes, sets, text and records are carried as bytes (chapter 11),
how a request's fields are read and judged, and the two roundings of the manual's arithmetic. -/

namespace Sys2Proof.Machine

/-! ## Rounding and bytes -/

/-- Division rounded up, "to the next whole number at or above it" (00_scope.md, Rounding). -/
def ceilDiv (a b : Nat) : Nat := (a + (b - 1)) / b

/-- An unsigned integer as `width` little-endian bytes (R170). -/
def le : Nat → Nat → List Byte
  | 0, _ => []
  | width + 1, v => BitVec.ofNat 8 v :: le width (v / 256)

/-- The integer that little-endian bytes carry (R170). -/
def ofLe : List Byte → Nat
  | [] => 0
  | b :: bs => b.toNat + 256 * ofLe bs

/-- The integer in the `width` bytes at an offset of a payload (chapter 11's layouts). -/
def fieldAt (payload : List Byte) (offset width : Nat) : Nat := ofLe ((payload.drop offset).take width)

/-- A text or record of bytes padded with 0x00 to its full width (R170). -/
def padTo (width : Nat) (bs : List Byte) : List Byte := bs ++ List.replicate (width - bs.length) 0

def bit (b : Bool) : Nat := if b then 1 else 0

/-! ## CRC (R160) -/

/-- One bit of the CRC: polynomial 0x1021, most significant bit first. -/
def crcShift (c : BitVec 16) : BitVec 16 := if c.msb then (c <<< 1) ^^^ 0x1021 else c <<< 1

/-- One byte entering the CRC. -/
def crcByte (c : BitVec 16) (b : Byte) : BitVec 16 :=
  crcShift (crcShift (crcShift (crcShift (crcShift (crcShift (crcShift (crcShift
    (c ^^^ (b.zeroExtend 16 <<< 8)))))))))

/-- The CRC-16 of a frame: starting value 0xFFFF, not inverted or reflected. -/
def crc16 (bs : List Byte) : BitVec 16 := bs.foldl crcByte 0xFFFF

/-- The bytes of a frame that the CRC covers: length, kind, tag, payload (R160). -/
def frameBody (kind tag : Nat) (payload : List Byte) : List Byte :=
  le 2 payload.length ++ (le 1 kind ++ (le 1 tag ++ payload))

/-- A whole frame as it crosses the link (R160, section 11.3). -/
def frameBytes (kind tag : Nat) (payload : List Byte) : List Byte :=
  0xC3 :: (frameBody kind tag payload ++ le 2 (crc16 (frameBody kind tag payload)).toNat)

/-- The bytes of the frame that the transmitter is sending. -/
def Sending.wire (f : Sending) : List Byte := frameBytes f.kind f.tag f.payload

/-! ## Codes of state values (R170's common codes; R171 for enumerations that no table numbers) -/

def SlotState.code : SlotState → Nat
  | .free => 0
  | .opened => 1
  | .closed => 2
  | .exported => 3

def TrackerState.code : TrackerState → Nat
  | .noVolume => 0
  | .unplaced => 1
  | .placed => 2
  | .uncertain => 3

def TurnerState.code : TurnerState → Nat
  | .idle => 0
  | .reach => 1
  | .lift => 2
  | .separate => 3
  | .restore => 4
  | .carry => 5
  | .lay => 6
  | .ret => 7
  | .manualWait => 8
  | .halted => 9

def TurnerStep.code : TurnerStep → Nat
  | .glassWait => 0
  | .running => 1

def Purpose.code : Purpose → Nat
  | .turn => 0
  | .failureReturn => 1
  | .park => 2

def Direction.code : Direction → Nat
  | .forward => 1
  | .back => 2

def TurnOutcome.code : TurnOutcome → Nat
  | .none => 0
  | .done => 1
  | .failed => 2
  | .glassFailed => 3
  | .cancelled => 4
  | .timeout => 5
  | .broken => 6
  | .parked => 7
  | .parkFailed => 8

def GlassState.code : GlassState → Nat
  | .raised => 0
  | .lowering => 1
  | .pressed => 2
  | .raising => 3
  | .halted => 4

def GlassFault.code : GlassFault → Nat
  | .none => 0
  | .timeout _ => 1
  | .overforce _ => 2

def GlassFault.force : GlassFault → Nat
  | .none => 0
  | .timeout f => f
  | .overforce f => f

def GlassMode.code : GlassMode → Nat
  | .press => 0
  | .none => 1

def ReleaseMode.code : ReleaseMode → Nat
  | .onReceipt => 0
  | .onAccept => 1

def Supply.code : Supply → Nat
  | .off => 0
  | .settling => 1
  | .ready => 2

def Health.code : Health → Nat
  | .uncalibrated => 0
  | .good => 1
  | .failed => 2

def IdleStage.code : IdleStage → Nat
  | .active => 0
  | .rest => 1
  | .dark => 2
  | .expired => 3

def CheckKind.code : CheckKind → Nat
  | .requested => 0
  | .periodic => 1
  | .full => 2

/-- The code of a verdict (R171), in the order in which R96's table first lists each: ACCEPTED, FAILED, DRIFT. DESIGN
CHOICE (notes/assumptions/15.md), unsafe. -/
def Verdict.code : Verdict → Nat
  | .accepted => 0
  | .failed => 1
  | .drift => 2

/-- The number of a check's outcome (R152, LAMP CHECK_DONE). -/
def CheckOutcome.code : CheckOutcome → Nat
  | .complete => 1
  | .endedHood => 2
  | .endedUncertain => 3
  | .refusedDose => 4

def CaptureState.code : CaptureState → Nat
  | .none => 0
  | .arming => 1
  | .exposing => 2
  | .receiptWait => 3
  | .acceptWait => 4
  | .released => 5

def Progress.code : Progress → Nat
  | .notRequested => 0
  | .triggered => 1
  | .delay => 2
  | .lit => 3
  | .awaitFall => 4
  | .done => 5

def CaptureSides.code : CaptureSides → Nat
  | .both => 1
  | .left => 2
  | .right => 3

def EntryStatus.code : EntryStatus → Nat
  | .pending => 0
  | .accepted => 1
  | .rejected => 2
  | .void => 3

def PauseState.code : PauseState → Nat
  | .running => 0
  | .paused => 1
  | .pausedBroken => 2

/-- The number of a pause cause (R40, PAUSE_BROKEN). -/
def PauseCause.code : PauseCause → Nat
  | .stop => 1
  | .hood => 2

def LineFunction.code : LineFunction → Nat
  | .none => 0
  | .stop => 1
  | .pedal => 2
  | .hood => 3
  | .signal => 4

def EdgeSelection.code : EdgeSelection → Nat
  | .rising => 0
  | .falling => 1
  | .both => 2

/-- The number of an edge (R152, AUX): 1 rising, 2 falling. -/
def EdgeKind.code : EdgeKind → Nat
  | .rising => 1
  | .falling => 2

def PedalAction.code : PedalAction → Nat
  | .none => 0
  | .manualDone => 1
  | .accept => 2
  | .capture => 3
  | .ignored => 4

/-- The numbers of the refusal reasons (R164). -/
def Reason.number : Reason → Nat
  | .queueFull => 1
  | .unknownKind => 2
  | .badLength => 3
  | .badValue => 4
  | .wrongState => 5
  | .busy => 6
  | .noVolume => 7
  | .uncertain => 8
  | .storeFull => 9
  | .notExported => 10
  | .endOfVolume => 11
  | .hoodOpen => 12
  | .notCalibrated => 13
  | .noLight => 14
  | .doseFace => 15
  | .doseVolume => 16
  | .wrongFrame => 17

/-- A capture's last outcome, with the reason byte that follows it (R171). -/
def CaptureOutcome.codes : CaptureOutcome → List Byte
  | .none => [0, 0]
  | .released => [1, 0]
  | .rejected => [2, 0]
  | .voidTimeout => [3, 0]
  | .voidStop => [4, 0]
  | .voidGlass => [5, 0]
  | .endedGlass => [6, 0]
  | .endedLight => [7, 0]
  | .endedDose => [8, 0]
  | .endedStore => [9, 0]
  | .refused r => [10, BitVec.ofNat 8 r.number]

/-- A deferred request's outcome, with the reason byte that follows it (R171). -/
def DeferredOutcome.codes : DeferredOutcome → List Byte
  | .none => [0, 0]
  | .started => [1, 0]
  | .refused r => [2, BitVec.ofNat 8 r.number]

/-- The code of an incident kind (section 11.6). -/
def IncidentKind.code : IncidentKind → Nat
  | .doubleLeaf => 1
  | .noLift => 2
  | .turnFailed => 3
  | .turnTimeout => 4
  | .manualTurn => 5
  | .skipped => 6
  | .pauseBroken => 7
  | .reseat => 8
  | .restart => 9
  | .strayFrame => 10
  | .lampDrift => 11
  | .lampFailed => 12
  | .doseLimit => 13
  | .platenLimit => 14
  | .glassFault => 15
  | .extended => 16
  | .closed => 17

/-- Side of a platen, a camera: 1 left, 2 right (R40, R170). -/
def sideCode : Side → Nat
  | .left => 1
  | .right => 2

/-! ## Sets as bits (R170) -/

/-- Bit 0 LA, bit 1 LB, bit 2 RA, bit 3 RB. -/
def bankSetCode (q : BankSet) : Nat := bit q.la + 2 * bit q.lb + 4 * bit q.ra + 8 * bit q.rb

/-- Bit 0 FOLDOUT, bit 1 PLATE, bit 2 HOLD. -/
def MarkKinds.code (k : MarkKinds) : Nat := bit k.foldout + 2 * bit k.plate + 4 * bit k.hold

/-- Bits 0 to 4: UNDER, SINGLE_BANK, FOCUS_LIMIT, NO_GLASS, MANUAL. -/
def EntryFlags.code (f : EntryFlags) : Nat :=
  bit f.under + 2 * bit f.singleBank + 4 * bit f.focusLimit + 8 * bit f.noGlass + 16 * bit f.manual

/-- The bank set a byte names: not empty, no bit outside the four (R97). -/
def bankSetOf? (code : Nat) : Option BankSet :=
  if code = 0 ∨ 16 ≤ code then none
  else some { la := code.testBit 0, lb := code.testBit 1, ra := code.testBit 2, rb := code.testBit 3 }

/-- The mark kinds a byte names: not empty, no bit outside the three (R8). -/
def markKindsOf? (code : Nat) : Option MarkKinds :=
  if code = 0 ∨ 8 ≤ code then none
  else some { foldout := code.testBit 0, plate := code.testBit 1, hold := code.testBit 2 }

/-- The two turn flags, skip and manual, of a flags byte with no other bit set (R46). -/
def turnFlagsOf? (code : Nat) : Option (Bool × Bool) :=
  if 4 ≤ code then none else some (code.testBit 0, code.testBit 1)

def directionOf? : Nat → Option Direction
  | 1 => some .forward
  | 2 => some .back
  | _ => none

def captureSidesOf? : Nat → Option CaptureSides
  | 1 => some .both
  | 2 => some .left
  | 3 => some .right
  | _ => none

def cameraOf? : Nat → Option Side
  | 1 => some .left
  | 2 => some .right
  | _ => none

def lineFunctionOf? : Nat → Option LineFunction
  | 0 => some .none
  | 1 => some .stop
  | 2 => some .pedal
  | 3 => some .hood
  | 4 => some .signal
  | _ => none

def edgeSelectionOf? : Nat → Option EdgeSelection
  | 0 => some .rising
  | 1 => some .falling
  | 2 => some .both
  | _ => none

/-- Whether a capture of these sides requests a side (R39). -/
def CaptureSides.has : CaptureSides → Side → Bool
  | .both, _ => true
  | .left, .left => true
  | .left, .right => false
  | .right, .left => false
  | .right, .right => true

/-! ## Field checks -/

/-- The index of the first check, in the order given, that fails: "BAD_VALUE at the lowest-numbered field out of
range". Each check is a field index and whether the field is good. DEDUCED (notes/assumptions/16.md), unsafe. -/
def firstBad : List (Nat × Bool) → Option Nat
  | [] => none
  | (index, good) :: rest => if good then firstBad rest else some index

/-- An inclusive range. -/
def within (low high v : Nat) : Bool := low ≤ v && v ≤ high

/-- The bytes of a text field before its first 0x00 (R170). -/
def textOf (bs : List Byte) : List Byte := bs.takeWhile (· != 0)

/-- A text field obeys R170: 0x20 to 0x7E before the first 0x00 and only 0x00 after it. -/
def textGood (bs : List Byte) : Bool :=
  (textOf bs).all (fun b => within 0x20 0x7E b.toNat) && (bs.dropWhile (· != 0)).all (· == 0)

/-- A present shelf mark is good: text of 1 to 40 characters, the first and last not a space (R5, R173). -/
def shelfMarkGood (bs : List Byte) : Bool :=
  textGood bs && within 1 40 (textOf bs).length && (textOf bs).head? != some 0x20
    && (textOf bs).getLast? != some 0x20

/-- Whether field `i` of the payload is present (R173). -/
def fieldPresent (p : RawProfile) (i : Nat) : Bool := p.presence.testBit (i - 1)

/-- The field at which OPEN_VOLUME's profile fails, if any (R5, R173): the presence bits 14 and 15 fail at
index 0, and then every field is judged at its index, the lowest first. -/
def profileBad? (p : RawProfile) : Option Nat :=
  firstBad
    [ (0, !p.presence.testBit 14 && !p.presence.testBit 15),
      (1, fieldPresent p 1 && shelfMarkGood p.shelfMark),
      (2, fieldPresent p 2 && within 1 99 p.partNumber),
      (3, fieldPresent p 3 && within 1 4000 p.leaves),
      (4, fieldPresent p 4 && within 1 9999 p.firstFolio),
      (5, fieldPresent p 5 && within 20 2000 p.thickness),
      (6, fieldPresent p 6 && within 80 140 p.angleLimit),
      (7, fieldPresent p 7 && within 80 140 p.initialAngle && within 80 p.angleLimit p.initialAngle),
      (8, fieldPresent p 8 && within 0 1 p.glassMode),
      (9, fieldPresent p 9 && within 0 2000 p.forceLimit),
      (10, fieldPresent p 10 && within 1 4 p.airLevel),
      (11, fieldPresent p 11 && within 1 4000000 p.pageAllowance),
      (12, fieldPresent p 12 && within 1 4294967295 p.volumeAllowance),
      (13, !fieldPresent p 13 || within 50 99 p.warning),
      (14, fieldPresent p 14 && within 0 1 p.releaseMode) ]

/-- The profile that good fields give; an absent warning threshold is taken as 80 (R5). -/
def profileOf (p : RawProfile) : Profile :=
  { shelfMark := textOf p.shelfMark, partNumber := p.partNumber, leaves := p.leaves
    firstFolio := p.firstFolio, thickness := p.thickness, angleLimit := p.angleLimit
    initialAngle := p.initialAngle, glassMode := if p.glassMode = 0 then .press else .none
    forceLimit := p.forceLimit, airLevel := p.airLevel, pageAllowance := p.pageAllowance
    volumeAllowance := p.volumeAllowance, warning := if fieldPresent p 13 then p.warning else 80
    releaseMode := if p.releaseMode = 0 then .onReceipt else .onAccept }

/-- OPEN_VOLUME's payload read from its 65 bytes (section 11.4). -/
def profileOfBytes (b : List Byte) : RawProfile :=
  { presence := fieldAt b 0 2, shelfMark := (b.drop 2).take 40, partNumber := fieldAt b 42 1
    leaves := fieldAt b 43 2, firstFolio := fieldAt b 45 2, thickness := fieldAt b 47 2
    angleLimit := fieldAt b 49 1, initialAngle := fieldAt b 50 1, glassMode := fieldAt b 51 1
    forceLimit := fieldAt b 52 2, airLevel := fieldAt b 54 1, pageAllowance := fieldAt b 55 4
    volumeAllowance := fieldAt b 59 4, warning := fieldAt b 63 1, releaseMode := fieldAt b 64 1 }

/-- The same payload as its 65 bytes. -/
def profileToBytes (p : RawProfile) : List Byte :=
  le 2 p.presence ++ padTo 40 p.shelfMark ++ le 1 p.partNumber ++ le 2 p.leaves ++ le 2 p.firstFolio
    ++ le 2 p.thickness ++ le 1 p.angleLimit ++ le 1 p.initialAngle ++ le 1 p.glassMode
    ++ le 2 p.forceLimit ++ le 1 p.airLevel ++ le 4 p.pageAllowance ++ le 4 p.volumeAllowance
    ++ le 1 p.warning ++ le 1 p.releaseMode

/-- A held profile in the OPEN_VOLUME layout, every presence bit set (R173). -/
def Profile.toBytes (p : Profile) : List Byte :=
  profileToBytes
    { presence := 0x3FFF, shelfMark := p.shelfMark, partNumber := p.partNumber, leaves := p.leaves
      firstFolio := p.firstFolio, thickness := p.thickness, angleLimit := p.angleLimit
      initialAngle := p.initialAngle, glassMode := p.glassMode.code, forceLimit := p.forceLimit
      airLevel := p.airLevel, pageAllowance := p.pageAllowance, volumeAllowance := p.volumeAllowance
      warning := p.warning, releaseMode := p.releaseMode.code }

/-! ## Items of a reply (R170, R171) -/

/-- An item of one, two or four bytes, or as many as given. -/
def u (width v : Nat) : Item := .bytes (le width v)

/-- An item that may be absent. -/
def ou (width : Nat) (v : Option Nat) : Item := .opt width (v.map (le width))

/-- A flag, "clear or set": 1 when it is set (R171). A sensor's reading and what a reply says "whether" of are carried
alike. DESIGN CHOICE (notes/assumptions/15.md), unsafe. -/
def flagItem (b : Bool) : Item := u 1 (bit b)

/-- The code of an item whose rule lists first the value for which `b` is true: "Yes or no" (R44, R120), "held or
free" (R69), "Taken or not" (R120), each 0 for the first (R171); "Yes when" (R44, R120) is read alike. DESIGN CHOICE
(notes/assumptions/15.md), unsafe. -/
def firstCode (b : Bool) : Nat := bit !b

/-- Such an item of a reply. -/
def listedItem (b : Bool) : Item := u 1 (firstCode b)

def Item.body : Item → List Byte
  | .bytes bs => bs
  | .opt _ (some bs) => bs
  | .opt width none => List.replicate width 0

/-- The presence bits of the items that may be absent, first item lowest (R171). -/
def presenceBits : List Item → Nat
  | [] => 0
  | .bytes _ :: rest => presenceBits rest
  | .opt _ v :: rest => bit v.isSome + 2 * presenceBits rest

/-- Whether some item of a reply may be absent. -/
def anyOptional : List Item → Bool
  | [] => false
  | .bytes _ :: rest => anyOptional rest
  | .opt _ _ :: _ => true

/-- The outcome byte (R170). -/
def OwnOutcome.code : OwnOutcome → Nat
  | .taken => 1
  | .started => 2
  | .deferred => 3

/-- A reply's payload (R164, R170, R171, section 11.3). -/
def Answer.payload (kind : Nat) : Answer → List Byte
  | .own outcome presence items =>
    le 1 outcome.code ++ (if anyOptional items then le presence (presenceBits items) else [])
      ++ items.flatMap Item.body
  | .refused reason field => le 1 kind ++ le 1 reason.number ++ le 1 field

/-- A reply's kind: the request's with its high bit set, or 0xFF for a refusal (R164). -/
def Answer.kindByte (kind : Nat) : Answer → Nat
  | .own _ _ _ => kind + 128
  | .refused _ _ => 255

/-- "Its own kind" with outcome TAKEN, and with outcome STARTED (R164). -/
def taken (items : List Item) : Answer := .own .taken 4 items
def started (items : List Item) : Answer := .own .started 4 items
/-- Answered DEFERRED: "the outcome byte alone" (R170). -/
def deferredAnswer : Answer := .own .deferred 4 []

/-! ## Request kinds (R172) -/

/-- The payload length of each request kind, absent for a kind that is no request. -/
def requestLength? : Nat → Option Nat
  | 0x01 => some 65
  | 0x02 => some 2
  | 0x03 => some 0
  | 0x04 => some 1
  | 0x05 => some 1
  | 0x06 => some 0
  | 0x07 => some 0
  | 0x08 => some 4
  | 0x09 => some 3
  | 0x0A => some 2
  | 0x0B => some 2
  | 0x0C => some 0
  | 0x10 => some 2
  | 0x11 => some 0
  | 0x12 => some 1
  | 0x13 => some 0
  | 0x14 => some 11
  | 0x15 => some 0
  | 0x18 => some 2
  | 0x19 => some 0
  | 0x1A => some 1
  | 0x1B => some 0
  | 0x20 => some 0
  | 0x21 => some 0
  | 0x22 => some 14
  | 0x23 => some 2
  | 0x24 => some 8
  | 0x25 => some 1
  | 0x26 => some 6
  | 0x27 => some 0
  | 0x30 => some 1
  | 0x31 => some 5
  | 0x32 => some 0
  | 0x33 => some 0
  | 0x34 => some 8
  | 0x35 => some 0
  | 0x38 => some 0
  | 0x39 => some 8
  | 0x3A => some 0
  | 0x40 => some 0
  | 0x41 => some 3
  | 0x48 => some 0
  | 0x49 => some 0
  | _ => none

end Sys2Proof.Machine
end

