-- ==== Sys2Proof/Machine/Flags.lean ====
section
/-! DEFINITION. The Condition Summary's flags: what a report latches, when it asks for an attention frame, and
which class an attention frame names (chapter 9). -/

namespace Sys2Proof.Machine

/-- A class's number, which is its precedence (R152). -/
def CondClass.number : CondClass → Nat
  | .halt => 1
  | .uncertain => 2
  | .dose => 3
  | .lamp => 4
  | .turn => 5
  | .capture => 6
  | .store => 7
  | .aux => 8
  | .link => 9

/-- The classes in class-number order. -/
def CondClass.all : List CondClass :=
  [.halt, .uncertain, .dose, .lamp, .turn, .capture, .store, .aux, .link]

/-- The class that a number from 1 to 9 names (R157). -/
def CondClass.ofNumber? : Nat → Option CondClass
  | 1 => some .halt
  | 2 => some .uncertain
  | 3 => some .dose
  | 4 => some .lamp
  | 5 => some .turn
  | 6 => some .capture
  | 7 => some .store
  | 8 => some .aux
  | 9 => some .link
  | _ => none

/-- Whether a class is in a class set: bit k−1 for class k (R170). -/
def inMask (mask : BitVec 9) (c : CondClass) : Bool := mask.getLsbD (c.number - 1)

/-- Every condition that a block reports, one constructor for each row of R152 with its argument. -/
inductive Condition where
  | haltStop
  | haltHood
  | haltDeferredRefused (reason : Reason)
  | uncertainBroken (phase : Nat)
  | uncertainTimeout (phase : Nat)
  | uncertainRestart (cause : Nat)
  | doseWarn (face : Nat)
  | doseLimit (face : Nat)
  | doseAimCut (face : Nat)
  | lampDrift (bank : Bank)
  | lampFailed (bank : Bank)
  | lampSettled
  | lampCheckDone (outcome : CheckOutcome)
  | turnDone (opening : Nat)
  | turnFailed (cause : Nat)
  | turnParkFailed (cause : Nat)
  | captureReady (take : Nat)
  | captureTimeout (camera : Side)
  | captureGlass
  | storeLow (free : Nat)
  | storeLost (kind : Nat)
  | auxSignal (line : AuxLine) (edge : EdgeKind)
  | linkBadCrc (length : Nat)
  | linkGap (length : Nat)
  | linkOverlength (length : Nat)
deriving DecidableEq, Repr

/-- The class of a condition (R152). -/
def Condition.cls : Condition → CondClass
  | .haltStop => .halt
  | .haltHood => .halt
  | .haltDeferredRefused _ => .halt
  | .uncertainBroken _ => .uncertain
  | .uncertainTimeout _ => .uncertain
  | .uncertainRestart _ => .uncertain
  | .doseWarn _ => .dose
  | .doseLimit _ => .dose
  | .doseAimCut _ => .dose
  | .lampDrift _ => .lamp
  | .lampFailed _ => .lamp
  | .lampSettled => .lamp
  | .lampCheckDone _ => .lamp
  | .turnDone _ => .turn
  | .turnFailed _ => .turn
  | .turnParkFailed _ => .turn
  | .captureReady _ => .capture
  | .captureTimeout _ => .capture
  | .captureGlass => .capture
  | .storeLow _ => .store
  | .storeLost _ => .store
  | .auxSignal _ _ => .aux
  | .linkBadCrc _ => .link
  | .linkGap _ => .link
  | .linkOverlength _ => .link

/-- The detail number of a condition (R152). -/
def Condition.detail : Condition → Nat
  | .haltStop => 1
  | .haltHood => 2
  | .haltDeferredRefused _ => 3
  | .uncertainBroken _ => 1
  | .uncertainTimeout _ => 2
  | .uncertainRestart _ => 3
  | .doseWarn _ => 1
  | .doseLimit _ => 2
  | .doseAimCut _ => 3
  | .lampDrift _ => 1
  | .lampFailed _ => 2
  | .lampSettled => 3
  | .lampCheckDone _ => 4
  | .turnDone _ => 1
  | .turnFailed _ => 2
  | .turnParkFailed _ => 3
  | .captureReady _ => 1
  | .captureTimeout _ => 2
  | .captureGlass => 3
  | .storeLow _ => 1
  | .storeLost _ => 2
  | .auxSignal line _ => line.number
  | .linkBadCrc _ => 1
  | .linkGap _ => 2
  | .linkOverlength _ => 3

/-- The argument of a condition (R152). -/
def Condition.arg : Condition → Nat
  | .haltStop => 0
  | .haltHood => 0
  | .haltDeferredRefused reason => reason.number
  | .uncertainBroken phase => phase
  | .uncertainTimeout phase => phase
  | .uncertainRestart cause => cause
  | .doseWarn face => face
  | .doseLimit face => face
  | .doseAimCut face => face
  | .lampDrift bank => bank.number
  | .lampFailed bank => bank.number
  | .lampSettled => 0
  | .lampCheckDone outcome => outcome.code
  | .turnDone opening => opening
  | .turnFailed cause => cause
  | .turnParkFailed cause => cause
  | .captureReady take => take
  | .captureTimeout camera => sideCode camera
  | .captureGlass => 0
  | .storeLow free => free
  | .storeLost kind => kind
  | .auxSignal _ edge => edge.code
  | .linkBadCrc length => length
  | .linkGap length => length
  | .linkOverlength length => length

def Latches.get (l : Latches) : CondClass → Option Latched
  | .halt => l.halt
  | .uncertain => l.uncertain
  | .dose => l.dose
  | .lamp => l.lamp
  | .turn => l.turn
  | .capture => l.capture
  | .store => l.store
  | .aux => l.aux
  | .link => l.link

def Latches.set (l : Latches) (c : CondClass) (v : Option Latched) : Latches :=
  match c with
  | .halt => { l with halt := v }
  | .uncertain => { l with uncertain := v }
  | .dose => { l with dose := v }
  | .lamp => { l with lamp := v }
  | .turn => { l with turn := v }
  | .capture => { l with capture := v }
  | .store => { l with store := v }
  | .aux => { l with aux := v }
  | .link => { l with link := v }

/-- What a class holds after a report (R153): the first report is kept, a further one sets the repeated flag. -/
def latchedBy (old : Option Latched) (k : Condition) : Latched :=
  match old with
  | none => { detail := k.detail, arg := k.arg, repeated := false }
  | some x => { x with repeated := true }

/-- The summary asks for an attention frame: one is queued (a queued one stays) and the flag is set (R154). -/
def askAttention (s : State) : State :=
  { s with
    summary := { s.summary with outstanding := true }
    link := { s.link with attentionQueued := true } }

/-- A block reports a condition (R153), and the summary judges attention (R154). -/
def latch (s : State) (k : Condition) : State :=
  let held : State :=
    { s with summary :=
      { s.summary with latches := s.summary.latches.set k.cls (some (latchedBy (s.summary.latches.get k.cls) k)) } }
  if inMask s.summary.mask k.cls && !s.summary.outstanding then askAttention held else held

/-- Whether some class of the mask is latched (R155, R157). -/
def anyEnabledLatched (m : Summary) : Bool :=
  CondClass.all.any fun c => inMask m.mask c && (m.latches.get c).isSome

/-- The class an attention frame names (R155): the elevated class when it is latched, else the lowest-numbered
latched class of the mask. -/
def namedClass? (m : Summary) : Option CondClass :=
  match m.elevated with
  | some e =>
    if (m.latches.get e).isSome then some e
    else CondClass.all.find? fun c => inMask m.mask c && (m.latches.get c).isSome
  | none => CondClass.all.find? fun c => inMask m.mask c && (m.latches.get c).isSome

/-- The set of all latched classes, enabled or not, as bits (R155, R170). -/
def latchedSet (l : Latches) : Nat :=
  bit l.halt.isSome + 2 * bit l.uncertain.isSome + 4 * bit l.dose.isSome + 8 * bit l.lamp.isSome
    + 16 * bit l.turn.isSome + 32 * bit l.capture.isSome + 64 * bit l.store.isSome
    + 128 * bit l.aux.isSome + 256 * bit l.link.isSome

/-- A class record: number, detail, argument, repeated flag (section 11.5). -/
def classRecord (c : CondClass) (x : Latched) : List Byte :=
  le 1 c.number ++ le 1 x.detail ++ le 2 x.arg ++ le 1 (bit x.repeated)

/-- The payload of an attention frame that names a class (section 11.5). -/
def attentionPayload (m : Summary) (c : CondClass) : List Byte :=
  (match m.latches.get c with
    | some x => classRecord c x
    | none => []) ++ le 2 (latchedSet m.latches)

/-- The class records of a STATUS reply, in class-number order (R156). -/
def statusRecords (m : Summary) : List Byte :=
  CondClass.all.flatMap fun c =>
    match m.latches.get c with
    | some x => classRecord c x
    | none => []

/-- STATUS clears every class and the attention-outstanding flag (R156). -/
def clearSummary (m : Summary) : Summary := { m with latches := Latches.empty, outstanding := false }

end Sys2Proof.Machine
end

