-- ==== Sys2Proof/Machine/Ops.lean ====
section
/-! DEFINITION. The named operations over the Accounting Store (slots, pools, logs, face records, marks) and over
the Link Port's transmit side, which every block shares. -/

namespace Sys2Proof.Machine

open Sys2Proof.Config

/-! ## Doses (R104, R107) -/

/-- A total in lx·ms: whole lx·s times 1000, plus the remainder (R104). -/
def Dose.total (d : Dose) : Nat := d.whole * 1000 + d.rem

/-- A total split into whole lx·s and remainder (R107). -/
def Dose.ofTotal (t : Nat) : Dose := { whole := t / 1000, rem := t % 1000 }

/-- A dose in lx·ms added to an accumulated dose (R107). -/
def Dose.add (d : Dose) (more : Nat) : Dose :=
  { whole := d.whole + (d.rem + more) / 1000, rem := (d.rem + more) % 1000 }

/-! ## Face records (R22): a list of (face number, record) in one canonical form -/

/-- The record of a face that has received no light. -/
def FaceRec.zero : FaceRec := { dose := { whole := 0, rem := 0 }, exposures := 0 }

/-- What the record of a face reads: an unlisted face is all zero. DEDUCED (notes/assumptions/19.md), safe. -/
def facesGet : List (Nat × FaceRec) → Nat → FaceRec
  | [], _ => FaceRec.zero
  | (g, r) :: rest, f => if g = f then r else facesGet rest f

/-- The record of a face written, keeping the form: rising face numbers, no all-zero record listed. -/
def facesSet : List (Nat × FaceRec) → Nat → FaceRec → List (Nat × FaceRec)
  | [], f, r => if r = FaceRec.zero then [] else [(f, r)]
  | (g, x) :: rest, f, r =>
    if f < g then (if r = FaceRec.zero then (g, x) :: rest else (f, r) :: (g, x) :: rest)
    else if f = g then (if r = FaceRec.zero then rest else (f, r) :: rest)
    else (g, x) :: facesSet rest f r

/-- The canonical form: face numbers strictly rise from above `low`'s predecessor, and no record is all zero. -/
def facesWfFrom : Nat → List (Nat × FaceRec) → Bool
  | _, [] => true
  | low, (g, r) :: rest => low ≤ g && r != FaceRec.zero && facesWfFrom (g + 1) rest

def facesWf (fs : List (Nat × FaceRec)) : Bool := facesWfFrom 0 fs

/-- EXTEND_VOLUME's renumbering (R27): the record of face 2L+1 moves to face 2L'+1, and every other face keeps
its record; the faces between are new and all zero. -/
def facesRenumber (fs : List (Nat × FaceRec)) (leaves leaves' : Nat) : List (Nat × FaceRec) :=
  facesSet (facesSet fs (2 * leaves + 1) FaceRec.zero) (2 * leaves' + 1) (facesGet fs (2 * leaves + 1))

/-! ## Slots and pools (R20, R21) -/

def Slots.get (q : Slots) : SlotId → Slot
  | .s0 => q.s0
  | .s1 => q.s1
  | .s2 => q.s2
  | .s3 => q.s3

def Slots.set (q : Slots) (i : SlotId) (v : Slot) : Slots :=
  match i with
  | .s0 => { q with s0 := v }
  | .s1 => { q with s1 := v }
  | .s2 => { q with s2 := v }
  | .s3 => { q with s3 := v }

def Slot.state : Slot → SlotState
  | .free => .free
  | .opened _ => .opened
  | .closed _ => .closed
  | .exported _ => .exported

/-- The volume record of a slot that is not FREE. -/
def Slot.volume? : Slot → Option Volume
  | .free => none
  | .opened v => some v
  | .closed v => some v
  | .exported v => some v

/-- The volume record of a slot that is OPEN. -/
def Slot.opened? : Slot → Option Volume
  | .opened v => some v
  | _ => none

/-- Face records a slot holds: 2L+2 unless FREE (R21). -/
def Slot.faceCount (q : Slot) : Nat :=
  match q.volume? with
  | some v => 2 * v.profile.leaves + 2
  | none => 0

/-- Log entries a slot holds (R21). -/
def Slot.entryCount (q : Slot) : Nat :=
  match q.volume? with
  | some v => v.log.length
  | none => 0

def usedEntries (q : Slots) : Nat :=
  q.s0.entryCount + q.s1.entryCount + q.s2.entryCount + q.s3.entryCount

def usedFaces (q : Slots) : Nat := q.s0.faceCount + q.s1.faceCount + q.s2.faceCount + q.s3.faceCount

/-- The free log entries and the free face records (R21). -/
def freeEntries (s : State) : Nat := logPool - usedEntries s.store.slots
def freeFaces (s : State) : Nat := facePool - usedFaces s.store.slots

/-- The OPEN slot with its volume, if a slot is OPEN (at most one is, R20). -/
def openSlot? (q : Slots) : Option (SlotId × Volume) :=
  match q.s0.opened?, q.s1.opened?, q.s2.opened?, q.s3.opened? with
  | some v, _, _, _ => some (.s0, v)
  | none, some v, _, _ => some (.s1, v)
  | none, none, some v, _ => some (.s2, v)
  | none, none, none, some v => some (.s3, v)
  | none, none, none, none => none

def openVolume? (s : State) : Option Volume := (openSlot? s.store.slots).map Prod.snd

/-- The lowest-numbered FREE slot (R25). -/
def lowestFree? (q : Slots) : Option SlotId := SlotId.all.find? fun i => (q.get i).state = .free

def setSlot (s : State) (i : SlotId) (v : Slot) : State :=
  { s with store := { s.store with slots := s.store.slots.set i v } }

/-- A write to the OPEN volume's record; with no slot OPEN the store takes no write (R30). -/
def onOpen (s : State) (f : Volume → Volume) : State :=
  match openSlot? s.store.slots with
  | some (i, v) => setSlot s i (.opened (f v))
  | none => s

/-- A write to the record of one slot, which the store takes only while that slot is OPEN (R30). -/
def onOpenSlot (s : State) (i : SlotId) (f : Volume → Volume) : State :=
  match s.store.slots.get i with
  | .opened v => setSlot s i (.opened (f v))
  | _ => s

/-- L of the OPEN volume, 0 with no volume OPEN. -/
def openLeaves (s : State) : Nat :=
  match openVolume? s with
  | some v => v.profile.leaves
  | none => 0

/-! ## The log (R38 to R42) -/

/-- The opening field of an entry: n at the moment of append, or 0 when n has no value (R38). -/
def openingField (s : State) : Nat := s.tracker.n.getD 0

/-- After an append: STORE LOW when 256 or fewer free log entries are left (R42). -/
def latchLow (s : State) : State :=
  if freeEntries s ≤ lowMark then latch s (.storeLow (freeEntries s)) else s

/-- An append that finds no free entry: the log-complete flag is cleared and STORE INCIDENT_LOST latched, with
the code of the kind that was not stored (R41, R42). -/
def loseEntry (s : State) (code : Nat) : State :=
  latch (onOpen s fun v => { v with logComplete := false }) (.storeLost code)

/-- An entry put at the end of the OPEN volume's log with the clock's value as its timestamp. -/
def storeEntry (s : State) (body : EntryBody) : State :=
  onOpen s fun v =>
    { v with log := v.log ++ [{ opening := openingField s, timestamp := v.clock, body := body }] }

/-- An incident append (R42). With no volume OPEN the store takes nothing (R30). -/
def appendIncident (s : State) (kind : IncidentKind) (detail second : Nat) : State :=
  match openVolume? s with
  | none => s
  | some _ =>
    if freeEntries s = 0 then loseEntry s kind.code
    else
      latchLow (onOpen (storeEntry s (.incident kind detail second))
        fun v => { v with incidentCount := v.incidentCount + 1 })

/-- A capture entry as its header fields leave it: PENDING, with the result fields at their starting values
(R39). -/
def CaptureEntry.header (take : Nat) (sides : CaptureSides) : CaptureEntry :=
  { take := take, sides := sides, frames := Sides.both none, doses := Sides.both 0
    durations := Sides.both 0, banks := Banks.all false, flags := EntryFlags.empty, status := .pending }

/-- Whether the store can take a capture entry now (R41). -/
def captureAppendable (s : State) : Bool := (openVolume? s).isSome && freeEntries s != 0

/-- A capture append that the store takes (R41, R42). -/
def appendCapture (s : State) (take : Nat) (sides : CaptureSides) : State :=
  latchLow (onOpen (storeEntry s (.capture (CaptureEntry.header take sides)))
    fun v => { v with captureCount := v.captureCount + 1 })

/-- The entry is a capture entry whose status is PENDING. -/
def Entry.isPending (e : Entry) : Bool :=
  match e.body with
  | .capture c => c.status = .pending
  | .incident _ _ _ => false

/-- A write to a capture entry, taken only while its status is PENDING (R39). -/
def Entry.onPending (f : CaptureEntry → CaptureEntry) (e : Entry) : Entry :=
  match e.body with
  | .capture c => if c.status = .pending then { e with body := .capture (f c) } else e
  | .incident _ _ _ => e

/-- A write to the PENDING capture entry of the OPEN volume's log, of which there is at most one (R39). -/
def onPendingEntry (s : State) (f : CaptureEntry → CaptureEntry) : State :=
  onOpen s fun v => { v with log := v.log.map (Entry.onPending f) }

/-- The PENDING entry's status changed (R39). -/
def setPendingStatus (s : State) (status : EntryStatus) : State :=
  onPendingEntry s fun c => { c with status := status }

/-- The number of capture entries of a log with an opening field (R122, R123). -/
def takesAt (log : List Entry) (opening : Nat) : Nat :=
  (log.filter fun e =>
    match e.body with
    | .capture _ => e.opening = opening
    | .incident _ _ _ => false).length

/-! ## Marks (R7 to R10) -/

/-- The kinds of a leaf's mark record, none set where it has no record. -/
def marksOf (marks : List Mark) (leaf : Nat) : MarkKinds :=
  match marks.find? (fun m => m.leaf = leaf) with
  | some m => m.kinds
  | none => { foldout := false, plate := false, hold := false }

/-- A record inserted at its place in leaf order, or its kinds replaced (R8). -/
def marksInsert : List Mark → Mark → List Mark
  | [], m => [m]
  | x :: rest, m =>
    if m.leaf < x.leaf then m :: x :: rest
    else if m.leaf = x.leaf then m :: rest
    else x :: marksInsert rest m

/-- A leaf's record removed, the others keeping their order (R9). -/
def marksRemove (marks : List Mark) (leaf : Nat) : List Mark := marks.filter fun m => m.leaf ≠ leaf

/-- The mark records shown at an opening: those whose leaf is n−1 or n (R10). -/
def marksShown (marks : List Mark) (n : Nat) : List Mark :=
  marks.filter fun m => m.leaf + 1 = n ∨ m.leaf = n

/-- Whether a mark kind stands on a leaf shown at an opening. -/
def shownPlate (marks : List Mark) (n : Nat) : Bool := (marksShown marks n).any fun m => m.kinds.plate
def shownHold (marks : List Mark) (n : Nat) : Bool := (marksShown marks n).any fun m => m.kinds.hold

/-! ## Faces of an opening (R2, R4) -/

def leftFace (n : Nat) : Nat := 2 * n - 2
def rightFace (n : Nat) : Nat := 2 * n - 1
def facesOf (n : Nat) : Sides Nat := { left := leftFace n, right := rightFace n }

/-- The label of a face: side code and folio number (R4). -/
def faceLabel (p : Profile) (f : Nat) : Nat × Nat :=
  if f = 0 then (0, 0)
  else if f = 2 * p.leaves + 1 then (3, 0)
  else if f % 2 = 1 then (1, p.firstFolio + (f + 1) / 2 - 1)
  else (2, p.firstFolio + f / 2 - 1)

/-- A face record as its 8 bytes (section 11.6). -/
def faceBytes (r : FaceRec) : List Byte := le 4 r.dose.whole ++ le 2 r.dose.rem ++ le 2 r.exposures

/-! ## Export chunks (R31 to R33, sections 2.6 and 11.6) -/

/-- Log chunks and face chunks of a stream (R32). -/
def logChunks (entries : Nat) : Nat := ceilDiv entries 24
def faceChunks (faces : Nat) : Nat := ceilDiv faces 96
/-- The total number of chunks: 2 + ceil(N/24) + ceil(F/96) (R31). -/
def totalChunks (entries faces : Nat) : Nat := 2 + logChunks entries + faceChunks faces

/-- A log entry as its 32 bytes (section 11.6); bytes 12 to 31 of a capture entry are 0 until its results are
written. -/
def entryBytes (index : Nat) (e : Entry) : List Byte :=
  match e.body with
  | .capture c =>
    le 2 index ++ le 1 0 ++ le 1 c.status.code ++ le 2 e.opening ++ le 4 e.timestamp ++ le 1 c.take
      ++ le 1 c.sides.code
      ++ le 1 (c.flags.code + 32 * bit c.frames.left.isSome + 64 * bit c.frames.right.isSome)
      ++ le 1 (bankSetCode c.banks)
      ++ le 4 (match c.frames.left with | some f => f.toNat | none => 0)
      ++ le 4 (match c.frames.right with | some f => f.toNat | none => 0)
      ++ le 3 c.doses.left ++ le 3 c.doses.right ++ le 2 c.durations.left ++ le 2 c.durations.right
  | .incident kind detail second =>
    le 2 index ++ le 1 kind.code ++ le 1 0 ++ le 2 e.opening ++ le 4 e.timestamp ++ le 4 detail
      ++ le 4 second ++ List.replicate 14 0

/-- Entries of a log from `first` on, at most `count`, with their indices. -/
def entriesFrom (log : List Entry) (first count : Nat) : List Byte :=
  ((log.zipIdx.drop first).take count).flatMap fun (e, i) => entryBytes i e

/-- Face records from `first` on, `count` of them, in face order. -/
def faceRecordsFrom (fs : List (Nat × FaceRec)) (first count : Nat) : List Byte :=
  (List.range count).flatMap fun k => faceBytes (facesGet fs (first + k))

/-- The slot state a stream leaves at its end (R33); a stream begun OPEN changes no slot state. -/
def streamLeaves (q : Slots) (t : Stream) : SlotState :=
  match t.start with
  | .closed => .exported
  | .exported => .exported
  | _ => (q.get t.slot).state

/-- The body of a HEADER chunk (section 11.6). -/
def headerBody (t : Stream) : List Byte :=
  le 1 t.start.code ++ t.header.profile.toBytes ++ le 2 t.header.captureCount ++ le 2 t.header.incidentCount
    ++ le 2 t.header.restartCount ++ le 1 (bit t.header.logComplete) ++ le 4 t.header.dose.whole
    ++ le 2 t.header.dose.rem ++ le 4 t.header.clock ++ le 2 t.entries ++ le 2 t.faces
    ++ le 1 t.header.marks.length ++ t.header.marks.flatMap fun m => le 2 m.leaf ++ le 1 m.kinds.code

/-- The payload of the stream's next chunk, built from the store as it stands (R32, R166, section 11.6). -/
def chunkPayload (q : Slots) (t : Stream) : List Byte :=
  let volume := (q.get t.slot).volume?
  let log := match volume with | some v => v.log | none => []
  let faces := match volume with | some v => v.faces | none => []
  let logs := logChunks t.entries
  let head (type first count : Nat) : List Byte := le 1 t.slot.number ++ le 1 type ++ le 2 first ++ le 2 count
  if t.next = 0 then head 1 0 0 ++ headerBody t
  else if t.next ≤ logs then
    let first := (t.next - 1) * 24
    let count := min 24 (t.entries - first)
    head 2 first count ++ entriesFrom log first count
  else if t.next ≤ logs + faceChunks t.faces then
    let first := (t.next - 1 - logs) * 96
    let count := min 96 (t.faces - first)
    head 3 first count ++ faceRecordsFrom faces first count
  else head 4 0 0 ++ le 2 t.entries ++ le 2 t.faces ++ le 1 (streamLeaves q t).code

/-- The next chunk of the stream is its FINAL chunk. -/
def Stream.atFinal (t : Stream) : Bool := t.next + 1 = totalChunks t.entries t.faces

/-! ## The transmit arbiter (R165, R166, R168) -/

/-- The oldest reply in the reply list, put on the line; it stays in the list until it has been sent whole. -/
def sendReply (s : State) : State :=
  match s.link.replies with
  | [] => s
  | r :: _ =>
    { s with link := { s.link with
        sending := some
          { what := .reply, kind := r.answer.kindByte r.kind, tag := r.tag
            payload := r.answer.payload r.kind } } }

/-- The waiting chunk, put on the line (R166). -/
def sendChunk (s : State) : State :=
  match s.store.stream with
  | none => { s with link := { s.link with chunkAge := none } }
  | some t =>
    { s with link := { s.link with
        chunkAge := none
        sending := some
          { what := .chunk, kind := 0xE1, tag := 0, payload := chunkPayload s.store.slots t } } }

/-- What the arbiter chooses after the attention frame: the oldest reply, else the waiting chunk (R165). -/
def sendReplyOrChunk (s : State) : State :=
  match s.link.replies with
  | _ :: _ => sendReply s
  | [] => if s.link.chunkAge.isSome then sendChunk s else s

/-- The queued attention frame is built, or dropped when no enabled class is latched, which clears the flag
and lets the arbiter choose again (R155, R165). -/
def sendAttention (s : State) : State :=
  let taken : State := { s with link := { s.link with attentionQueued := false } }
  if anyEnabledLatched s.summary then
    match namedClass? s.summary with
    | some c =>
      { taken with link := { taken.link with
          sending := some
            { what := .attention, kind := 0xE0, tag := 0, payload := attentionPayload s.summary c } } }
    | none => sendReplyOrChunk { taken with summary := { s.summary with outstanding := false } }
  else sendReplyOrChunk { taken with summary := { s.summary with outstanding := false } }

/-- The transmitter, when it is free, takes the frame that the arbiter chooses (R165). After a taken RESET only
replies are chosen (R168). DESIGN CHOICE (notes/assumptions/6.md), unsafe. -/
def transmit (s : State) : State :=
  match s.link.sending with
  | some _ => s
  | none =>
    if s.link.resetting then sendReply s
    else if s.link.chunkAge = some 4 then sendChunk s
    else if s.link.attentionQueued then sendAttention s
    else sendReplyOrChunk s

/-! ## The arrival of a request (R163, R164, R168) -/

/-- A reply made: it joins the reply list. -/
def makeReply (s : State) (r : Reply) : State :=
  { s with link := { s.link with replies := s.link.replies ++ [r] } }

/-- QUEUE_FULL refusals that wait (R163). -/
def waitingRefusals (l : Link) : Nat := (l.replies.filter fun r => r.queueFull).length

/-- A good frame enters the request queue at its tail (R163). -/
def enqueue (s : State) (kind tag : Nat) : State :=
  { s with link := { s.link with queue := s.link.queue ++ [{ kind := kind, tag := tag }] } }

/-- A good frame of a request arrives (R163): discarded while a RESET is under way (R168); queued, taken at once by
the block that owns its kind, and its reply made; or, with four requests queued, refused QUEUE_FULL, or discarded when
four such refusals wait. `take` is what the owning block does and answers. The transmitter, when free, then takes the
next frame. DEDUCED (notes/assumptions/3.md), safe. -/
def arrive (s : State) (kind tag : Nat) (take : State → State × Answer) : State :=
  if s.link.resetting then s
  else if s.link.queue.length < queueDepth then
    let out := take (enqueue s kind tag)
    transmit (makeReply out.1 { kind := kind, tag := tag, answer := out.2, queueFull := false })
  else if waitingRefusals s.link < queueDepth then
    transmit (makeReply s
      { kind := kind, tag := tag, answer := .refused .queueFull 0, queueFull := true })
  else s

end Sys2Proof.Machine
end

