-- ==== Sys2Proof/Machine/DoseOps.lean ====
section
/-! DEFINITION. The Dose Unit's arithmetic and its writes (chapter 6): illuminance, dose, prediction, charge,
settlement and warning; and the status of a side, which tells which banks fire (R86). -/

namespace Sys2Proof.Machine

open Sys2Proof.Config

/-! ## Which banks fire (R86) -/

inductive SideStatus where
  | noLight
  | notCalibrated
  | usable (single : Bool)
deriving DecidableEq, Repr

def SideStatus.isUsable : SideStatus → Bool
  | .usable _ => true
  | _ => false

def SideStatus.isSingle : SideStatus → Bool
  | .usable single => single
  | _ => false

/-- The refusal reason of a side that is not USABLE (R122). -/
def SideStatus.reason? : SideStatus → Option Reason
  | .noLight => some .noLight
  | .notCalibrated => some .notCalibrated
  | .usable _ => none

/-- The code of a side's status (R171), in the order in which R86 first lists each: NO_LIGHT, NOT_CALIBRATED, USABLE
single-bank, USABLE. DESIGN CHOICE (notes/assumptions/15.md), unsafe. -/
def SideStatus.code : SideStatus → Nat
  | .noLight => 0
  | .notCalibrated => 1
  | .usable true => 2
  | .usable false => 3

/-- The status that two banks' health and drive give their side, the first case of R86 that applies. -/
def statusOf (ha hb : Health) (da db : Nat) : SideStatus :=
  if da = 0 ∧ db = 0 then .noLight
  else
    match ha, hb with
    | .good, .good => .usable false
    | .uncalibrated, .good => .notCalibrated
    | .good, .uncalibrated => .notCalibrated
    | .failed, .good => if db = 0 then .noLight else .usable true
    | .good, .failed => if da = 0 then .noLight else .usable true
    | _, _ => .noLight

/-- The status of a side (R86). -/
def sideStatus (l : Lamps) : Side → SideStatus
  | .left => statusOf l.health.la l.health.lb l.drive.la l.drive.lb
  | .right => statusOf l.health.ra l.health.rb l.drive.ra l.drive.rb

/-- Whether a bank fires in a strobe of its side (R86). -/
def bankFires (l : Lamps) (b : Bank) : Bool :=
  (sideStatus l b.side).isUsable && l.health.get b = .good && l.drive.get b != 0

/-- The banks that fire in a capture of these sides (R86, R94). -/
def firingBanks (l : Lamps) (sides : CaptureSides) : BankSet :=
  { la := sides.has .left && bankFires l .la, lb := sides.has .left && bankFires l .lb
    ra := sides.has .right && bankFires l .ra, rb := sides.has .right && bankFires l .rb }

/-! ## Illuminance and dose (R105, R106, R114, R116) -/

/-- A quantity summed over the two banks of a side. -/
def sumSide (side : Side) (f : Bank → Nat) : Nat :=
  match side with
  | .left => f .la + f .lb
  | .right => f .ra + f .rb

/-- E_b: the illuminance of a bank driven at a level (R105). -/
def bankLux (l : Lamps) (b : Bank) (level : Nat) : Nat :=
  match l.fullScale.get b with
  | some f => ceilDiv (f * level) 1000
  | none => 0

/-- A side's strobe illuminance from the banks of a set (R105). -/
def strobeLux (l : Lamps) (banks : BankSet) (side : Side) : Nat :=
  sumSide side fun b => if banks.get b then bankLux l b (l.drive.get b) else 0

/-- A side's aiming illuminance: its GOOD banks at a level (R116). -/
def aimLux (l : Lamps) (level : Nat) (side : Side) : Nat :=
  sumSide side fun b => if l.health.get b = .good then bankLux l b level else 0

/-- The spill illuminance on the other side's face (R106). -/
def spillLux (l : Lamps) (lux : Nat) : Nat := ceilDiv (lux * l.spill) 1000

/-- Two quantities placed on the faces: one on a side's own face, one on the other. -/
def onFaces (side : Side) (own other : Nat) : Sides Nat :=
  match side with
  | .left => { left := own, right := other }
  | .right => { left := other, right := own }

def addSides (a b : Sides Nat) : Sides Nat := { left := a.left + b.left, right := a.right + b.right }

/-- The dose of a flash of `lux` on one side for `t` µs on the two faces: first the spill, then the dose
(R106). -/
def flashDose (l : Lamps) (side : Side) (lux t : Nat) : Sides Nat :=
  onFaces side (ceilDiv (lux * t) 1000) (ceilDiv (spillLux l lux * t) 1000)

/-- The dose of one side's strobe of `t` µs with the given firing banks (R106). -/
def strobeDose (l : Lamps) (banks : BankSet) (side : Side) (t : Nat) : Sides Nat :=
  flashDose l side (strobeLux l banks side) t

/-- The doses of a capture at its set durations (R106, R110). -/
def captureDose (l : Lamps) (banks : BankSet) (sides : CaptureSides) : Sides Nat :=
  addSides
    (if sides.has .left then strobeDose l banks .left l.duration.left else Sides.both 0)
    (if sides.has .right then strobeDose l banks .right l.duration.right else Sides.both 0)

/-- The dose of a reference pulse of a bank at an illuminance: the rated maximum when it is predicted, the
reading when it is settled (R114, R115). -/
def pulseDose (l : Lamps) (b : Bank) (lux : Nat) : Sides Nat := flashDose l b.side lux pulseTime

/-- The predicted doses of one pulse of each bank of a set (R114). -/
def checkDose (l : Lamps) (banks : BankSet) : Sides Nat :=
  Bank.all.foldl (fun acc b => if banks.get b then addSides acc (pulseDose l b ratedLux) else acc)
    (Sides.both 0)

/-- The illuminance that the aiming light at a level gives each face (R116). -/
def aimFaces (l : Lamps) (level : Nat) : Sides Nat :=
  { left := aimLux l level .left + spillLux l (aimLux l level .right)
    right := aimLux l level .right + spillLux l (aimLux l level .left) }

/-! ## Prediction (R108, R109) -/

/-- The first test of a prediction that fails: the left face, the right face, then the volume (65535); none
when the prediction passes (R108). -/
def predict (v : Volume) (faces dose : Sides Nat) : Option Nat :=
  if v.profile.pageAllowance * 1000 < (facesGet v.faces faces.left).dose.total + dose.left then
    some faces.left
  else if v.profile.pageAllowance * 1000 < (facesGet v.faces faces.right).dose.total + dose.right then
    some faces.right
  else if v.profile.volumeAllowance * 1000 < v.dose.total + dose.left + dose.right then some volumeCode
  else none

/-- The reason a failed prediction is reported with (R109). -/
def doseReason (named : Nat) : Reason := if named = volumeCode then .doseVolume else .doseFace

/-- The DOSE_LIMIT incident, once in a visit (R18): appended when the dose-limit-logged flag is clear, and the
flag set in any case. -/
def logDoseLimit (s : State) (cause named : Nat) : State :=
  let logged := if s.tracker.doseLogged then s else appendIncident s .doseLimit cause named
  { logged with tracker := { logged.tracker with doseLogged := true } }

/-- A prediction for a strobe or a requested pulse fails (R109). -/
def doseRefused (s : State) (named : Nat) : State :=
  let noted : State := { s with dose := { s.dose with lastRefusal := some named } }
  latch (logDoseLimit noted (if named = volumeCode then 2 else 1) named) (.doseLimit named)

/-! ## Charges, settlements and warnings (R107, R111, R112, R115, R119) -/

/-- A charge on the two faces and the volume in one write; a strobe's own face counts one exposure (R107). -/
def chargeVolume (faces dose : Sides Nat) (own : Option Side) (v : Volume) : Volume :=
  let add (r : FaceRec) (d : Nat) (side : Side) : FaceRec :=
    { dose := r.dose.add d
      exposures := if own = some side then min (r.exposures + 1) hold16 else r.exposures }
  { v with
    faces :=
      facesSet (facesSet v.faces faces.left (add (facesGet v.faces faces.left) dose.left .left))
        faces.right (add (facesGet v.faces faces.right) dose.right .right)
    dose := v.dose.add (dose.left + dose.right) }

/-- The warning level of an allowance: exactly w % of it, in lx·ms (R119). -/
def warnLevel (allowance warning : Nat) : Nat := allowance * warning * 10

/-- A total that a charge carries from below a warning level to at or above it (R119). -/
def crosses (level before after : Nat) : Bool := before < level && level ≤ after

/-- DOSE WARN when a charge carries one total across its level. -/
def warnOne (s : State) (level before after named : Nat) : State :=
  if crosses level before after then latch s (.doseWarn named) else s

/-- A charge made on the OPEN volume and judged for warnings: the left face, the right face, the volume (R107,
R119). With no volume OPEN the store takes nothing (R30). -/
def charge (s : State) (faces dose : Sides Nat) (own : Option Side) : State :=
  match openVolume? s with
  | none => s
  | some v =>
    let after := chargeVolume faces dose own v
    let page := warnLevel v.profile.pageAllowance v.profile.warning
    let whole := warnLevel v.profile.volumeAllowance v.profile.warning
    let s := onOpen s (chargeVolume faces dose own)
    let s := warnOne s page (facesGet v.faces faces.left).dose.total
      (facesGet after.faces faces.left).dose.total faces.left
    let s := warnOne s page (facesGet v.faces faces.right).dose.total
      (facesGet after.faces faces.right).dose.total faces.right
    warnOne s whole v.dose.total after.dose.total volumeCode

/-- A settlement: the two face totals and the volume total rewritten, the counts left (R107). -/
def settleVolume (faces totals : Sides Nat) (volumeTotal : Nat) (v : Volume) : Volume :=
  { v with
    faces :=
      facesSet
        (facesSet v.faces faces.left
          { facesGet v.faces faces.left with dose := Dose.ofTotal totals.left })
        faces.right { facesGet v.faces faces.right with dose := Dose.ofTotal totals.right }
    dose := Dose.ofTotal volumeTotal }

/-! ## Strobes (R111, R112) -/

/-- The doses of the strobes of a settle record as they count now: actual for those that have ended, predicted
for those still lit, nothing for those that never started (R112). -/
def countedDose (r : CaptureSettle) (side : Side) : Sides Nat :=
  match r.actual.get side, r.predicted.get side with
  | some d, _ => d
  | none, some d => d
  | none, none => Sides.both 0

/-- The sum of the counted doses over both sides. -/
def countedTotal (r : CaptureSettle) : Sides Nat := addSides (countedDose r .left) (countedDose r .right)

/-- The Dose Unit charges a side's strobe at its start (R111). -/
def chargeStrobe (s : State) (side : Side) : State :=
  match openSlot? s.store.slots, s.capture.opening with
  | some (slot, v), some n =>
    let faces := facesOf n
    let dose := strobeDose s.lamps s.lamps.fixedBanks side (s.lamps.duration.get side)
    let r : CaptureSettle :=
      match s.dose.captureSettle with
      | some r => r
      | none =>
        { slot := slot, faces := faces
          before :=
            { left := (facesGet v.faces faces.left).dose.total
              right := (facesGet v.faces faces.right).dose.total }
          volumeBefore := v.dose.total, predicted := Sides.both none, actual := Sides.both none }
    let noted : State :=
      { s with dose := { s.dose with
          captureSettle := some { r with predicted := r.predicted.set side (some dose) } } }
    charge noted faces dose (some side)
  | _, _ => s

/-- Whether a side's strobe may still start: it waits for its rise or its delay and the capture is not voiding
(R126, R128). -/
def mayStillStart (c : Capture) (side : Side) : Bool :=
  !c.voiding && c.state == .exposing && (c.progress.get side = .triggered || c.progress.get side = .delay)

/-- The settle record is cleared once every started strobe has settled and none can start any more, and the
sums of the actual doses become the entry's face doses (R112). -/
def closeSettle (s : State) : State :=
  match s.dose.captureSettle with
  | none => s
  | some r =>
    if s.capture.progress.left = .lit || s.capture.progress.right = .lit
        || mayStillStart s.capture .left || mayStillStart s.capture .right then s
    else
      { s with
        dose := { s.dose with captureSettle := none }
        capture := { s.capture with faceDoses := countedTotal r } }

/-- The Dose Unit settles a side's strobe at its end, at its actual duration (R112). -/
def settleStrobe (s : State) (side : Side) (actual : Nat) : State :=
  match s.dose.captureSettle with
  | none => s
  | some r =>
    let r := { r with actual := r.actual.set side (some (strobeDose s.lamps s.lamps.fixedBanks side actual)) }
    let sum := countedTotal r
    let noted : State := { s with dose := { s.dose with captureSettle := some r } }
    onOpenSlot noted r.slot
      (settleVolume r.faces (addSides r.before sum) (r.volumeBefore + sum.left + sum.right))

/-! ## Reference pulses (R115) -/

/-- The Dose Unit charges a pulse at its start, at the rated maximum (R115). -/
def chargePulse (s : State) (bound : BoundFaces) (b : Bank) : State :=
  match (s.store.slots.get bound.slot).opened? with
  | none => s
  | some v =>
    let dose := pulseDose s.lamps b ratedLux
    let noted : State :=
      { s with dose := { s.dose with
          pulseSettle := some
            { bound := bound
              before :=
                { left := (facesGet v.faces bound.faces.left).dose.total
                  right := (facesGet v.faces bound.faces.right).dose.total }
              volumeBefore := v.dose.total, bank := b, predicted := dose } } }
    charge noted bound.faces dose none

/-- The Dose Unit settles the pulse to the reading and clears its settle record (R115). -/
def settlePulse (s : State) (reading : Nat) : State :=
  match s.dose.pulseSettle with
  | none => s
  | some p =>
    let actual := pulseDose s.lamps p.bank reading
    let cleared : State := { s with dose := { s.dose with pulseSettle := none } }
    onOpenSlot cleared p.bound.slot
      (settleVolume p.bound.faces (addSides p.before actual)
        (p.volumeBefore + actual.left + actual.right))

end Sys2Proof.Machine
end

