-- ==== Sys2Proof/Machine/LampOps.lean ====
section
/-! DEFINITION. The Lamp Controller's shared operations: the supply (R83), the idle timer (R90), the aiming
light (R88, R116 to R118) and the banks' outputs. -/

namespace Sys2Proof.Machine

open Sys2Proof.Config

/-! ## What holds the idle timer (R90) -/

def captureRuns (c : Capture) : Bool := c.state = .arming || c.state = .exposing

/-- A reference check holds the lighting resource. -/
def checkHolds (l : Lamps) : Bool :=
  match l.holder with
  | .check _ => true
  | _ => false

def captureHolds (l : Lamps) : Bool :=
  match l.holder with
  | .capture => true
  | _ => false

/-- A reference check waits for or holds the lighting resource (R90, R97, R102). -/
def checkActive (l : Lamps) : Bool := l.waitingCheck.isSome || checkHolds l

/-- The lighting resource is held, a claimant waits for it, or a capture is in ARMING or EXPOSING: the cases in
which LAMPS_OFF and SET_LIGHTING are refused BUSY (R84, R87). -/
def lightingBusy (s : State) : Bool :=
  s.lamps.holder != .free || s.lamps.waitingCapture || s.lamps.waitingCheck.isSome || captureRuns s.capture

/-- The idle timer does not count while a capture is in ARMING or EXPOSING or a check waits or holds (R90). -/
def idleHeld (s : State) : Bool := captureRuns s.capture || checkActive s.lamps

/-- The idle timer restarted at zero in stage ACTIVE (R90). -/
def idleRestart (s : State) : State :=
  { s with lamps := { s.lamps with idleStage := .active, idleElapsed := 0, idleUs := 0 } }

/-- "When the last of these ends, it restarts at zero" (R90), said of the end of a check. -/
def idleReleased (s : State) : State := if idleHeld s then s else idleRestart s

/-- The stage that an elapsed time gives (R90). -/
def stageOf (l : Lamps) (elapsed : Nat) : IdleStage :=
  if l.tSupply ≤ elapsed then .expired
  else if l.tDark ≤ elapsed then .dark
  else if l.tRest ≤ elapsed then .rest
  else .active

/-- The interval that the timer reaches next in a stage (R90). -/
def idleNext (l : Lamps) : Nat :=
  match l.idleStage with
  | .active => l.tRest
  | .rest => l.tDark
  | .dark => l.tSupply
  | .expired => l.tSupply

/-- A stop sets the idle timer to T_dark elapsed and the stage to DARK; a timer at T_dark or beyond is left (R145 step
7). DESIGN CHOICE (notes/assumptions/8.md), unsafe. -/
def idleDark (s : State) : State :=
  if s.lamps.tDark ≤ s.lamps.idleElapsed then s
  else { s with lamps := { s.lamps with idleStage := .dark, idleElapsed := s.lamps.tDark, idleUs := 0 } }

/-! ## The supply (R83) -/

/-- SETTLING becomes READY, and LAMP SETTLED is latched (R83). -/
def supplyReady (s : State) : State :=
  latch { s with lamps := { s.lamps with supply := .ready } } .lampSettled

/-- The supply asked for: from OFF it enters SETTLING with the counter at K and the full-check flag set, and with
a settle interval of 0 it is READY at once; in any other state nothing changes (R83). -/
def supplyOn (s : State) : State :=
  match s.lamps.supply with
  | .off =>
    let on : State :=
      { s with lamps := { s.lamps with
          supply := .settling, settleRun := s.lamps.settle, settleUs := 0
          counter := s.lamps.interval, fullCheck := true, reservoirUs := 0 } }
    if s.lamps.settle = 0 then supplyReady on else on
  | _ => s

/-- The supply goes OFF and the reservoir is emptied (R83). -/
def supplyOff (s : State) : State :=
  { s with lamps := { s.lamps with supply := .off, reservoir := 0, reservoirUs := 0, settleUs := 0 } }

/-! ## The aiming light (R88, R116 to R118) -/

/-- The level of the idle stage (R88). -/
def stageLevel (l : Lamps) : Nat :=
  match l.idleStage with
  | .active => l.aimingLevel
  | .rest => l.restLevel
  | _ => 0

def anyGood (l : Lamps) : Bool := Bank.all.any fun b => l.health.get b = .good

/-- All the conditions of R88 under which the aiming light is lit. -/
def aimWanted (s : State) : Bool :=
  s.tracker.state = .placed && !s.pause.hoodOpen && s.lamps.supply = .ready && stageLevel s.lamps != 0
    && anyGood s.lamps && !s.lamps.aimingCut && s.lamps.holder = .free

/-- The aiming light goes dark: the interval that runs is abandoned (R117). -/
def aimDark (s : State) : State := { s with dose := { s.dose with aiming := none } }

/-- The dose of one aiming interval on a face: its illuminance times 100 ms (R116). -/
def aimDose (lux : Sides Nat) : Sides Nat := { left := lux.left * 100, right := lux.right * 100 }

/-- The aiming light is cut (R118): the cut flag, the DOSE_LIMIT incident once in the visit, DOSE AIM_CUT. -/
def aimCut (s : State) (named : Nat) : State :=
  let dark := aimDark { s with lamps := { s.lamps with aimingCut := true } }
  latch (logDoseLimit dark 3 named) (.doseAimCut named)

/-- An aiming interval starts: it is predicted, and either charged in full and lit, or cut (R116 to R118). -/
def aimStart (s : State) : State :=
  match openVolume? s, s.tracker.n with
  | some v, some n =>
    let lux := aimFaces s.lamps (stageLevel s.lamps)
    match predict v (facesOf n) (aimDose lux) with
    | some named => aimCut s named
    | none =>
      charge
        { s with dose := { s.dose with
            aiming := some { elapsedUs := 0, level := stageLevel s.lamps, lux := lux } } }
        (facesOf n) (aimDose lux) none
  | _, _ => aimDark s

/-- The Lamp Controller tests the conditions of R88: the light is lit, dimmed or darkened at once. An interval starts
when the light is about to light or when the level has changed; whoever changes another input of R116 abandons the
interval first, so that a new one starts here (R117). DESIGN CHOICE (notes/assumptions/6.md), unsafe. -/
def aimRetest (s : State) : State :=
  if aimWanted s then
    match s.dose.aiming with
    | some iv => if iv.level = stageLevel s.lamps then s else aimStart s
    | none => aimStart s
  else aimDark s

/-! ## The banks' outputs (R88, R94, R95) -/

/-- The level in ‰ at which a bank is driven now: 1000 while its reference pulse is lit, its set drive while it
fires in a lit strobe, the aiming level while the aiming light is lit and the bank GOOD. -/
def bankOutput (s : State) (b : Bank) : Nat :=
  match s.lamps.holder with
  | .check c => if c.lit ∧ c.remaining.head? = some b then 1000 else 0
  | .capture =>
    if s.capture.progress.get b.side = .lit ∧ s.lamps.fixedBanks.get b = true then s.lamps.drive.get b else 0
  | .free =>
    match s.dose.aiming with
    | some iv => if s.lamps.health.get b = .good then iv.level else 0
    | none => 0

end Sys2Proof.Machine
end

