-- ==== Sys2Proof/Machine/GlassOps.lean ====
section
/-! DEFINITION. Cradle Mechanics' shared operations on the platens, the angle and the glass that no other block
answers to: targets and setpoints (R65, R66), the gate (R80), raises and the press claim (R69, R73). -/

namespace Sys2Proof.Machine

open Sys2Proof.Config

def setGlass (s : State) (g : Glass) : State := { s with mech := { s.mech with glass := g } }

/-! ## Platens and angle (R65, R66, R78 to R80) -/

/-- The unclamped platen targets at an opening: the stack counts times the thickness (R65). -/
def platenTargets (p : Profile) (n : Nat) : Sides Nat :=
  { left := (n - 1) * p.thickness, right := (p.leaves + 1 - n) * p.thickness }

/-- A target clamped at the platen travel, and whether it is clamped (R65). -/
def clampTravel (v : Nat) : Nat := min v platenTravel
def isClamped (v : Nat) : Bool := platenTravel < v

/-- A platen is SETTLED when its position equals its setpoint and no move of it is pending (R66). -/
def platenSettled (s : State) (side : Side) : Bool :=
  s.pins.position.get side = (s.mech.platens.get side).setpoint && !(s.mech.platens.get side).pending

def platensSettled (s : State) : Bool := platenSettled s .left && platenSettled s .right

/-- The cradle is SETTLED when the measured angle equals the target and no move is pending (R78, R79). -/
def angleSettled (s : State) : Bool := s.pins.angle = s.mech.angleTarget && !s.mech.anglePending

/-- No platen or angle move runs or is pending (R72). -/
def movesDone (s : State) : Bool := platensSettled s && angleSettled s

/-- Some platen or angle move is pending. -/
def movePending (s : State) : Bool :=
  s.mech.platens.left.pending || s.mech.platens.right.pending || s.mech.anglePending

/-- The mechanics-idle gate is open (R80). -/
def gateOpen (s : State) : Bool :=
  movesDone s && (s.mech.glass.state != .lowering && s.mech.glass.state != .raising)

/-- Whether a requested side of a capture is clamped at this moment (R67). -/
def sideClamped (s : State) (side : Side) : Bool :=
  match s.mech.targets with
  | some t => isClamped (t.get side)
  | none => false

/-! ## Raises (R73) -/

/-- RAISING starts, for whichever reason: the drive ascends and the move time-out starts (R73). With the raised-stop
reading already set it ends only at the next report that it is set. DESIGN CHOICE (notes/assumptions/25.md), unsafe. -/
def glassRaise (s : State) : State :=
  setGlass s { s.mech.glass with state := .raising, keptRaise := false }

/-- A raise asked of a glass that is not RAISED, by a requester that waits for no outcome (R73): kept while the
claim is held. At a RAISED or RAISING glass it changes nothing. -/
def askRaise (s : State) : State :=
  match s.mech.glass.state with
  | .raised => s
  | .raising => s
  | .lowering =>
    if s.mech.glass.claim then setGlass s { s.mech.glass with keptRaise := true } else glassRaise s
  | .pressed =>
    if s.mech.glass.claim then setGlass s { s.mech.glass with keptRaise := true } else glassRaise s
  | .halted => glassRaise s

/-- A raise asked by a requester that waits for its outcome (R73). -/
def askRaiseWaiting (s : State) (w : RaiseWaiter) : State :=
  askRaise (setGlass s { s.mech.glass with waiters := s.mech.glass.waiters ++ [w] })

/-- A requester stops waiting (R62). -/
def dropWaiter (s : State) (w : RaiseWaiter) : State :=
  setGlass s { s.mech.glass with waiters := s.mech.glass.waiters.filter (· ≠ w) }

/-- The press claim is freed; the glass stays where it is, and a kept raise then starts (R69, R73). -/
def freeClaim (s : State) : State :=
  let free := setGlass s { s.mech.glass with claim := false }
  if s.mech.glass.keptRaise && (s.mech.glass.state = .lowering || s.mech.glass.state = .pressed) then
    glassRaise free
  else free

/-! ## Setpoints (R66, R79) -/

/-- New platen setpoints (R66): the drives start at once with the glass RAISED; otherwise the move is pending and
Cradle Mechanics raises the glass. -/
def setPlatens (s : State) (targets : Sides Nat) : State :=
  let wait := s.mech.glass.state != .raised
  let moved : State :=
    { s with mech := { s.mech with platens :=
        { left := { s.mech.platens.left with setpoint := clampTravel targets.left, pending := wait }
          right := { s.mech.platens.right with setpoint := clampTravel targets.right, pending := wait } } } }
  if wait then askRaise moved else moved

/-- A new angle target, which moves like a platen (R79). -/
def setAngleTarget (s : State) (angle : Nat) : State :=
  let wait := s.mech.glass.state != .raised
  let moved : State := { s with mech := { s.mech with angleTarget := angle, anglePending := wait } }
  if wait then askRaise moved else moved

/-- Pending moves start when the glass is RAISED (R66, R73). -/
def startMoves (s : State) : State :=
  { s with mech := { s.mech with
      platens :=
        { left := { s.mech.platens.left with pending := false }
          right := { s.mech.platens.right with pending := false } }
      anglePending := false } }

/-! ## Targets of a visit (R65, R67, R68) -/

/-- PLATEN_LIMIT for one side that is clamped and not yet logged in this visit (R67). -/
def logPlaten (s : State) (side : Side) : State :=
  match s.mech.targets with
  | none => s
  | some t =>
    if isClamped (t.get side) && !(s.mech.platens.get side).logged then
      let noted := appendIncident s .platenLimit (sideCode side) (t.get side)
      { noted with mech := { noted.mech with
          platens := noted.mech.platens.set side { noted.mech.platens.get side with logged := true } } }
    else s

/-- The targets computed for an opening, and each side judged, left then right (R65, R67). -/
def computeTargets (s : State) (n : Nat) : State :=
  match openVolume? s with
  | none => s
  | some v =>
    logPlaten
      (logPlaten { s with mech := { s.mech with targets := some (platenTargets v.profile n) } } .left) .right

/-- The logged flags cleared, as at the start of every visit (R67). -/
def clearPlatenLogs (s : State) : State :=
  { s with mech := { s.mech with platens :=
      { left := { s.mech.platens.left with logged := false }
        right := { s.mech.platens.right with logged := false } } } }

/-- The targets lose their value when the tracker leaves PLACED (R68). -/
def dropTargets (s : State) : State :=
  clearPlatenLogs { s with mech := { s.mech with targets := none } }

/-! ## The thresholds of a press (R71) -/

/-- The press target: the requested force, halved and rounded down when a leaf shown carries PLATE (R71). -/
def pressForce (s : State) : Nat :=
  match openVolume? s, s.tracker.n with
  | some v, some n => if shownPlate v.marks n then s.mech.glass.requestedForce / 2 else s.mech.glass.requestedForce
  | _, _ => s.mech.glass.requestedForce

/-- The target with its thresholds: ceil(target × 95 / 100), and the limit plus a tenth of it rounded down
(R71). -/
def pressTargetOf (target limit : Nat) : PressTarget :=
  { target := target, pressedAt := ceilDiv (target * 95) 100, overforceAt := limit + limit / 10 }

/-- The glass force limit of the OPEN volume's profile, 0 with none OPEN. -/
def forceLimit (s : State) : Nat :=
  match openVolume? s with
  | some v => v.profile.forceLimit
  | none => 0

/-- A GLASS_FAULT recorded and appended (R72 to R74): cause 1 time-out, 2 overforce. -/
def glassFault (s : State) (fault : GlassFault) : State :=
  appendIncident (setGlass s { s.mech.glass with fault := fault }) .glassFault fault.code fault.force

end Sys2Proof.Machine
end

