-- ==== Sys2Proof/Machine/CaptureOps.lean ====
section
/-! DEFINITION. The lighting arbiter and its checks (R93 to R101), the press as the Capture Unit asks for it
(R71, R72), and the ways a capture ends (R125, R128, R129, R131, R134, R135). -/

namespace Sys2Proof.Machine

open Sys2Proof.Config

def setCapture (s : State) (c : Capture) : State := { s with capture := c }
def setLamps (s : State) (l : Lamps) : State := { s with lamps := l }

/-! ## A capture enters NONE -/

/-- The capture enters NONE with an outcome (R125, R128, R134): no side is in progress, no trigger is outstanding, the
press claim is freed, and the idle timer restarts; a receipt taken while it was EXPOSING is discarded (R130). DESIGN
CHOICE (notes/assumptions/13.md), unsafe. -/
def captureToNone (s : State) (outcome : CaptureOutcome) : State :=
  idleRestart (freeClaim (setCapture s
    { s.capture with
        state := .none, voiding := false, progress := Sides.both .notRequested, trigger := Sides.both false
        receipt := Sides.both false, press := .none, entry := none, lastOutcome := outcome
        litUs := Sides.both 0 }))

/-! ## Reference checks: formation and end (R95, R98 to R100) -/

/-- A check as it is formed: no bank pulsed, no face bound. -/
def newCheck (kind : CheckKind) (banks : BankSet) : Check :=
  { kind := kind, banks := banks, remaining := Bank.all.filter fun b => banks.get b
    results := Banks.all none, bound := none, lit := false, hoodEnded := false }

def allBanks : BankSet := Banks.all true

def oneBank (b : Bank) : BankSet := (Banks.all false).set b true

/-- The faces a check binds at its grant: those of the current opening when the tracker is PLACED (R98). -/
def boundNow (s : State) : Option BoundFaces :=
  match s.tracker.state, s.tracker.slot, s.tracker.n with
  | .placed, some slot, some n => some { slot := slot, faces := facesOf n }
  | _, _, _ => none

/-- What a complete check of any kind changes (R98, R99): the counter, the deferrals, the full-check flag of a
check of all four banks, and the pointer after a PERIODIC check of one bank. -/
def completeCheck (l : Lamps) (c : Check) : Lamps :=
  { l with
    counter := 0
    deferrals := 0
    fullCheck := if c.banks = allBanks then false else l.fullCheck
    pointer := if c.kind = .periodic ∧ c.banks = oneBank l.pointer then l.pointer.next else l.pointer }

/-- A check that no longer waits or holds ends with an outcome (R98): its record is written, a complete check
counts, and a requested one latches LAMP CHECK_DONE. The idle timer restarts if nothing else holds it (R90). -/
def finishCheck (s : State) (c : Check) (outcome : CheckOutcome) : State :=
  let counted := if outcome = .complete then completeCheck s.lamps c else s.lamps
  let record : CheckRecord :=
    { kind := c.kind, banks := c.banks, results := c.results, bound := c.bound, outcome := outcome }
  let ended := setLamps s { counted with lastCheck := some record }
  idleReleased (if c.kind = .requested then latch ended (.lampCheckDone outcome) else ended)

/-- A due check whose prediction fails is deferred silently (R99). -/
def deferCheck (s : State) : State :=
  setLamps s { s.lamps with deferrals := min (s.lamps.deferrals + 1) hold16 }

/-- The prediction of a check's pulses, with a further dose added, against bound faces (R98 to R100, R114). A
check with no bound faces is not predicted. -/
def predictCheck (s : State) (c : Check) (bound : Option BoundFaces) (more : Sides Nat) : Option Nat :=
  match bound with
  | none => none
  | some b =>
    match (s.store.slots.get b.slot).opened? with
    | none => none
    | some v => predict v b.faces (addSides (checkDose s.lamps c.banks) more)

/-! ## Grants (R93, R94, R98, R100) -/

/-- The waiting check is granted the free resource (R93, R98, R100), which abandons the aiming interval that runs, even
where the grant ends at once (R117): a requested check is ended UNCERTAIN while the tracker is UNCERTAIN and
REFUSED_DOSE when its prediction fails; a FULL check ahead of a capture is predicted with the capture's strobe doses
and deferred when that fails. -/
def grantCheck (s : State) (c : Check) : State :=
  let bound := boundNow s
  let taken := aimDark (setLamps s { s.lamps with waitingCheck := none })
  let granted : Check := { c with bound := bound }
  match c.kind with
  | .requested =>
    if s.tracker.state = .uncertain then finishCheck taken c .endedUncertain
    else
      match predictCheck s c bound (Sides.both 0) with
      | some named => finishCheck (doseRefused taken named) granted .refusedDose
      | none => setLamps taken { taken.lamps with holder := .check granted }
  | _ =>
    match predictCheck s c bound (if s.lamps.waitingCapture then s.capture.admitted else Sides.both 0) with
    | some _ => deferCheck taken
    | none => setLamps taken { taken.lamps with holder := .check granted }

/-- The units a capture draws: the costs of the banks of a set at their drives and their sides' durations
(R92, R94). -/
def strobeCost (l : Lamps) (banks : BankSet) (side : Side) : Nat :=
  sumSide side fun b => if banks.get b then ceilDiv (l.drive.get b * l.duration.get side) 1000 else 0

/-- The first requested side, left then right, that is not USABLE (R122 check 8, R94). -/
def unusableSide? (l : Lamps) (sides : CaptureSides) : Option SideStatus :=
  if sides.has .left && !(sideStatus l .left).isUsable then some (sideStatus l .left)
  else if sides.has .right && !(sideStatus l .right).isUsable then some (sideStatus l .right)
  else none

/-- Whether a requested side is single-bank (R124). -/
def anySingle (l : Lamps) (sides : CaptureSides) : Bool :=
  (sides.has .left && (sideStatus l .left).isSingle) || (sides.has .right && (sideStatus l .right).isSingle)

/-- The waiting capture is granted the free resource (R94), which abandons the aiming interval that runs (R117): its
sides are read anew, and either it ends for want of light, or its banks and its cost are fixed. -/
def grantCapture (s : State) : State :=
  let sides := s.capture.sides.getD .both
  match unusableSide? s.lamps sides with
  | some _ => captureToNone (aimDark (setLamps s { s.lamps with waitingCapture := false })) .endedLight
  | none =>
    let banks := firingBanks s.lamps sides
    let fixed := aimDark <| setLamps s
      { s.lamps with
          waitingCapture := false, holder := .capture, fixedBanks := banks
          captureCost := strobeCost s.lamps banks .left + strobeCost s.lamps banks .right }
    if anySingle s.lamps sides then
      setCapture fixed { fixed.capture with flags := { fixed.capture.flags with singleBank := true } }
    else fixed

/-- The conditions of a grant (R93): the resource FREE, the supply READY, the hood closed. -/
def grantable (s : State) : Bool :=
  s.lamps.holder = .free && s.lamps.supply = .ready && !s.pause.hoodOpen

/-- The arbiter grants the free resource: a waiting check first, then, if it is still free, a waiting capture (R93).
DEDUCED (notes/assumptions/7.md), unsafe. -/
def grantNext (s : State) : State :=
  let checked :=
    match s.lamps.waitingCheck with
    | some c => if grantable s then grantCheck s c else s
    | none => s
  if grantable checked && checked.lamps.waitingCapture then grantCapture checked else checked

/-- The holder gives the resource up: it becomes FREE, or passes to a claimant that waits (R93, R98, R99). -/
def releaseLighting (s : State) : State := grantNext (setLamps s { s.lamps with holder := .free })

/-- A capture gives up its claim on the lighting: a claim not yet granted leaves the waiting list, with a FULL
check formed ahead of it (R93, R101), and a granted one frees the resource. -/
def withdrawLighting (s : State) : State :=
  let check :=
    match s.lamps.waitingCheck with
    | some c => if c.kind = .full then none else some c
    | none => none
  let left := setLamps s { s.lamps with waitingCapture := false, waitingCheck := check }
  if captureHolds s.lamps then releaseLighting left else left

/-- A capture claims the lighting resource; with the full-check flag set and no check waiting or holding, a FULL
check is formed and claims ahead of it (R93, R100). -/
def claimLighting (s : State) : State :=
  let check := if s.lamps.fullCheck && !checkActive s.lamps then some (newCheck .full allBanks) else s.lamps.waitingCheck
  setLamps s { s.lamps with waitingCapture := true, waitingCheck := check }

/-- The due check that the counter calls for (R99). -/
def dueCheck (l : Lamps) : Check :=
  if l.fullCheck then newCheck .full allBanks
  else newCheck .periodic (if l.rotation then oneBank l.pointer else allBanks)

/-- The reference counter is served at a completed exposure, while the capture still holds the resource (R99). A check is
due with the counter at K, and also below K while the full-check flag is set, since R100 has the full check tried at
the exposure end of a capture that was granted with the flag set. DEDUCED (notes/assumptions/24.md), unsafe. -/
def serveCounter (s : State) : State :=
  let counter := min (s.lamps.counter + 1) s.lamps.interval
  let risen := setLamps s { s.lamps with counter := counter }
  if (counter < s.lamps.interval && !s.lamps.fullCheck) || s.lamps.waitingCheck.isSome then releaseLighting risen
  else
    let due := dueCheck risen.lamps
    let bound := boundNow risen
    match predictCheck risen due bound (Sides.both 0) with
    | some _ => releaseLighting (deferCheck risen)
    | none => setLamps risen { risen.lamps with holder := .check { due with bound := bound } }

/-! ## The press (R71, R72, R124, R125) -/

/-- An ARMING capture ends without an entry (R125): its claims are given up and it enters NONE. -/
def captureEndArming (s : State) (outcome : CaptureOutcome) : State :=
  captureToNone (withdrawLighting s) outcome

/-- The press is answered PRESS_FAILED: the claim is freed with the answer, and the ARMING capture that held it
ends with CAPTURE GLASS (R69, R72, R125). With the claim free there is no one to answer. -/
def pressFailed (s : State) : State :=
  let answered := setGlass s { s.mech.glass with heldPress := false }
  if s.mech.glass.claim then
    let free := freeClaim answered
    if s.capture.state = .arming then latch (captureEndArming free .endedGlass) .captureGlass else free
  else answered

/-- A lowering starts from where the glass stands with the target of R71; a target of 0 gf is not started and
the press fails. The reading of the raised-stop sensor stays as last reported when the glass leaves its stop. DESIGN
CHOICE (notes/assumptions/25.md), unsafe. -/
def startLowering (s : State) : State :=
  if pressForce s = 0 then pressFailed s
  else
    setGlass s { s.mech.glass with
      state := .lowering, heldPress := false, press := some (pressTargetOf (pressForce s) (forceLimit s)) }

/-- The OPEN volume's glass mode is NONE (R69). -/
def glassModeNone (s : State) : Bool := (openVolume? s).map (fun v => v.profile.glassMode) = some .none

/-- A held press starts once the glass is RAISED and no move runs or is pending (R72, R73). In glass mode NONE no lowering
starts (R69), and the press is held no longer. DEDUCED (notes/assumptions/9.md), unsafe. -/
def heldPressGo (s : State) : State :=
  if s.mech.glass.state = .raised && s.mech.glass.heldPress && movesDone s then
    if glassModeNone s then setGlass s { s.mech.glass with heldPress := false } else startLowering s
  else s

/-- The capture has claimed the lighting, or been granted it. -/
def hasClaimed (s : State) : Bool := s.lamps.waitingCapture || captureHolds s.lamps

/-- An ARMING capture claims the lighting once its press is answered and the gate is open (R124). -/
def armPump (s : State) : State :=
  if s.capture.state = .arming && s.capture.press != .none && gateOpen s && !hasClaimed s then claimLighting s
  else s

/-- What a change of the mechanics may set going: a held press, then a capture's claim (R72, R124). -/
def mechPump (s : State) : State := armPump (heldPressGo s)

/-- The press is answered PRESSED (R72). -/
def pressAnswered (s : State) : State :=
  if s.mech.glass.claim && s.capture.state = .arming then
    setCapture s { s.capture with press := .pressed }
  else s

/-- The Capture Unit's press request (R69, R72). -/
def pressRequest (s : State) : State :=
  match (openVolume? s).map (fun v => v.profile.glassMode) with
  | some GlassMode.press =>
    let claimed := setGlass s { s.mech.glass with claim := true }
    match s.mech.glass.state with
    | .raised =>
      if movesDone s then startLowering claimed
      else setGlass claimed { claimed.mech.glass with heldPress := true }
    | .raising => setGlass claimed { claimed.mech.glass with heldPress := true }
    | .lowering => claimed
    | .pressed => pressAnswered claimed
    | .halted =>
      if movePending s then glassRaise (setGlass claimed { claimed.mech.glass with heldPress := true })
      else startLowering claimed
  | _ =>
    setCapture s
      { s.capture with press := .noGlass, flags := { s.capture.flags with noGlass := true } }

/-! ## Strobes end (R112, R126, R127) -/

/-- A lit strobe ends after `actual` µs and is settled; the side's progress becomes `next` (R112, R126, R127). That the
record takes the actual duration here, with the settle, and not at a later fall, is a DESIGN CHOICE
(notes/assumptions/32.md), unsafe. -/
def endStrobe (s : State) (side : Side) (actual : Nat) (next : Progress) : State :=
  closeSettle (settleStrobe (setCapture s
    { s.capture with
        duration := s.capture.duration.set side actual
        progress := s.capture.progress.set side next
        litUs := s.capture.litUs.set side 0 }) side actual)

/-- The actual duration of a strobe cut now: the time it was lit in whole µs rounded up, 1 to the set duration (R127).
DESIGN CHOICE (notes/assumptions/5.md), unsafe. -/
def cutDuration (s : State) (side : Side) : Nat :=
  max 1 (min (s.capture.litUs.get side) (s.lamps.duration.get side))

/-- A side's strobe cut at once, if it is lit (R128, R134). Its line is still high, so the side awaits the fall (R127).
DEDUCED (notes/assumptions/28.md), unsafe. -/
def cutStrobe (s : State) (side : Side) : State :=
  if s.capture.progress.get side = .lit then endStrobe s side (cutDuration s side) .awaitFall else s

/-- No strobe of the capture is lit. -/
def noneLit (s : State) : Bool := s.capture.progress.left != .lit && s.capture.progress.right != .lit

/-! ## The entry's results (R129) -/

/-- The banks fired: those fixed at the grant, for each side whose strobe started (R129). -/
def banksFired (s : State) : BankSet :=
  { la := s.lamps.fixedBanks.la && s.capture.duration.left != 0
    lb := s.lamps.fixedBanks.lb && s.capture.duration.left != 0
    ra := s.lamps.fixedBanks.ra && s.capture.duration.right != 0
    rb := s.lamps.fixedBanks.rb && s.capture.duration.right != 0 }

/-- A requested side is clamped at this moment (R67, R129). -/
def focusLimited (s : State) : Bool :=
  let sides := s.capture.sides.getD .both
  (sides.has .left && sideClamped s .left) || (sides.has .right && sideClamped s .right)

/-- The result fields of the PENDING entry and its status written in one write (R128, R129). FOCUS_LIMIT joins the
entry's flags and not the gathered flags of the record. DESIGN CHOICE (notes/assumptions/26.md), unsafe. -/
def writeResults (s : State) (status : EntryStatus) : State :=
  onPendingEntry s fun c =>
    { c with
      frames := s.capture.frame
      doses := s.capture.faceDoses
      durations := s.capture.duration
      banks := banksFired s
      flags := { s.capture.flags with focusLimit := s.capture.flags.focusLimit || focusLimited s }
      status := status }

/-! ## Voids (R128, R134) -/

/-- The end of a void: the results and the status VOID in one write, the claim freed, the lighting told, and
NONE (R128 steps 4 to 6, R134 steps 2 to 4). -/
def finishVoid (s : State) (outcome : CaptureOutcome) : State :=
  captureToNone (releaseLighting (freeClaim (writeResults s .void))) outcome

/-- The voiding flag set, every trigger withdrawn (R128 steps 1 and 2, R134 step 1). -/
def markVoiding (s : State) : State :=
  setCapture s { s.capture with voiding := true, trigger := Sides.both false }

/-- An EXPOSING capture is voided at once: its lit strobes are cut and settled (R134). A capture already voiding
keeps its VOID_TIMEOUT outcome. -/
def voidExposing (s : State) (outcome : CaptureOutcome) : State :=
  let kept := if s.capture.voiding then .voidTimeout else outcome
  finishVoid (closeSettle (cutStrobe (cutStrobe (markVoiding s) .left) .right)) kept

/-- The Pause Logic's void order (R125, R134). -/
def voidOrder (s : State) : State :=
  match s.capture.state with
  | .arming => captureEndArming s .voidStop
  | .exposing => voidExposing s .voidStop
  | _ => s

/-- PRESS_LOST: the claim is freed by the report, and the capture ends with CAPTURE GLASS (R74, R125, R134). -/
def pressLost (s : State) : State :=
  let free := freeClaim s
  match s.capture.state with
  | .arming => latch (captureEndArming free .endedGlass) .captureGlass
  | .exposing => latch (voidExposing free .voidGlass) .captureGlass
  | _ => free

/-! ## Completion and release (R129, R131) -/

/-- Every required receipt has been taken (R129, R130). -/
def receiptsDone (c : Capture) : Bool :=
  let sides := c.sides.getD .both
  (!sides.has .left || c.receipt.left) && (!sides.has .right || c.receipt.right)

/-- The release decision (R131). -/
def releaseDecision (s : State) : State :=
  match s.capture.release with
  | some .onReceipt =>
    let accepted := setPendingStatus s .accepted
    latch (setCapture accepted
      { accepted.capture with state := .released, entry := none, lastOutcome := .released })
      (.captureReady (s.capture.take.getD 0))
  | _ =>
    latch (setCapture s { s.capture with state := .acceptWait }) (.captureReady (s.capture.take.getD 0))

/-- Every requested side is DONE and the capture is not voiding (R129). -/
def exposureDone (c : Capture) : Bool :=
  let sides := c.sides.getD .both
  c.state = .exposing && !c.voiding && (!sides.has .left || c.progress.left = .done)
    && (!sides.has .right || c.progress.right = .done)

/-- The exposure is complete (R129): results, the reference counter, the claim, the receipts, the idle timer. -/
def exposureComplete (s : State) : State :=
  let served := freeClaim (serveCounter (writeResults (closeSettle s) .pending))
  let waiting := setCapture served { served.capture with state := .receiptWait }
  idleRestart (if receiptsDone waiting.capture then releaseDecision waiting else waiting)

/-- After a side's progress has changed in EXPOSING: completion (R129), or the end of a void once no strobe is
lit any longer (R128 step 4). -/
def exposurePump (s : State) : State :=
  if exposureDone s.capture then exposureComplete s
  else if s.capture.state = .exposing && s.capture.voiding && noneLit s then finishVoid (closeSettle s) .voidTimeout
  else s

/-- ACCEPT and the pedal in ACCEPT_WAIT (R132). -/
def acceptCapture (s : State) : State :=
  let accepted := setPendingStatus s .accepted
  setCapture accepted { accepted.capture with state := .released, entry := none, lastOutcome := .released }

/-! ## Change of opening (R135) -/

/-- The record's capture items become absent and the state NONE; settings, counters and outcome stay (R135). -/
def clearCapture (c : Capture) : Capture :=
  { c with
    state := .none, voiding := false, sides := none, opening := none, take := none, hold := none
    release := none, manual := none, progress := Sides.both .notRequested, frame := Sides.both none
    receipt := Sides.both false, duration := Sides.both 0, flags := EntryFlags.empty, entry := none
    trigger := Sides.both false, press := .none, admitted := Sides.both 0, faceDoses := Sides.both 0
    litUs := Sides.both 0 }

/-- The tracker reports a change of opening (R135). A capture that awaits receipts or acceptance is voided first. No
change of opening arrives in ARMING or EXPOSING (section 7.10); if one did, it would act as a void order. DESIGN
CHOICE (notes/assumptions/14.md), safe. -/
def captureChange (s : State) : State :=
  match s.capture.state with
  | .receiptWait =>
    let voided := setPendingStatus s .void
    setCapture voided { clearCapture voided.capture with lastOutcome := .voidStop }
  | .acceptWait =>
    let voided := setPendingStatus s .void
    setCapture voided { clearCapture voided.capture with lastOutcome := .voidStop }
  | .none => setCapture s (clearCapture s.capture)
  | .released => setCapture s (clearCapture s.capture)
  | .arming =>
    let ended := voidOrder s
    setCapture ended (clearCapture ended.capture)
  | .exposing =>
    let ended := voidOrder s
    setCapture ended (clearCapture ended.capture)

end Sys2Proof.Machine
end

