-- ==== Sys2Proof/Machine/TurnerOps.lean ====
section
/-! DEFINITION. The Opening Tracker's visits (R15 to R17) and the Leaf Turner's phases, attempts, halts and
completions (chapter 3), with the glass reports the turner waits for (R48, R59). -/

namespace Sys2Proof.Machine

open Sys2Proof.Config

def setTurner (s : State) (t : Turner) : State := { s with turner := t }
def setTracker (s : State) (t : Tracker) : State := { s with tracker := t }

/-! ## Visits (R15, R17) -/

/-- What every start of a visit and every leaving of PLACED clears: the dose-limit-logged flag, the capture (R135),
the aiming cut flag (R88) and the aiming interval, whose faces are no longer those shown (R117). -/
def endVisit (s : State) : State :=
  let told := captureChange { s with tracker := { s.tracker with doseLogged := false } }
  aimDark (setLamps told { told.lamps with aimingCut := false })

/-- The tracker becomes PLACED at an opening and a new visit starts (R15, R65, R67). -/
def visitStart (s : State) (n : Nat) : State :=
  let placed := setTracker s { s.tracker with state := .placed, n := some n }
  computeTargets (clearPlatenLogs (endVisit placed)) n

/-- The tracker leaves PLACED: n becomes the last placed opening and has no value (R15, R68). -/
def leavePlaced (s : State) : State :=
  let told := endVisit s
  dropTargets (setTracker told { told.tracker with lastPlaced := s.tracker.n, n := none })

/-- The tracker enters UNCERTAIN on a report and latches its detail (R17). -/
def enterUncertain (s : State) (why : Condition) : State :=
  let left := if s.tracker.state = .placed then leavePlaced s else s
  latch (setTracker left { left.tracker with state := .uncertain }) why

/-- The opening that a turn reaches (R3, R16). -/
def reached (n : Nat) : Direction → Nat
  | .forward => n + 1
  | .back => n - 1

/-- A completed turn is reported to the tracker, which moves n by one and starts a new visit (R16). -/
def turnCompleted (s : State) : State :=
  match s.tracker.n, s.turner.direction with
  | some n, some d => visitStart s (reached n d)
  | _, _ => s

/-! ## What the turner drives (section 3.1) -/

/-- The phases in which the arm is away from home or in motion (R44). -/
def inMotion (t : Turner) : Bool :=
  t.step = .running &&
    (match t.state with
      | .reach => true
      | .lift => true
      | .separate => true
      | .restore => true
      | .carry => true
      | .lay => true
      | .ret => true
      | _ => false)

/-- The air knife blows in SEPARATE alone (R50). -/
def airKnifeOn (t : Turner) : Bool := t.state = .separate && t.step = .running

/-- The vacuum valve opens; the vacuum is gone and the hold sensor with it. DEDUCED
(notes/assumptions/12.md), unsafe. -/
def openValve (s : State) : State :=
  { s with turner := { s.turner with valveClosed := false }, pins := { s.pins with hold := false } }

/-- The arm or the cup leaves its home position, so the home sensor clears. DEDUCED
(notes/assumptions/12.md), unsafe. -/
def leaveHome (s : State) : State := { s with pins := { s.pins with home := false } }

/-- The arm swings away from the left, so the far-end sensor clears. DEDUCED (notes/assumptions/12.md),
unsafe. -/
def leaveFarEnd (s : State) : State := { s with pins := { s.pins with farEnd := false } }

/-! ## Phases (R48 to R54) -/

def setPhase (s : State) (state : TurnerState) : State :=
  setTurner s { s.turner with state := state, step := .running, purpose := none }

/-- LIFT: the cup descends and the valve closes (R49). -/
def enterLift (s : State) : State :=
  let low := leaveHome (setPhase s .lift)
  setTurner low { low.turner with valveClosed := true }

/-- REACH: the arm swings from home to the left; a far-end sensor already set ends it when it begins (R54). -/
def enterReach (s : State) : State :=
  let away := leaveHome (setPhase s .reach)
  if away.pins.farEnd then enterLift away else away

/-- The first phase of an attempt (R55). -/
def startAttempt (s : State) : State :=
  match s.turner.direction with
  | some .back => enterReach s
  | _ => enterLift s

/-- The turner goes to IDLE with an outcome; its step, for which R44 gives no value in IDLE, becomes RUNNING. DESIGN CHOICE
(notes/assumptions/27.md), unsafe. -/
def turnerIdle (s : State) (outcome : TurnOutcome) : State :=
  setTurner s { s.turner with state := .idle, step := .running, purpose := none, lastOutcome := outcome }

/-- The home sensor ends RETURN, by its purpose (R53, R55, R59). -/
def endReturn (s : State) : State :=
  match s.turner.purpose with
  | some .park =>
    let parked := turnerIdle s .parked
    latch parked (.turnDone (openingField parked))
  | some .failureReturn =>
    let idle := turnerIdle s .failed
    latch (appendIncident idle .turnFailed 1 (s.turner.attempt.getD 0)) (.turnFailed 1)
  | _ =>
    let done := turnCompleted (turnerIdle s .done)
    latch done (.turnDone (openingField done))

/-- RETURN with a purpose: the arm swings to home. A home sensor already set ends it when it begins (R53,
R59). -/
def enterReturn (s : State) (purpose : Purpose) : State :=
  let going := leaveFarEnd (setPhase s .ret)
  let going := setTurner going { going.turner with purpose := some purpose }
  if going.pins.home then endReturn going else going

/-- CARRY: the cup rises and the arm swings with the leaf to the other stack (R52). -/
def enterCarry (s : State) : State :=
  match s.turner.direction with
  | some .back => leaveFarEnd (setPhase s .carry)
  | _ => setPhase s .carry

/-- LAY ends when cup-empty has been taken and both platens are SETTLED (R52). -/
def layPump (s : State) : State :=
  if s.turner.state = .lay && s.turner.step = .running && s.turner.layEmpty && platensSettled s then
    enterReturn s .turn
  else s

/-- LAY begins: the cup starts to lower the leaf, and the platens are sent to the offsets of the opening the turn will
reach (R52, R66). The valve stays closed until the leaf is lowered, which a sensor tells: the hold sensor's clearing or
cup-empty (execHoldSensor, execCupEmptySensor). -/
def enterLay (s : State) : State :=
  let low := leaveHome (setPhase s .lay)
  let low := setTurner low { low.turner with layEmpty := false }
  match openVolume? low, low.tracker.n, low.turner.direction with
  | some v, some n, some d => setPlatens low (platenTargets v.profile (reached n d))
  | _, _, _ => low

/-- An attempt ends as NO_LIFT or DOUBLE_LEAF (R55): its incident, then the next attempt or the failure
return. -/
def attemptEnds (s : State) (kind : IncidentKind) (second : Nat) : State :=
  let attempt := s.turner.attempt.getD 0
  let noted := appendIncident s kind attempt second
  if attempt < s.turner.settings.limit then
    startAttempt (setTurner noted { noted.turner with attempt := some (attempt + 1) })
  else enterReturn noted .failureReturn

/-- The valve opens in RESTORE, where the cup rests or stands (R51). -/
def restoreRelease (s : State) : State :=
  let opened := openValve s
  setTurner opened { opened.turner with restoreReleased := true }

/-- RESTORE ends: the air level rises by one to at most 4, unless plate-held, and the attempt ends as
DOUBLE_LEAF with the level at which it ran (R51, R55). -/
def restoreEnds (s : State) : State :=
  let level := s.turner.airLevel.getD 0
  let next := if s.turner.plateHeld = some true then level else min 4 (level + 1)
  attemptEnds (setTurner s { s.turner with airLevel := some next, restoreReleased := false }) .doubleLeaf level

/-! ## Halts (R56, R57) -/

/-- The motors stop and the valve stays closed if the hold sensor is set, or opens; cup held records which
(R56, R57). -/
def stopArm (s : State) : State :=
  if s.pins.hold then setTurner s { s.turner with cupHeld := true, valveClosed := true }
  else
    let opened := openValve s
    setTurner opened { opened.turner with cupHeld := false }

/-- The turner goes to HALTED with an outcome, the arm stopped (R56, R57); its step, for which R44 gives no value in
HALTED, becomes RUNNING. DESIGN CHOICE (notes/assumptions/27.md), unsafe. -/
def turnerHalted (s : State) (outcome : TurnOutcome) : State :=
  let stopped := stopArm s
  setTurner stopped { stopped.turner with state := .halted, step := .running, purpose := none, lastOutcome := outcome }

/-- The code of the phase that a stop breaks (R145), 0 when the turner is not in a motion phase. -/
def brokenPhaseCode (t : Turner) : Nat :=
  if inMotion t then
    match t.state, t.purpose with
    | .reach, _ => 1
    | .lift, _ => 2
    | .separate, _ => 3
    | .restore, _ => 4
    | .carry, _ => 5
    | .lay, _ => 6
    | .ret, some .park => 8
    | .ret, _ => 7
    | _, _ => 0
  else 0

/-- The number of the phase that a time-out halts (R40, R56). -/
def timeoutPhase : TurnerState → Nat
  | .reach => 1
  | .carry => 2
  | .lay => 3
  | .ret => 4
  | _ => 0

/-! ## The glass reports (R48, R59, R60) -/

/-- RAISED is reported to the turner (R48, R59, R60): an arm turn leaves home, a manual turn waits for the
operator, and a park opens the valve and swings home. -/
def turnerRaised (s : State) : State :=
  if s.turner.step = .glassWait then
    match s.turner.state with
    | .lift => enterLift s
    | .reach => enterReach s
    | .manualWait => setTurner s { s.turner with step := .running }
    | _ => s
  else if s.turner.parkWaiting && s.turner.state = .halted then
    let opened := openValve (setTurner s { s.turner with parkWaiting := false, cupHeld := false })
    enterReturn opened .park
  else s

/-- RAISE_FAILED is reported to the turner (R48, R59, R60). -/
def turnerRaiseFailed (s : State) : State :=
  if s.turner.step = .glassWait then
    let idle := turnerIdle s .glassFailed
    latch (appendIncident idle .turnFailed 2 0) (.turnFailed 2)
  else if s.turner.parkWaiting && s.turner.state = .halted then
    latch (setTurner s { s.turner with parkWaiting := false, lastOutcome := .parkFailed }) (.turnParkFailed 1)
  else s

/-- The turner asks for a raise and waits for it; at a RAISED glass the wait ends at once (R48, R59, R73). -/
def turnerAsksRaise (s : State) (w : RaiseWaiter) : State :=
  if s.mech.glass.state = .raised then turnerRaised s else askRaiseWaiting s w

/-- The raise ends at the raised stop (R73): RAISED, every waiter told and the list emptied, pending moves
started, a held press handled as in RAISED. -/
def glassReached (s : State) : State :=
  let up := setGlass s { s.mech.glass with state := .raised, waiters := [] }
  let told := if s.mech.glass.waiters = [] then up else turnerRaised up
  layPump (mechPump (startMoves told))

/-- The move time-out expires in RAISING (R73): HALTED, a fault, RAISE_FAILED to every waiter, and a held press
answered PRESS_FAILED. -/
def raiseTimedOut (s : State) : State :=
  let halted := setGlass s { s.mech.glass with state := .halted }
  let faulted := glassFault halted (.timeout s.pins.force)
  let emptied := setGlass faulted { faulted.mech.glass with waiters := [] }
  let told := if s.mech.glass.waiters = [] then emptied else turnerRaiseFailed emptied
  if told.mech.glass.heldPress then pressFailed told else told

/-- The move time-out expires in LOWERING (R72): a fault, PRESS_FAILED, and RAISING. -/
def lowerTimedOut (s : State) : State :=
  glassRaise (pressFailed (glassFault s (.timeout s.pins.force)))

/-- A manual turn completes, by MANUAL_DONE or the pedal (R61). -/
def manualCompletes (s : State) : State :=
  let d := s.turner.direction.getD .forward
  let noted := appendIncident s .manualTurn d.code (s.turner.leaf.getD 0)
  let moved := turnCompleted (turnerIdle noted .done)
  let sent :=
    match moved.mech.targets with
    | some t => mechPump (setPlatens moved t)
    | none => moved
  latch sent (.turnDone (openingField sent))

end Sys2Proof.Machine
end

