-- ==== Sys2Proof/Machine/Volumes.lean ====
section
/-! DEFINITION. The requests of the Accounting Store (R25 to R37) and of the marks (R8, R9). -/

namespace Sys2Proof.Machine

open Sys2Proof.Config

/-- The free face records and the free log entries, as replies carry them (R21). -/
def freeItems (s : State) : List Item := [u 2 (freeFaces s), u 2 (freeEntries s)]

def refuse (s : State) (reason : Reason) (field : Nat) : State × Answer := (s, .refused reason field)

/-! ## OPEN_VOLUME (R25) -/

/-- The record of a volume just opened (R22). -/
def newVolume (p : Profile) : Volume :=
  { profile := p, marks := [], log := [], faces := [], dose := { whole := 0, rem := 0 }
    captureCount := 0, incidentCount := 0, logComplete := true, restartCount := 0, clock := 0
    placedBefore := false }

/-- OPEN_VOLUME taken: the slot becomes OPEN, the tracker UNPLACED (R12), the requested force the profile's
limit (R70), the release mode the profile's default (R120). A glass that an earlier volume left LOWERING, PRESSED or
HALTED stays as it stands, in glass mode NONE too: R69 says held RAISED there, and R73 lists no raise at OPEN_VOLUME.
DESIGN CHOICE (notes/assumptions/29.md), unsafe. -/
def openVolumeAt (s : State) (slot : SlotId) (p : Profile) : State :=
  let stored := setSlot s slot (.opened (newVolume p))
  let tracked := setTracker stored
    { state := .unplaced, slot := some slot, n := none, lastPlaced := some 0, doseLogged := false }
  let pressed := setGlass tracked { tracked.mech.glass with requestedForce := p.forceLimit }
  setCapture pressed { pressed.capture with releaseMode := p.releaseMode }

def takeOpenVolume (raw : RawProfile) (s : State) : State × Answer :=
  if (openSlot? s.store.slots).isSome then refuse s .wrongState 0
  else
    match profileBad? raw with
    | some field => refuse s .badValue field
    | none =>
      match lowestFree? s.store.slots with
      | none => refuse s .storeFull 0
      | some slot =>
        if freeFaces s < 2 * raw.leaves + 2 then refuse s .storeFull 3
        else if freeEntries s ≤ reserve then refuse s .storeFull 0
        else
          let t := openVolumeAt s slot (profileOf raw)
          (t, taken (u 1 slot.number :: freeItems t))

/-- OPEN_VOLUME (R25). -/
def execOpenVolume (tag : Nat) (raw : RawProfile) (s : State) : Host.Outcome State Fault Refusal :=
  .next (arrive s 0x01 tag (takeOpenVolume raw))

/-! ## EXTEND_VOLUME (R26, R27) -/

/-- An export stream of a slot runs. -/
def streamOf (s : State) (slot : SlotId) : Bool :=
  match s.store.stream with
  | some t => t.slot = slot
  | none => false

/-- The turner is in neither IDLE nor HALTED. -/
def turnerAway (s : State) : Bool := s.turner.state != .idle && s.turner.state != .halted

/-- The store's part of an extension: L raised, the back board's record renumbered (R27). -/
def extendRecord (count : Nat) (v : Volume) : Volume :=
  { v with
    profile := { v.profile with leaves := v.profile.leaves + count }
    faces := facesRenumber v.faces v.profile.leaves (v.profile.leaves + count) }

/-- EXTEND_VOLUME taken (R27): the record, the EXTENDED incident, and, with the tracker PLACED, the recomputed
targets and setpoints (R65 to R67). At n = L+1 the right face shown is renumbered, so a new aiming interval
starts (R117). -/
def extendVolume (s : State) (leaves count : Nat) : State :=
  let noted := appendIncident (onOpen s (extendRecord count)) .extended leaves (leaves + count)
  let renumbered := if s.tracker.n = some (leaves + 1) then aimDark noted else noted
  match renumbered.tracker.state, renumbered.tracker.n with
  | .placed, some n =>
    let computed := computeTargets renumbered n
    match computed.mech.targets with
    | some t => aimRetest (mechPump (setPlatens computed t))
    | none => aimRetest computed
  | _, _ => renumbered

def takeExtendVolume (count : Nat) (s : State) : State × Answer :=
  match openSlot? s.store.slots with
  | none => refuse s .noVolume 0
  | some (slot, v) =>
    let leaves := v.profile.leaves
    if count = 0 ∨ 4000 < leaves + count then refuse s .badValue 1
    else if turnerAway s || captureRuns s.capture || checkHolds s.lamps || streamOf s slot then refuse s .busy 0
    else if freeFaces s < 2 * count then refuse s .storeFull 1
    else
      let t := extendVolume s leaves count
      (t, taken (u 2 leaves :: u 2 (leaves + count) :: freeItems t))

/-- EXTEND_VOLUME (R26). -/
def execExtendVolume (tag count : Nat) (s : State) : Host.Outcome State Fault Refusal :=
  .next (arrive s 0x02 tag (takeExtendVolume count))

/-! ## CLOSE_VOLUME (R28, R29) -/

/-- A log entry covers a face (R29): an ACCEPTED capture entry of the face's opening whose sides take it in. -/
def covers (f : Nat) (e : Entry) : Bool :=
  match e.body with
  | .capture c =>
    c.status = .accepted && e.opening = f / 2 + 1 && c.sides.has (if f % 2 = 0 then .left else .right)
  | .incident _ _ _ => false

/-- The uncovered faces of a volume in ascending order (R29). -/
def uncovered (v : Volume) : List Nat :=
  (List.range (2 * v.profile.leaves + 2)).filter fun f => !v.log.any (covers f)

/-- The log holds a PENDING capture entry (R28). -/
def hasPending (v : Volume) : Bool := v.log.any Entry.isPending

/-- The slot's record frozen as CLOSED, its placed-before flag discarded (R29). -/
def closeSlot (s : State) (slot : SlotId) : State :=
  match s.store.slots.get slot with
  | .opened v => setSlot s slot (.closed { v with placedBefore := false })
  | _ => s

/-- CLOSE_VOLUME taken (R29): CLOSED appended, the slot CLOSED, and the tracker in NO_VOLUME (R12), which takes the
aiming light off and the targets away (R68); with no slot OPEN the requested force is 0 (R70). DEDUCED
(notes/assumptions/11.md), unsafe. -/
def closeVolume (s : State) (slot : SlotId) (v : Volume) : State :=
  let noted := appendIncident s .closed (uncovered v).length v.captureCount
  let frozen := closeSlot noted slot
  let left := if frozen.tracker.state = .placed then leavePlaced frozen else frozen
  let gone := setTracker left { state := .noVolume, slot := none, n := none, lastPlaced := none, doseLogged := false }
  aimRetest (setGlass gone { gone.mech.glass with requestedForce := 0 })

def takeCloseVolume (s : State) : State × Answer :=
  match openSlot? s.store.slots with
  | none => refuse s .noVolume 0
  | some (slot, v) =>
    if turnerAway s then refuse s .wrongState 0
    else if s.capture.state != .none && s.capture.state != .released then refuse s .wrongState 0
    else if hasPending v then refuse s .wrongState 0
    else if checkHolds s.lamps then refuse s .busy 0
    else
      let open16 := (uncovered v).take 16
      (closeVolume s slot v,
        taken [u 1 slot.number, u 2 (uncovered v).length,
          .bytes (le 1 open16.length ++ open16.flatMap (le 2))])

/-- CLOSE_VOLUME (R28). -/
def execCloseVolume (tag : Nat) (s : State) : Host.Outcome State Fault Refusal :=
  .next (arrive s 0x03 tag takeCloseVolume)

/-! ## EXPORT_VOLUME (R31, R32) -/

/-- The snapshot and the stream of a slot (R32). -/
def newStream (slot : SlotId) (start : SlotState) (v : Volume) : Stream :=
  { slot := slot, start := start, entries := v.log.length, faces := 2 * v.profile.leaves + 2
    header :=
      { profile := v.profile, marks := v.marks, captureCount := v.captureCount
        incidentCount := v.incidentCount, restartCount := v.restartCount, logComplete := v.logComplete
        dose := v.dose, clock := v.clock }
    next := 0 }

def takeExportVolume (field : Nat) (s : State) : State × Answer :=
  match SlotId.ofNumber? field with
  | none => refuse s .badValue 1
  | some slot =>
    match (s.store.slots.get slot).volume? with
    | none => refuse s .wrongState 1
    | some v =>
      if s.store.stream.isSome then refuse s .busy 0
      else
        let t := newStream slot (s.store.slots.get slot).state v
        ({ s with store := { s.store with stream := some t } },
          taken [u 1 slot.number, u 1 t.start.code, u 2 t.entries, u 2 t.faces,
            u 2 (totalChunks t.entries t.faces)])

/-- EXPORT_VOLUME (R31). -/
def execExportVolume (tag slot : Nat) (s : State) : Host.Outcome State Fault Refusal :=
  .next (arrive s 0x04 tag (takeExportVolume slot))

/-! ## DISCARD_VOLUME and CLEAR_STORE (R34, R35) -/

def takeDiscardVolume (field : Nat) (s : State) : State × Answer :=
  match SlotId.ofNumber? field with
  | none => refuse s .badValue 1
  | some slot =>
    if streamOf s slot then refuse s .busy 1
    else
      match s.store.slots.get slot with
      | .free => refuse s .wrongState 1
      | .opened _ => refuse s .wrongState 1
      | .closed _ => refuse s .notExported 1
      | .exported _ =>
        let t := setSlot s slot .free
        (t, taken (u 1 slot.number :: freeItems t))

/-- DISCARD_VOLUME (R34). -/
def execDiscardVolume (tag slot : Nat) (s : State) : Host.Outcome State Fault Refusal :=
  .next (arrive s 0x05 tag (takeDiscardVolume slot))

/-- The first `writes` of the writes of CLEAR_STORE over a list of slots: each frees the next slot that is CLOSED or
EXPORTED, in the order of the list, in a write of its own (R35). -/
def clearWrites (q : Slots) : Nat → List SlotId → Slots
  | 0, _ => q
  | _, [] => q
  | writes + 1, slot :: rest =>
    match q.get slot with
    | .closed _ => clearWrites (q.set slot .free) writes rest
    | .exported _ => clearWrites (q.set slot .free) writes rest
    | _ => clearWrites q (writes + 1) rest

/-- Every CLOSED or EXPORTED slot freed, in ascending order (R35). -/
def clearSlots (q : Slots) : Slots := clearWrites q 4 SlotId.all

/-- The number of slots that CLEAR_STORE frees (R35). -/
def clearable (q : Slots) : Nat :=
  (SlotId.all.filter fun i => (q.get i).state = .closed ∨ (q.get i).state = .exported).length

/-- CLEAR_STORE run whole (R35). That the free counts stand in the order of R34, and that the number of slots freed is
one byte, is a DESIGN CHOICE (notes/assumptions/15.md), unsafe, as is WRONG_STATE before BUSY
(notes/assumptions/31.md). -/
def takeClearStore (s : State) : State × Answer :=
  if (openSlot? s.store.slots).isSome then refuse s .wrongState 0
  else if s.store.stream.isSome then refuse s .busy 0
  else
    let t : State := { s with store := { s.store with slots := clearSlots s.store.slots } }
    (t, taken (u 1 (clearable s.store.slots) :: freeItems t))

/-- A restart finds CLEAR_STORE with `writes` of its writes made (R35): the slots already freed are FREE and the rest as
they were. A request that the part does not take has freed none. -/
def clearCut (s : State) (writes : Nat) : State :=
  if s.link.resetting || queueDepth ≤ s.link.queue.length || (openSlot? s.store.slots).isSome
      || s.store.stream.isSome then s
  else { s with store := { s.store with slots := clearWrites s.store.slots writes SlotId.all } }

/-! ## LIST_VOLUMES and READ_FACES (R36, R37) -/

/-- What LIST_VOLUMES adds for a slot that is not FREE (R36). -/
def listRecord (v : Volume) : List Byte :=
  padTo 40 v.profile.shelfMark ++ le 1 v.profile.partNumber ++ le 2 v.profile.leaves ++ le 2 v.captureCount
    ++ le 2 v.incidentCount ++ le 2 v.restartCount ++ le 1 (bit v.logComplete) ++ le 4 v.dose.whole
    ++ le 2 v.dose.rem ++ le 4 v.clock ++ le 2 v.log.length

/-- A slot in LIST_VOLUMES: its state and, unless FREE, its record of 62 bytes (R36). DESIGN CHOICE
(notes/assumptions/15.md), unsafe. -/
def listItems (q : Slot) : List Item := [u 1 q.state.code, .opt 62 (q.volume?.map listRecord)]

def takeListVolumes (s : State) : State × Answer :=
  (s, taken (listItems s.store.slots.s0 ++ listItems s.store.slots.s1 ++ listItems s.store.slots.s2
    ++ listItems s.store.slots.s3
    ++ [u 2 (freeEntries s), u 2 (freeFaces s), ou 1 (s.store.stream.map fun t => t.slot.number)]))

/-- LIST_VOLUMES (R36). -/
def execListVolumes (tag : Nat) (s : State) : Host.Outcome State Fault Refusal :=
  .next (arrive s 0x07 tag takeListVolumes)

def takeReadFaces (field first count : Nat) (s : State) : State × Answer :=
  match SlotId.ofNumber? field with
  | none => refuse s .badValue 1
  | some slot =>
    match (s.store.slots.get slot).volume? with
    | none => refuse s .wrongState 1
    | some v =>
      if count = 0 ∨ 96 < count then refuse s .badValue 3
      else if 2 * v.profile.leaves + 2 < first + count then refuse s .badValue 2
      else (s, taken [.bytes (le 1 count ++ faceRecordsFrom v.faces first count)])

/-- READ_FACES (R37). -/
def execReadFaces (tag slot first count : Nat) (s : State) : Host.Outcome State Fault Refusal :=
  .next (arrive s 0x08 tag (takeReadFaces slot first count))

/-! ## SET_MARK and CLEAR_MARK (R8, R9) -/

def takeSetMark (leaf kinds : Nat) (s : State) : State × Answer :=
  match openVolume? s with
  | none => refuse s .noVolume 0
  | some v =>
    if leaf = 0 ∨ v.profile.leaves < leaf then refuse s .badValue 1
    else
      match markKindsOf? kinds with
      | none => refuse s .badValue 2
      | some k =>
        if 64 ≤ v.marks.length && !v.marks.any (fun m => m.leaf = leaf) then refuse s .storeFull 0
        else
          let marks := marksInsert v.marks { leaf := leaf, kinds := k }
          (onOpen s fun v => { v with marks := marks }, taken [u 2 leaf, u 1 marks.length])

/-- SET_MARK (R8). -/
def execSetMark (tag leaf kinds : Nat) (s : State) : Host.Outcome State Fault Refusal :=
  .next (arrive s 0x09 tag (takeSetMark leaf kinds))

def takeClearMark (leaf : Nat) (s : State) : State × Answer :=
  match openVolume? s with
  | none => refuse s .noVolume 0
  | some v =>
    if leaf = 0 ∨ v.profile.leaves < leaf then refuse s .badValue 1
    else
      let marks := marksRemove v.marks leaf
      (onOpen s fun v => { v with marks := marks }, taken [u 2 leaf, u 1 marks.length])

/-- CLEAR_MARK (R9). -/
def execClearMark (tag leaf : Nat) (s : State) : Host.Outcome State Fault Refusal :=
  .next (arrive s 0x0A tag (takeClearMark leaf))

end Sys2Proof.Machine
end

