-- ==== Sys2Proof/Machine/Opening.lean ====
section
/-! DEFINITION. The requests of the Opening Tracker: PLACE (R13, R14) and READ_OPENING (R19). -/

namespace Sys2Proof.Machine

open Sys2Proof.Config

/-- PLACE from PLACED is not taken: the turner is not IDLE, a capture runs or awaits release, or the pause is
broken (R13). -/
def placeHeld (s : State) : Bool :=
  s.turner.state != .idle || (s.capture.state != .none && s.capture.state != .released)
    || s.pause.state = .pausedBroken

/-- RESEAT appended when the volume has been placed before: the previous n or 0, and the new n (R14). -/
def logReseat (s : State) (n : Nat) : State :=
  match openVolume? s with
  | some v => if v.placedBefore then appendIncident s .reseat (openingField s) n else s
  | none => s

/-- PLACE taken (R14): RESEAT, the placed-before flag, the visit, then the platens and the angle; it restarts the
idle timer. -/
def placeAt (s : State) (n : Nat) : State :=
  let noted := onOpen (logReseat s n) fun v => { v with placedBefore := true }
  let visiting := visitStart noted n
  let sent :=
    match visiting.mech.targets, openVolume? visiting with
    | some t, some v => mechPump (setAngleTarget (setPlatens visiting t) v.profile.initialAngle)
    | _, _ => visiting
  aimRetest (idleRestart sent)

def takePlace (n : Nat) (s : State) : State × Answer :=
  if s.tracker.state = .noVolume then refuse s .wrongState 0
  else if n = 0 ∨ openLeaves s + 1 < n then refuse s .badValue 1
  else if s.tracker.state = .placed && placeHeld s then refuse s .wrongState 0
  else (placeAt s n, taken [u 2 n])

/-- PLACE (R13). -/
def execPlace (tag n : Nat) (s : State) : Host.Outcome State Fault Refusal :=
  .next (arrive s 0x0B tag (takePlace n))

/-- A face group: number, label side and folio, face record (section 11.5). -/
def faceGroup (v : Volume) (f : Nat) : List Byte :=
  le 2 f ++ le 1 (faceLabel v.profile f).1 ++ le 2 (faceLabel v.profile f).2 ++ faceBytes (facesGet v.faces f)

def markBytes (m : Mark) : List Byte := le 2 m.leaf ++ le 1 m.kinds.code

/-- The items of READ_OPENING (R19, section 11.5), every optional one at its place. -/
def openingItems (s : State) : List Item :=
  let volume := openVolume? s
  let shown : Option (Volume × Nat) :=
    match s.tracker.state, volume, s.tracker.n with
    | .placed, some v, some n => some (v, n)
    | _, _, _ => none
  let marks := match shown with | some (v, n) => marksShown v.marks n | none => []
  let platens : Option (List Byte) :=
    match shown, s.mech.targets with
    | some _, some t =>
      some (le 4 (clampTravel t.left) ++ le 4 (clampTravel t.right) ++ le 1 (bit !platensSettled s))
    | _, _ => none
  [ u 1 s.tracker.state.code,
    ou 1 (s.tracker.slot.map SlotId.number),
    ou 2 s.tracker.n,
    ou 2 s.tracker.lastPlaced,
    u 1 (bit ((volume.map fun v => v.placedBefore).getD false) + 2 * bit s.tracker.doseLogged),
    ou 2 (volume.map fun v => v.profile.leaves),
    .opt 13 (shown.map fun (v, n) => faceGroup v (leftFace n)),
    .opt 13 (shown.map fun (v, n) => faceGroup v (rightFace n)),
    .opt 3 (marks[0]?.map markBytes),
    .opt 3 (marks[1]?.map markBytes),
    u 1 s.turner.state.code, u 1 s.capture.state.code, u 1 s.pause.state.code,
    .opt 9 platens ]

/-- READ_OPENING's reply has a presence field of two bytes (section 11.5). -/
def takeReadOpening (s : State) : State × Answer := (s, .own .taken 2 (openingItems s))

/-- READ_OPENING (R19). -/
def execReadOpening (tag : Nat) (s : State) : Host.Outcome State Fault Refusal :=
  .next (arrive s 0x0C tag takeReadOpening)

end Sys2Proof.Machine
end

