-- ==== Sys2Proof/Machine/Turning.lean ====
section
/-! DEFINITION. The Leaf Turner's requests (R46 to R64) and the events of its sensors and timers (R48 to R59). -/

namespace Sys2Proof.Machine

open Sys2Proof.Config

/-! ## TURN (R46, R47) -/

/-- The first check of R46 that refuses a TURN, with its field index. -/
def turnRefusal? (s : State) (direction flags : Nat) : Option (Reason × Nat) :=
  match openVolume? s with
  | none => some (.noVolume, 0)
  | some v =>
    match directionOf? direction, turnFlagsOf? flags with
    | none, _ => some (.badValue, 1)
    | _, none => some (.badValue, 2)
    | some d, some (skip, _) =>
      let n := openingField s
      if s.tracker.state = .uncertain || s.pause.state = .pausedBroken then some (.uncertain, 0)
      else if s.tracker.state != .placed then some (.wrongState, 0)
      else if s.turner.state = .halted then some (.wrongState, 0)
      else if s.turner.state != .idle then some (.busy, 0)
      else if (d = .forward && v.profile.leaves < n) || (d = .back && n < 2) then some (.endOfVolume, 0)
      else if captureRuns s.capture then some (.busy, 0)
      else if s.capture.state = .receiptWait || s.capture.state = .acceptWait
          || (s.capture.state = .none && !skip) then some (.wrongState, 0)
      else none

/-- The leaf that a turn moves (R3). -/
def leafToMove (n : Nat) : Direction → Nat
  | .forward => n
  | .back => n - 1

/-- The record that a taken TURN sets (R47 steps 1, 2, 4 and 5), the step being GLASS_WAIT. The cup-held item, which R44
keeps while HALTED, stays as it was. DESIGN CHOICE (notes/assumptions/27.md), unsafe. -/
def turnRecord (t : Turner) (v : Volume) (n : Nat) (d : Direction) (manualFlag : Bool) : Turner :=
  let leaf := leafToMove n d
  let kinds := marksOf v.marks leaf
  let manual := kinds.foldout || manualFlag
  { t with
    state := if manual then .manualWait else match d with | .forward => .lift | .back => .reach
    step := .glassWait
    purpose := none
    direction := some d
    manual := some manual
    leaf := some leaf
    plateHeld := some kinds.plate
    attempt := some (if manual then 0 else 1)
    airLevel := if manual then none else some (if kinds.plate then 1 else v.profile.airLevel)
    lastCount := none
    lastOutcome := .none
    restoreReleased := false
    layEmpty := false }

/-- The items of TURN's STARTED reply: direction, leaf, manual, air level, attempt limit (R47). -/
def turnItems (t : Turner) : List Item :=
  [ u 1 ((t.direction.map Direction.code).getD 0), u 2 (t.leaf.getD 0), listedItem (t.manual.getD false),
    ou 1 t.airLevel, u 1 t.settings.limit ]

/-- TURN taken (R47): SKIPPED when the capture is NONE, the record, and the raise asked. -/
def startTurn (s : State) (v : Volume) (d : Direction) (manualFlag : Bool) : State × Answer :=
  let n := openingField s
  let noted := if s.capture.state = .none then appendIncident s .skipped n d.code else s
  let record := turnRecord noted.turner v n d manualFlag
  (turnerAsksRaise (setTurner noted record) .turn, started (turnItems record))

/-- What a request makes of the one deferred slot while the pause is PAUSED (R147). -/
def deferRequest (s : State) (d : Deferred) : State × Answer :=
  if s.pause.deferred.isSome then refuse s .busy 0
  else ({ s with pause := { s.pause with deferred := some d } }, deferredAnswer)

/-- A TURN that reaches the turner (R46): the idle timer restarts whatever its answer; then the checks, and with
the pause RUNNING it is taken, with PAUSED deferred. -/
def turnArrives (direction flags : Nat) (s : State) : State × Answer :=
  let s := idleRestart s
  match turnRefusal? s direction flags with
  | some (reason, field) => refuse s reason field
  | none =>
    if s.pause.state = .paused then deferRequest s (.turn direction flags)
    else
      match openVolume? s, directionOf? direction, turnFlagsOf? flags with
      | some v, some d, some (_, manual) => startTurn s v d manual
      | _, _, _ => refuse s .badValue 1

def takeTurn (direction flags : Nat) (s : State) : State × Answer :=
  let out := turnArrives direction flags s
  (aimRetest out.1, out.2)

/-- TURN (R46). -/
def execTurn (tag direction flags : Nat) (s : State) : Host.Outcome State Fault Refusal :=
  .next (arrive s 0x10 tag (takeTurn direction flags))

/-! ## PARK (R59) -/

/-- PARK taken (R59). R59 names WRONG_STATE and BUSY and gives no order of checks: WRONG_STATE first is a DESIGN CHOICE
(notes/assumptions/31.md), unsafe. -/
def takePark (s : State) : State × Answer :=
  if s.turner.state != .halted then refuse s .wrongState 0
  else if s.pause.state = .pausedBroken then refuse s .wrongState 0
  else if s.turner.parkWaiting then refuse s .busy 0
  else if captureRuns s.capture then refuse s .busy 0
  else (turnerAsksRaise (setTurner s { s.turner with parkWaiting := true }) .park, started [])

/-- PARK (R59). -/
def execPark (tag : Nat) (s : State) : Host.Outcome State Fault Refusal :=
  .next (arrive s 0x11 tag takePark)

/-! ## MANUAL_DONE and CANCEL_TURN (R61, R62) -/

/-- MANUAL_DONE taken (R61). WRONG_STATE before BAD_VALUE is a DESIGN CHOICE (notes/assumptions/31.md), unsafe. -/
def takeManualDone (direction : Nat) (s : State) : State × Answer :=
  if s.turner.state != .manualWait || s.turner.step != .running then refuse s .wrongState 0
  else if directionOf? direction = none || directionOf? direction != s.turner.direction then refuse s .badValue 1
  else
    let t := aimRetest (manualCompletes s)
    (t, taken [u 2 (openingField t)])

/-- MANUAL_DONE (R61). -/
def execManualDone (tag direction : Nat) (s : State) : Host.Outcome State Fault Refusal :=
  .next (arrive s 0x12 tag (takeManualDone direction))

/-- The turner is where CANCEL_TURN ends its wait (R62). -/
def cancellable (t : Turner) : Bool :=
  t.state = .manualWait || (t.step = .glassWait && (t.state = .reach || t.state = .lift))

def takeCancelTurn (s : State) : State × Answer :=
  if !cancellable s.turner then refuse s .wrongState 0
  else (turnerIdle (dropWaiter s .turn) .cancelled, taken [u 2 (openingField s)])

/-- CANCEL_TURN (R62). -/
def execCancelTurn (tag : Nat) (s : State) : Host.Outcome State Fault Refusal :=
  .next (arrive s 0x13 tag takeCancelTurn)

/-! ## SET_TURNER and READ_TURNER (R63, R64) -/

/-- SET_TURNER taken (R63). WRONG_STATE before BAD_VALUE is a DESIGN CHOICE (notes/assumptions/31.md), unsafe. -/
def takeSetTurner (reach lift carry lay ret limit : Nat) (s : State) : State × Answer :=
  if s.turner.state != .idle then refuse s .wrongState 0
  else
    match firstBad
      [ (1, within 100 10000 reach), (2, within 100 10000 lift), (3, within 100 10000 carry),
        (4, within 100 10000 lay), (5, within 100 10000 ret), (6, within 1 5 limit) ] with
    | some field => refuse s .badValue field
    | none =>
      (setTurner s { s.turner with settings :=
          { reach := reach, lift := lift, carry := carry, lay := lay, ret := ret, limit := limit } },
        taken [u 2 reach, u 2 lift, u 2 carry, u 2 lay, u 2 ret, u 1 limit])

/-- SET_TURNER (R63). -/
def execSetTurner (tag reach lift carry lay ret limit : Nat) (s : State) : Host.Outcome State Fault Refusal :=
  .next (arrive s 0x14 tag (takeSetTurner reach lift carry lay ret limit))

/-- The items of READ_TURNER: the record of R44 in its order, then the four sensors (R64). DESIGN CHOICE
(notes/assumptions/15.md, 27.md), unsafe. -/
def turnerItems (s : State) : List Item :=
  let t := s.turner
  [ u 1 t.state.code, u 1 t.step.code, ou 1 (t.purpose.map Purpose.code), ou 1 (t.direction.map Direction.code),
    ou 1 (t.manual.map firstCode), ou 2 t.leaf, ou 1 (t.plateHeld.map firstCode), ou 1 t.attempt, ou 1 t.airLevel,
    ou 1 t.lastCount, u 1 t.lastOutcome.code, listedItem t.parkWaiting, listedItem t.cupHeld,
    u 2 t.settings.reach, u 2 t.settings.lift, u 2 t.settings.carry, u 2 t.settings.lay, u 2 t.settings.ret,
    u 1 t.settings.limit,
    flagItem s.pins.home, flagItem s.pins.farEnd, flagItem s.pins.hold, flagItem s.pins.cupEmpty ]

def takeReadTurner (s : State) : State × Answer := (s, taken (turnerItems s))

/-- READ_TURNER (R64). -/
def execReadTurner (tag : Nat) (s : State) : Host.Outcome State Fault Refusal :=
  .next (arrive s 0x15 tag takeReadTurner)

/-! ## The arm's sensors -/

/-- The turner is in a phase with step RUNNING. -/
def inPhase (t : Turner) (state : TurnerState) : Bool := t.state = state && t.step = .running

/-- HOME_SENSOR (R52 to R55, R59): the reading, and, when it sets, the end of a backward CARRY or of RETURN. -/
def execHomeSensor (on : Bool) (s : State) : Host.Outcome State Fault Refusal :=
  let read : State := { s with pins := { s.pins with home := on } }
  .next (
    if on && inPhase s.turner .carry && s.turner.direction = some .back then enterLay read
    else if on && inPhase s.turner .ret then transmit (aimRetest (endReturn read))
    else read)

/-- FAR_END_SENSOR (R52, R54): the reading, and, when it sets, the end of REACH or of a forward CARRY. -/
def execFarEndSensor (on : Bool) (s : State) : Host.Outcome State Fault Refusal :=
  let read : State := { s with pins := { s.pins with farEnd := on } }
  .next (
    if on && inPhase s.turner .reach then enterLift read
    else if on && inPhase s.turner .carry && s.turner.direction != some .back then enterLay read
    else read)

/-- HOLD_SENSOR (R49, R52): the reading, and, when it sets in LIFT, SEPARATE; when it clears in LAY, the leaf is lowered
and the valve has opened. DEDUCED (notes/assumptions/12.md), unsafe. -/
def execHoldSensor (on : Bool) (s : State) : Host.Outcome State Fault Refusal :=
  let read : State := { s with pins := { s.pins with hold := on } }
  .next (
    if on && inPhase s.turner .lift then setPhase read .separate
    else if !on && inPhase s.turner .lay then openValve read
    else read)

/-- CUP_EMPTY_SENSOR (R52): the reading, and, when it sets in LAY, one of the two events that end LAY; the cup is then
clear of paper, so the valve has opened, if it had not, and the hold sensor is clear. DEDUCED (notes/assumptions/12.md),
unsafe. -/
def execCupEmptySensor (on : Bool) (s : State) : Host.Outcome State Fault Refusal :=
  let read : State := { s with pins := { s.pins with cupEmpty := on } }
  .next (
    if on && inPhase s.turner .lay then
      transmit (aimRetest (layPump (openValve (setTurner read { read.turner with layEmpty := true }))))
    else read)

/-! ## The arm's timers -/

/-- SEPARATION_TIME (R50): the air knife stops and the sample chooses NO_LIFT, CARRY or RESTORE. A sample of
three or more leaves is 3. -/
def execSeparationTime (count : Nat) (s : State) : Host.Outcome State Fault Refusal :=
  .next (
    if inPhase s.turner .separate then
      let sampled := setTurner s { s.turner with lastCount := some (min count 3) }
      if count = 0 then transmit (aimRetest (attemptEnds (openValve sampled) .noLift 2))
      else if count = 1 then enterCarry sampled
      else setPhase sampled .restore
    else s)

/-- RESTORE_DESCENT_END (R51): the cup is at rest and the valve opens. -/
def execRestoreDescentEnd (s : State) : Host.Outcome State Fault Refusal :=
  .next (if inPhase s.turner .restore && !s.turner.restoreReleased then restoreRelease s else s)

/-- RESTORE_RELEASE_WAIT (R51): 300 ms after the valve opened, the attempt ends as DOUBLE_LEAF. -/
def execRestoreReleaseWait (s : State) : Host.Outcome State Fault Refusal :=
  .next (
    if inPhase s.turner .restore && s.turner.restoreReleased then transmit (aimRetest (restoreEnds s)) else s)

/-- LIFT_TIMEOUT (R49, R51): in LIFT the attempt ends as NO_LIFT, cause 1; in RESTORE before the descent has
ended, the valve opens where the cup stands. -/
def execLiftTimeout (s : State) : Host.Outcome State Fault Refusal :=
  .next (
    if inPhase s.turner .lift then transmit (aimRetest (attemptEnds (openValve s) .noLift 1))
    else if inPhase s.turner .restore && !s.turner.restoreReleased then restoreRelease s
    else s)

/-- A time-out of REACH, CARRY, LAY or RETURN halts the turner (R56), or fails a park (R59). -/
def turnTimedOut (s : State) : State :=
  if s.turner.state = .ret && s.turner.purpose = some .park then
    let stopped := setTurner s { s.turner with state := .halted, step := .running, purpose := none, lastOutcome := .parkFailed }
    latch stopped (.turnParkFailed 2)
  else
    let phase := timeoutPhase s.turner.state
    let halted := turnerHalted s .timeout
    let noted := appendIncident halted .turnTimeout phase (bit halted.turner.cupHeld)
    enterUncertain noted (.uncertainTimeout phase)

/-- TURN_TIMEOUT (R56, R59). -/
def execTurnTimeout (s : State) : Host.Outcome State Fault Refusal :=
  .next (
    if s.turner.step = .running && timeoutPhase s.turner.state != 0 then
      transmit (aimRetest (turnTimedOut s))
    else s)

end Sys2Proof.Machine
end

