-- ==== Sys2Proof/Machine/Mechanics.lean ====
section
/-! DEFINITION. The requests of Cradle Mechanics (R70, R77, R78, R81) and the events of the platens, the angle and
the glass (R66, R72 to R74, R78). -/

namespace Sys2Proof.Machine

open Sys2Proof.Config

/-! ## SET_GLASS (R70) -/

/-- SET_GLASS taken (R70). NO_VOLUME before BAD_VALUE is a DESIGN CHOICE (notes/assumptions/31.md), unsafe. -/
def takeSetGlass (force : Nat) (s : State) : State × Answer :=
  match openVolume? s with
  | none => refuse s .noVolume 0
  | some v =>
    if 2000 < force then refuse s .badValue 1
    else
      let held := min force v.profile.forceLimit
      (setGlass s { s.mech.glass with requestedForce := held },
        taken [u 2 held, flagItem (v.profile.forceLimit < force)])

/-- SET_GLASS (R70). -/
def execSetGlass (tag force : Nat) (s : State) : Host.Outcome State Fault Refusal :=
  .next (arrive s 0x18 tag (takeSetGlass force))

/-! ## RAISE_GLASS (R77) -/

def takeRaiseGlass (s : State) : State × Answer :=
  if s.mech.glass.claim then refuse s .busy 0
  else (askRaise s, taken [u 1 (askRaise s).mech.glass.state.code])

/-- RAISE_GLASS (R77). -/
def execRaiseGlass (tag : Nat) (s : State) : Host.Outcome State Fault Refusal :=
  .next (arrive s 0x19 tag takeRaiseGlass)

/-! ## SET_ANGLE (R78) -/

def takeSetAngle (angle : Nat) (s : State) : State × Answer :=
  match openVolume? s with
  | none => refuse s .noVolume 0
  | some v =>
    if !within 80 140 angle then refuse s .badValue 1
    else if s.turner.state != .idle then refuse s .wrongState 0
    else if s.mech.glass.state != .raised then refuse s .wrongState 0
    else
      let target := min angle v.profile.angleLimit
      (aimRetest (mechPump (setAngleTarget s target)), taken [u 1 target, flagItem (v.profile.angleLimit < angle)])

/-- SET_ANGLE (R78). -/
def execSetAngle (tag angle : Nat) (s : State) : Host.Outcome State Fault Refusal :=
  .next (arrive s 0x1A tag (takeSetAngle angle))

/-! ## READ_MECHANICS (R81) -/

/-- What READ_MECHANICS says of one platen: the target and the unclamped target as one group, the clamped state,
the logged flag, the setpoint, the position, SETTLED or MOVING, and the pending flag. -/
def platenItems (s : State) (side : Side) : List Item :=
  let p := s.mech.platens.get side
  let target := s.mech.targets.map fun t => t.get side
  [ .opt 8 (target.map fun t => le 4 (clampTravel t) ++ le 4 t), flagItem (sideClamped s side), flagItem p.logged,
    u 4 p.setpoint, u 4 (s.pins.position.get side), u 1 (bit !platenSettled s side), flagItem p.pending ]

/-- The items of READ_MECHANICS in the order of R81. DESIGN CHOICE (notes/assumptions/15.md), unsafe. -/
def mechanicsItems (s : State) : List Item :=
  let g := s.mech.glass
  platenItems s .left ++ platenItems s .right
    ++ [ u 1 g.state.code, u 2 g.requestedForce,
         .opt 6 (g.press.map fun p => le 2 p.target ++ le 2 p.pressedAt ++ le 2 p.overforceAt),
         u 2 s.pins.force, listedItem g.claim, flagItem g.heldPress, u 1 g.waiters.length,
         u 1 g.fault.code, u 2 g.fault.force,
         u 1 s.mech.angleTarget, u 1 s.pins.angle, u 1 (bit !angleSettled s), flagItem s.mech.anglePending,
         ou 1 ((openVolume? s).map fun v => v.profile.angleLimit),
         u 1 (bit !gateOpen s) ]

def takeReadMechanics (s : State) : State × Answer := (s, taken (mechanicsItems s))

/-- READ_MECHANICS (R81). -/
def execReadMechanics (tag : Nat) (s : State) : Host.Outcome State Fault Refusal :=
  .next (arrive s 0x1B tag takeReadMechanics)

/-! ## The platens' and the angle's feedback (R66, R78) -/

/-- PLATEN_SETTLED (R66): the position read; the end of a platen move may end LAY (R52), start a held press (R72)
or open the gate (R80). -/
def execPlatenSettled (side : Side) (position : Nat) (s : State) : Host.Outcome State Fault Refusal :=
  let read : State := { s with pins := { s.pins with position := s.pins.position.set side position } }
  .next (transmit (aimRetest (layPump (mechPump read))))

/-- ANGLE_SETTLED (R78): the angle read; the end of its move may start a held press or open the gate. -/
def execAngleSettled (angle : Nat) (s : State) : Host.Outcome State Fault Refusal :=
  .next (transmit (aimRetest (mechPump { s with pins := { s.pins with angle := angle } })))

/-! ## The glass (R72 to R74) -/

/-- An overforce (R74): RAISING, the fault, GLASS_FAULT, and PRESS_LOST when the claim is held. -/
def overforce (s : State) (force : Nat) : State :=
  let faulted := glassFault (glassRaise s) (.overforce force)
  if faulted.mech.glass.claim then pressLost faulted else faulted

/-- A force reading compared with the thresholds of the last lowering (R72, R74). -/
def readForce (s : State) (force : Nat) (p : PressTarget) : State :=
  match s.mech.glass.state with
  | .lowering =>
    if p.overforceAt < force then overforce s force
    else if p.pressedAt ≤ force then
      armPump (pressAnswered (setGlass s { s.mech.glass with state := .pressed }))
    else s
  | .pressed => if p.overforceAt < force then overforce s force else s
  | _ => s

/-- GLASS_FORCE_READING (R72, R74). -/
def execGlassForceReading (force : Nat) (s : State) : Host.Outcome State Fault Refusal :=
  let read : State := { s with pins := { s.pins with force := force } }
  .next (
    match s.mech.glass.press with
    | some p => transmit (aimRetest (readForce read force p))
    | none => read)

/-- RAISED_STOP_SENSOR (R73): the reading, and, when it sets in RAISING, the end of the raise. -/
def execRaisedStopSensor (on : Bool) (s : State) : Host.Outcome State Fault Refusal :=
  let read : State := { s with pins := { s.pins with raisedStop := on } }
  .next (
    if on && s.mech.glass.state = .raising then transmit (aimRetest (glassReached read)) else read)

/-- GLASS_MOVE_TIMEOUT (R72, R73). -/
def execGlassMoveTimeout (s : State) : Host.Outcome State Fault Refusal :=
  .next (
    match s.mech.glass.state with
    | .lowering => transmit (aimRetest (lowerTimedOut s))
    | .raising => transmit (aimRetest (raiseTimedOut s))
    | _ => s)

end Sys2Proof.Machine
end

