-- ==== Sys2Proof/Machine/Lighting.lean ====
section
/-! DEFINITION. The requests of the Lamp Controller (R84 to R103), the judgement of a reference pulse (R96), and the
events of the supply, the idle timer, the lighting arbiter, the pulses and the aiming intervals. -/

namespace Sys2Proof.Machine

open Sys2Proof.Config

/-! ## LAMPS_ON and LAMPS_OFF (R84) -/

def takeLampsOn (s : State) : State × Answer :=
  let t := aimRetest (supplyOn (idleRestart s))
  if s.lamps.supply = .ready then (t, taken [u 1 Supply.ready.code]) else (t, started [])

/-- LAMPS_ON (R84). -/
def execLampsOn (tag : Nat) (s : State) : Host.Outcome State Fault Refusal :=
  .next (arrive s 0x20 tag takeLampsOn)

def takeLampsOff (s : State) : State × Answer :=
  if lightingBusy s then refuse s .busy 0
  else (if s.lamps.supply = .off then s else aimRetest (supplyOff s), taken [u 1 Supply.off.code])

/-- LAMPS_OFF (R84). -/
def execLampsOff (tag : Nat) (s : State) : Host.Outcome State Fault Refusal :=
  .next (arrive s 0x21 tag takeLampsOff)

/-! ## SET_LIGHTING (R87) -/

/-- The status of each side as a reply carries it, left then right. -/
def sideItems (l : Lamps) : List Item := [u 1 (sideStatus l .left).code, u 1 (sideStatus l .right).code]

/-- The strobe settings replaced together (R87). -/
def lightingSettings (l : Lamps) (drives : Banks Nat) (times : Sides Nat) (spill : Nat) : Lamps :=
  { l with drive := drives, duration := times, spill := spill }

/-- SET_LIGHTING taken (R87). R87 names BAD_VALUE and BUSY and gives no order of checks: that a field out of range is
BAD_VALUE also while the lighting is busy is a DESIGN CHOICE (notes/assumptions/31.md), unsafe. -/
def takeSetLighting (drives : Banks Nat) (times : Sides Nat) (spill : Nat) (s : State) : State × Answer :=
  match firstBad
    [ (1, within 0 1000 drives.la), (2, within 0 1000 drives.lb), (3, within 0 1000 drives.ra),
      (4, within 0 1000 drives.rb), (5, within 100 20000 times.left), (6, within 100 20000 times.right),
      (7, within 0 250 spill) ] with
  | some field => refuse s .badValue field
  | none =>
    if lightingBusy s then refuse s .busy 0
    else
      let set := setLamps s (lightingSettings s.lamps drives times spill)
      -- a new spill is a new input of the aiming light (R117)
      let t := if spill = s.lamps.spill then set else aimRetest (aimDark set)
      (t, taken ([u 2 drives.la, u 2 drives.lb, u 2 drives.ra, u 2 drives.rb, u 2 times.left, u 2 times.right,
        u 2 spill] ++ sideItems set.lamps))

/-- SET_LIGHTING (R87). -/
def execSetLighting (tag driveLA driveLB driveRA driveRB timeL timeR spill : Nat) (s : State) :
    Host.Outcome State Fault Refusal :=
  .next (arrive s 0x22 tag
    (takeSetLighting { la := driveLA, lb := driveLB, ra := driveRA, rb := driveRB }
      { left := timeL, right := timeR } spill))

/-! ## SET_AIMING (R89) -/

def takeSetAiming (level rest : Nat) (s : State) : State × Answer :=
  if 100 < level then refuse s .badValue 1
  else if level < rest then refuse s .badValue 2
  else
    let t := aimRetest (idleRestart
      (setLamps s { s.lamps with aimingLevel := level, restLevel := rest, aimingCut := false }))
    (t, taken [u 1 level, u 1 rest, flagItem t.dose.aiming.isSome])

/-- SET_AIMING (R89). -/
def execSetAiming (tag level rest : Nat) (s : State) : Host.Outcome State Fault Refusal :=
  .next (arrive s 0x23 tag (takeSetAiming level rest))

/-! ## SET_IDLE (R91) -/

def takeSetIdle (rest dark supply settle : Nat) (s : State) : State × Answer :=
  match firstBad
    [ (1, within 1 3600 rest), (2, within 1 3600 dark && rest ≤ dark), (3, within 1 3600 supply && dark ≤ supply),
      (4, within 0 10000 settle) ] with
  | some field => refuse s .badValue field
  | none =>
    (aimRetest (idleRestart
        (setLamps s { s.lamps with tRest := rest, tDark := dark, tSupply := supply, settle := settle })),
      taken [u 2 rest, u 2 dark, u 2 supply, u 2 settle])

/-- SET_IDLE (R91). -/
def execSetIdle (tag rest dark supply settle : Nat) (s : State) : Host.Outcome State Fault Refusal :=
  .next (arrive s 0x24 tag (takeSetIdle rest dark supply settle))

/-! ## REFERENCE_CHECK (R97) -/

def takeReferenceCheck (banks : Nat) (s : State) : State × Answer :=
  match bankSetOf? banks with
  | none => refuse s .badValue 1
  | some set =>
    if checkActive s.lamps then refuse s .busy 0
    else if s.pause.hoodOpen then refuse s .hoodOpen 0
    else if s.tracker.state = .uncertain then refuse s .uncertain 0
    else
      let check := newCheck .requested set
      match predictCheck s check (boundNow s) (Sides.both 0) with
      | some named => (doseRefused s named, .refused (doseReason named) 0)
      | none => (aimRetest (supplyOn (setLamps s { s.lamps with waitingCheck := some check })), started [])

/-- REFERENCE_CHECK (R97). -/
def execReferenceCheck (tag banks : Nat) (s : State) : Host.Outcome State Fault Refusal :=
  .next (arrive s 0x25 tag (takeReferenceCheck banks))

/-! ## SET_CHECKS (R102) -/

/-- The four check settings replaced together, a counter above the new K set to it (R102). -/
def checkSettings (l : Lamps) (interval rotation tolerance failLimit : Nat) : Lamps :=
  { l with
    interval := interval, rotation := rotation = 1, tolerance := tolerance, failLimit := failLimit
    counter := min l.counter interval }

/-- SET_CHECKS taken (R102). R102 orders the field checks alone: that a failing field is BAD_VALUE also while a check waits
or holds is a DESIGN CHOICE (notes/assumptions/31.md), unsafe. -/
def takeSetChecks (interval rotation tolerance failLimit : Nat) (s : State) : State × Answer :=
  match firstBad
    [ (1, within 1 255 interval), (2, within 0 1 rotation), (3, within 1 500 tolerance),
      (4, tolerance < failLimit && failLimit ≤ 900) ] with
  | some field => refuse s .badValue field
  | none =>
    if checkActive s.lamps then refuse s .busy 0
    else
      (setLamps s (checkSettings s.lamps interval rotation tolerance failLimit),
        taken [u 1 interval, u 1 rotation, u 2 tolerance, u 2 failLimit, u 1 (min s.lamps.counter interval)])

/-- SET_CHECKS (R102). -/
def execSetChecks (tag interval rotation tolerance failLimit : Nat) (s : State) :
    Host.Outcome State Fault Refusal :=
  .next (arrive s 0x26 tag (takeSetChecks interval rotation tolerance failLimit))

/-! ## READ_LAMPS (R103) -/

/-- A bank as an enumeration of R82: LA 0, LB 1, RA 2, RB 3 (R171). -/
def bankCode (b : Bank) : Nat := b.number - 1

/-- Milliseconds remaining in a settle, a part of one counted whole. -/
def settleLeft (l : Lamps) : Nat := ceilDiv (l.settleRun * 1000 - l.settleUs) 1000

def bankItems (l : Lamps) (b : Bank) : List Item :=
  [u 1 (l.health.get b).code, ou 2 (l.fullScale.get b), ou 2 (l.lastReading.get b), u 2 (l.drive.get b)]

def Holder.code : Holder → Nat
  | .free => 0
  | .capture => 1
  | .check _ => 2

/-- Bound faces, left then right. -/
def boundBytes (b : BoundFaces) : List Byte := le 2 b.faces.left ++ le 2 b.faces.right

/-- The check that holds the resource (R82). -/
def heldCheck? (l : Lamps) : Option Check :=
  match l.holder with
  | .check c => some c
  | _ => none

/-- The check in progress: kind, bank set and next bank as one group, then its bound faces (R82, R103). The next bank
is the first one not yet judged: while a pulse is lit, the bank that is being pulsed, until its judgement. A check
whose banks are all judged does not outlast its last judgement, so a next bank always stands. DESIGN CHOICE
(notes/assumptions/15.md), unsafe. -/
def checkItems (c : Option Check) : List Item :=
  [ .opt 3 (c.map fun c => le 1 c.kind.code ++ le 1 (bankSetCode c.banks)
      ++ le 1 ((c.remaining.head?.map bankCode).getD 0)),
    .opt 4 (c.bind fun c => c.bound.map boundBytes) ]

/-- "For each bank pulsed, the reading and verdict" (R98), a list whose length varies: its count in one byte, then its
members (R171), in the order in which the check pulses its banks (R95). -/
def resultBytes (results : Banks (Option PulseResult)) : List Byte :=
  let pulsed := Bank.all.filterMap results.get
  le 1 pulsed.length ++ pulsed.flatMap fun x => le 2 x.reading ++ le 1 x.verdict.code

/-- The last check record (R98): kind, bank set and the list of results, the bound faces, the outcome. An absent
record's list has count 0. -/
def recordItems (r : Option CheckRecord) : List Item :=
  [ .opt 3 (r.map fun r => le 1 r.kind.code ++ le 1 (bankSetCode r.banks) ++ resultBytes r.results),
    .opt 4 (r.bind fun r => r.bound.map boundBytes), ou 1 (r.map fun r => r.outcome.code - 1) ]

/-- The items of READ_LAMPS in the order of R103. DESIGN CHOICE (notes/assumptions/15.md), unsafe. -/
def lampItems (s : State) : List Item :=
  let l := s.lamps
  [u 1 l.supply.code, ou 2 (if l.supply = .settling then some (settleLeft l) else none)]
    ++ Bank.all.flatMap (bankItems l) ++ sideItems l
    ++ [ u 2 l.duration.left, u 2 l.duration.right, u 2 l.spill,
         u 1 l.aimingLevel, u 1 l.restLevel, flagItem l.aimingCut, flagItem s.dose.aiming.isSome,
         u 2 l.tRest, u 2 l.tDark, u 2 l.tSupply, u 1 l.idleStage.code, u 2 l.idleElapsed, u 2 l.settle,
         u 4 l.reservoir,
         u 1 l.counter, u 1 l.interval, flagItem l.rotation, u 1 (bankCode l.pointer), flagItem l.fullCheck,
         u 2 l.tolerance, u 2 l.failLimit, u 2 l.deferrals,
         u 1 l.holder.code, u 1 (bit l.waitingCapture + 2 * bit l.waitingCheck.isSome) ]
    ++ checkItems (heldCheck? l) ++ recordItems l.lastCheck ++ [u 1 (bit s.pause.hoodOpen)]

def takeReadLamps (s : State) : State × Answer := (s, taken (lampItems s))

/-- READ_LAMPS (R103). -/
def execReadLamps (tag : Nat) (s : State) : Host.Outcome State Fault Refusal :=
  .next (arrive s 0x27 tag takeReadLamps)

/-! ## The supply and the idle timer (R83, R90) -/

/-- SUPPLY_SETTLED (R83). -/
def execSupplySettled (s : State) : Host.Outcome State Fault Refusal :=
  .next (if s.lamps.supply = .settling then transmit (aimRetest (supplyReady s)) else s)

/-- The idle timer reaches the next of its intervals, and the stage follows the count; at T_supply the supply
goes OFF (R90). -/
def idleExpires (s : State) : State :=
  let elapsed := idleNext s.lamps
  let aged := setLamps s
    { s.lamps with idleStage := stageOf s.lamps elapsed, idleElapsed := elapsed, idleUs := 0 }
  if stageOf s.lamps elapsed = .expired then supplyOff aged else aged

/-- IDLE_STAGE_EXPIRY (R90). A timer that is held, or has stopped at T_supply, does not expire. -/
def execIdleStageExpiry (s : State) : Host.Outcome State Fault Refusal :=
  .next (
    if idleHeld s || s.lamps.idleStage = .expired then s else transmit (aimRetest (idleExpires s)))

/-! ## The lighting arbiter (R93, R94) -/

/-- LIGHTING_GRANT (R93). -/
def execLightingGrant (s : State) : Host.Outcome State Fault Refusal :=
  .next (transmit (aimRetest (grantNext s)))

/-- The append is taken and the capture enters EXPOSING (R126): the entry PENDING at the end of the log, and the
trigger of each requested camera asserted. -/
def enterExposing (s : State) (take : Nat) (sides : CaptureSides) (index : Nat) : State :=
  let stored := appendCapture s take sides
  setCapture stored
    { stored.capture with
        state := .exposing, entry := some index, faceDoses := Sides.both 0
        trigger := { left := sides.has .left, right := sides.has .right } }

/-- The confirming prediction of a capture with its banks fixed at the grant (R110). -/
def confirm (s : State) (v : Volume) (n : Nat) (sides : CaptureSides) : Option Nat :=
  predict v (facesOf n) (captureDose s.lamps s.lamps.fixedBanks sides)

/-- The lighting is ready for an ARMING capture (R94, R110, R125). -/
def lightingReady (s : State) : State :=
  match openVolume? s, s.capture.opening, s.capture.sides with
  | some v, some n, some sides =>
    match confirm s v n sides with
    | some named => captureEndArming (doseRefused s named) .endedDose
    | none =>
      if captureAppendable s then enterExposing s (s.capture.take.getD 0) sides v.log.length
      else captureEndArming (loseEntry s 0) .endedStore
  | _, _, _ => s

/-- The event says that the reservoir covers a cost, so its level is at least that cost. DESIGN CHOICE
(notes/assumptions/4.md), unsafe. -/
def covered (s : State) (cost : Nat) : State := setLamps s { s.lamps with reservoir := max s.lamps.reservoir cost }

/-- LIGHTING_READY (R94). -/
def execLightingReady (s : State) : Host.Outcome State Fault Refusal :=
  .next (
    if captureHolds s.lamps && s.capture.state = .arming then
      transmit (aimRetest (lightingReady (covered s s.lamps.captureCost)))
    else s)

/-! ## Reference pulses (R95, R96) -/

/-- The next pulse of the check that holds the resource starts (R92, R95): 200 units drawn, the bank alone at
1000 ‰, the bound faces charged at the rated maximum. -/
def pulseStart (s : State) (c : Check) (b : Bank) : State :=
  let drawn := idleRestart (setLamps s
    { s.lamps with reservoir := s.lamps.reservoir - pulseCost, holder := .check { c with lit := true } })
  match c.bound with
  | some bound => chargePulse drawn bound b
  | none => drawn

/-- REFERENCE_PULSE_START (R95). -/
def execReferencePulseStart (s : State) : Host.Outcome State Fault Refusal :=
  .next (
    match s.lamps.holder with
    | .check c =>
      match c.remaining with
      | b :: _ => if c.lit then s else transmit (pulseStart (covered s pulseCost) c b)
      | [] => s
    | _ => s)

/-- The F_b that a judgement compares with: none for an UNCALIBRATED bank (R96). -/
def acceptedScale (l : Lamps) (b : Bank) : Option Nat :=
  if l.health.get b = .uncalibrated then none else l.fullScale.get b

/-- The change of a reading against F_b, in ‰ rounded down (R96). -/
def changeOf (r f : Nat) : Nat := ((r - f) + (f - r)) * 1000 / f

/-- The verdict on a reading (R96). -/
def verdictOf (scale : Option Nat) (tolerance failLimit r : Nat) : Verdict :=
  if r < 1000 then .failed
  else
    match scale with
    | none => .accepted
    | some f =>
      if changeOf r f ≤ tolerance then .accepted else if changeOf r f ≤ failLimit then .drift else .failed

/-- The bank's health and F_b after a judgement (R96). -/
def judged (l : Lamps) (b : Bank) (r : Nat) (v : Verdict) : Lamps :=
  match v with
  | .failed =>
    { l with health := l.health.set b .failed, fullScale := l.fullScale.set b (acceptedScale l b) }
  | _ => { l with health := l.health.set b .good, fullScale := l.fullScale.set b (some r) }

/-- The incident and the condition that a verdict gives (R96). -/
def verdictReport (s : State) (b : Bank) (r : Nat) : Verdict → State
  | .accepted => s
  | .drift => latch (appendIncident s .lampDrift b.number r) (.lampDrift b)
  | .failed => latch (appendIncident s .lampFailed b.number r) (.lampFailed b)

/-- A check that holds the resource ends (R98): its record, then the resource FREE or passed to a claimant that
waits (R93). -/
def endCheck (s : State) (c : Check) (outcome : CheckOutcome) : State :=
  grantNext (finishCheck (setLamps s { s.lamps with holder := .free }) c outcome)

/-- After a judgement: the check goes on, or ends because the hood opened under the pulse (R101) or because every
bank has been judged (R95). -/
def checkGoesOn (s : State) (c : Check) : State :=
  if c.hoodEnded then endCheck s c .endedHood
  else if c.remaining = [] then endCheck s c .complete
  else setLamps s { s.lamps with holder := .check c }

/-- A pulse of bank `b` ends with a reading of `r` lux (R95 steps 3 and 4). -/
def pulseEnd (s : State) (c : Check) (b : Bank) (rest : List Bank) (r : Nat) : State :=
  let read := settlePulse (setLamps s { s.lamps with lastReading := s.lamps.lastReading.set b (some r) }) r
  let v := verdictOf (acceptedScale s.lamps b) s.lamps.tolerance s.lamps.failLimit r
  let told := verdictReport (setLamps read (judged read.lamps b r v)) b r v
  checkGoesOn told
    { c with remaining := rest, results := c.results.set b (some { reading := r, verdict := v }), lit := false }

/-- REFERENCE_PULSE_END (R95, R96): a reading above 60000 lux is taken as 60000. -/
def execReferencePulseEnd (reading : Nat) (s : State) : Host.Outcome State Fault Refusal :=
  .next (
    match s.lamps.holder with
    | .check c =>
      match c.remaining with
      | b :: rest =>
        if c.lit then transmit (aimRetest (pulseEnd s c b rest (min reading ratedLux))) else s
      | [] => s
    | _ => s)

/-! ## Aiming intervals (R117) -/

/-- AIMING_INTERVAL (R117): while the light is lit, the next interval is predicted and charged, or the light is
cut. -/
def execAimingInterval (s : State) : Host.Outcome State Fault Refusal :=
  .next (if s.dose.aiming.isSome && aimWanted s then transmit (aimStart s) else s)

end Sys2Proof.Machine
end

