-- ==== Sys2Proof/Machine/Capturing.lean ====
section
/-! DEFINITION. The requests of the Capture Unit (R122 to R138) and the events of the two cameras and of the strobes
(R121, R126 to R128). -/

namespace Sys2Proof.Machine

open Sys2Proof.Config

/-! ## CAPTURE (R122, R123) -/

/-- A capture has been admitted and has not yet been released or ended (R122 check 5). -/
def captureStands (c : Capture) : Bool :=
  captureRuns c || c.state = .receiptWait || c.state = .acceptWait

/-- The turner stands in the way of a capture (R122 check 4). -/
def turnerBars (t : Turner) : Bool :=
  (t.state != .idle && t.state != .halted) || (t.state = .halted && t.parkWaiting)

/-- The first of checks 1 to 8 of R122 that refuses a CAPTURE, with its field index. -/
def captureRefusal? (s : State) (code : Nat) : Option (Reason × Nat) :=
  match captureSidesOf? code with
  | none => some (.badValue, 1)
  | some sides =>
    if (openVolume? s).isNone then some (.noVolume, 0)
    else if s.tracker.state = .uncertain then some (.uncertain, 0)
    else if s.tracker.state != .placed then some (.wrongState, 0)
    else if turnerBars s.turner then some (.busy, 0)
    else if captureStands s.capture then some (.busy, 0)
    else if s.pause.state = .pausedBroken then some (.uncertain, 0)
    else if s.pause.hoodOpen then some (.hoodOpen, 0)
    else
      match unusableSide? s.lamps sides with
      | some status => status.reason?.map fun r => (r, 1)
      | none => none

/-- The capture's dose with the banks that R86 would fire now (R110, at admission). -/
def admissionDose (l : Lamps) (sides : CaptureSides) : Sides Nat :=
  captureDose l (firingBanks l sides) sides

/-- Checks 10 and 11 of R122: the reserve of log entries, and the take numbers of the opening. -/
def storeBars (s : State) (v : Volume) (n : Nat) : Bool :=
  freeEntries s ≤ reserve || 255 ≤ takesAt v.log n

/-- The record that a taken CAPTURE sets (R123 steps 1 to 4). -/
def captureRecord (s : State) (v : Volume) (n : Nat) (sides : CaptureSides) (manual : Bool) : Capture :=
  let hold := shownHold v.marks n
  let waits (side : Side) : Progress := if sides.has side then .triggered else .notRequested
  { s.capture with
    state := .arming
    voiding := false
    sides := some sides
    opening := some n
    take := some (takesAt v.log n + 1)
    hold := some hold
    release := some (if hold then .onAccept else s.capture.releaseMode)
    manual := some manual
    progress := { left := waits .left, right := waits .right }
    frame := Sides.both none
    receipt := Sides.both false
    duration := Sides.both 0
    flags := { EntryFlags.empty with manual := manual }
    entry := none
    lastOutcome := .none
    trigger := Sides.both false
    press := .none
    admitted := admissionDose s.lamps sides
    faceDoses := Sides.both 0
    litUs := Sides.both 0 }

/-- The items of CAPTURE's STARTED reply: sides, n, take, hold, release in force (R123). -/
def captureItems (c : Capture) : List Item :=
  [ u 1 ((c.sides.map CaptureSides.code).getD 0), u 2 (c.opening.getD 0), u 1 (c.take.getD 0),
    listedItem (c.hold.getD false), u 1 ((c.release.map ReleaseMode.code).getD 0) ]

/-- CAPTURE taken (R123, R124): the record, ARMING, the supply and the press asked for. -/
def startCapture (s : State) (v : Volume) (n : Nat) (sides : CaptureSides) (manual : Bool) : State × Answer :=
  let c := captureRecord s v n sides manual
  (armPump (pressRequest (supplyOn (setCapture s c))), started (captureItems c))

/-- A CAPTURE that reaches the part, by request or by pedal (R122): the idle timer restarts whatever its answer;
then the checks, and with the pause RUNNING it is taken, with PAUSED deferred. -/
def captureArrives (code : Nat) (manual : Bool) (s : State) : State × Answer :=
  let s := idleRestart s
  match captureRefusal? s code with
  | some (reason, field) => refuse s reason field
  | none =>
    match openVolume? s, s.tracker.n, captureSidesOf? code with
    | some v, some n, some sides =>
      match predict v (facesOf n) (admissionDose s.lamps sides) with
      | some named => (doseRefused s named, .refused (doseReason named) 1)
      | none =>
        if storeBars s v n then refuse s .storeFull 0
        else if s.pause.state = .paused then deferRequest s (.capture code)
        else startCapture s v n sides manual
    | _, _, _ => refuse s .wrongState 0

def takeCapture (code : Nat) (s : State) : State × Answer :=
  let out := captureArrives code false s
  (aimRetest out.1, out.2)

/-- CAPTURE (R122). -/
def execCapture (tag sides : Nat) (s : State) : Host.Outcome State Fault Refusal :=
  .next (arrive s 0x30 tag (takeCapture sides))

/-! ## FRAME_RECEIVED (R130) -/

/-- The required receipts that are still missing (R130). -/
def missingReceipts (c : Capture) : Nat :=
  let sides := c.sides.getD .both
  bit (sides.has .left && !c.receipt.left) + bit (sides.has .right && !c.receipt.right)

/-- The frame number of a side is the one given. -/
def frameIs (c : Capture) (side : Side) (number : Nat) : Bool :=
  match c.frame.get side with
  | some f => f.toNat = number
  | none => false

/-- FRAME_RECEIVED's reply: camera, frame number, taken (0) or a duplicate (1), receipts still missing (R130). DESIGN
CHOICE (notes/assumptions/15.md), unsafe. -/
def receiptAnswer (c : Capture) (side : Side) (number : Nat) (duplicate : Bool) : Answer :=
  taken [u 1 (sideCode side), u 4 number, flagItem duplicate, u 1 (missingReceipts c)]

/-- The receipt taken, and the release decision when it is the last one of a completed capture (R130, R131). -/
def takeReceipt (s : State) (side : Side) : State :=
  let noted := setCapture s { s.capture with receipt := s.capture.receipt.set side true }
  if s.capture.state = .receiptWait && receiptsDone noted.capture then releaseDecision noted else noted

def takeFrameReceived (camera number : Nat) (s : State) : State × Answer :=
  match cameraOf? camera with
  | none => refuse s .badValue 1
  | some side =>
    let c := s.capture
    if c.state = .none || c.state = .arming then refuse s .wrongState 0
    else if c.state = .acceptWait || c.state = .released then
      if c.receipt.get side && frameIs c side number then (s, receiptAnswer c side number true)
      else refuse s .wrongState 0
    else if !(c.sides.getD .both).has side then refuse s .wrongFrame 1
    else if (c.state = .exposing && c.voiding) || c.progress.get side != .done then refuse s .wrongState 0
    else if !frameIs c side number then refuse s .wrongFrame 2
    else if c.receipt.get side then (s, receiptAnswer c side number true)
    else (takeReceipt s side, receiptAnswer (takeReceipt s side).capture side number false)

/-- FRAME_RECEIVED (R130). -/
def execFrameReceived (tag camera number : Nat) (s : State) : Host.Outcome State Fault Refusal :=
  .next (arrive s 0x31 tag (takeFrameReceived camera number))

/-! ## ACCEPT and REJECT (R132, R133) -/

/-- The reply of ACCEPT and REJECT: n, the take, the entry index. -/
def entryItems (c : Capture) : List Item := [u 2 (c.opening.getD 0), u 1 (c.take.getD 0), u 2 (c.entry.getD 0)]

def takeAccept (s : State) : State × Answer :=
  if s.capture.state != .acceptWait then refuse s .wrongState 0
  else (acceptCapture s, taken (entryItems s.capture))

/-- ACCEPT (R132). -/
def execAccept (tag : Nat) (s : State) : Host.Outcome State Fault Refusal :=
  .next (arrive s 0x32 tag takeAccept)

/-- REJECT taken (R133): the entry REJECTED, the capture NONE. -/
def rejectCapture (s : State) : State :=
  let rejected := setPendingStatus s .rejected
  setCapture rejected
    { rejected.capture with
        state := .none, progress := Sides.both .notRequested, entry := none, lastOutcome := .rejected }

def takeReject (s : State) : State × Answer :=
  if s.capture.state != .receiptWait && s.capture.state != .acceptWait then refuse s .wrongState 0
  else (rejectCapture s, taken (entryItems s.capture))

/-- REJECT (R133). -/
def execReject (tag : Nat) (s : State) : Host.Outcome State Fault Refusal :=
  .next (arrive s 0x33 tag takeReject)

/-! ## SET_CAPTURE and READ_CAPTURE (R137, R138) -/

/-- The five capture settings replaced together (R137). -/
def captureSettings (c : Capture) (mode timeout delayL delayR pedal : Nat) : Capture :=
  { c with
    releaseMode := if mode = 0 then .onReceipt else .onAccept
    timeout := timeout
    strobeDelay := { left := delayL, right := delayR }
    pedalCapture := pedal = 1 }

/-- SET_CAPTURE taken (R137). WRONG_STATE before BAD_VALUE is a DESIGN CHOICE (notes/assumptions/31.md), unsafe. -/
def takeSetCapture (mode timeout delayL delayR pedal : Nat) (s : State) : State × Answer :=
  if captureStands s.capture then refuse s .wrongState 0
  else
    match firstBad
      [ (1, within 0 1 mode), (2, within 50 5000 timeout), (3, within 0 5000 delayL),
        (4, within 0 5000 delayR), (5, within 0 1 pedal) ] with
    | some field => refuse s .badValue field
    | none =>
      (setCapture s (captureSettings s.capture mode timeout delayL delayR pedal),
        taken [u 1 mode, u 2 timeout, u 2 delayL, u 2 delayR, u 1 pedal])

/-- SET_CAPTURE (R137). -/
def execSetCapture (tag mode timeout delayL delayR pedal : Nat) (s : State) :
    Host.Outcome State Fault Refusal :=
  .next (arrive s 0x34 tag (takeSetCapture mode timeout delayL delayR pedal))

/-- The items of READ_CAPTURE for one side, its receipt 0 when taken, the value that R120 lists first (R138, R171). -/
def captureSideItems (c : Capture) (side : Side) : List Item :=
  [ u 1 (c.progress.get side).code, ou 4 ((c.frame.get side).map BitVec.toNat), listedItem (c.receipt.get side),
    u 2 (c.duration.get side) ]

/-- The items of READ_CAPTURE in the order of R138. DESIGN CHOICE (notes/assumptions/15.md), unsafe. -/
def captureReadItems (c : Capture) : List Item :=
  [ u 1 c.state.code, flagItem c.voiding, ou 1 (c.sides.map CaptureSides.code), ou 2 c.opening, ou 1 c.take,
    ou 1 (c.hold.map firstCode), ou 1 (c.release.map ReleaseMode.code), ou 1 (c.manual.map firstCode) ]
    ++ captureSideItems c .left ++ captureSideItems c .right
    ++ [ u 1 c.flags.code, ou 2 c.entry, .bytes c.lastOutcome.codes, u 4 c.counter.left.toNat,
         u 4 c.counter.right.toNat, u 1 c.releaseMode.code, u 2 c.timeout, u 2 c.strobeDelay.left,
         u 2 c.strobeDelay.right, flagItem c.pedalCapture ]

def takeReadCapture (s : State) : State × Answer := (s, taken (captureReadItems s.capture))

/-- READ_CAPTURE (R138). -/
def execReadCapture (tag : Nat) (s : State) : Host.Outcome State Fault Refusal :=
  .next (arrive s 0x35 tag takeReadCapture)

/-! ## The exposure (R121, R126, R127) -/

/-- A side's strobe starts (R126): LIT, its cost drawn, the idle timer restarted, the dose charged. -/
def startStrobe (s : State) (side : Side) : State :=
  let lit := setCapture s
    { s.capture with progress := s.capture.progress.set side .lit, litUs := s.capture.litUs.set side 0 }
  let drawn := setLamps lit
    { lit.lamps with reservoir := lit.lamps.reservoir - strobeCost lit.lamps lit.lamps.fixedBanks side }
  chargeStrobe (idleRestart drawn) side

/-- The frame counter of a camera raised by one, modulo 2^32, and its line seen high (R121). -/
def countRise (s : State) (side : Side) : State :=
  { s with
    capture := { s.capture with counter := s.capture.counter.set side (s.capture.counter.get side + 1) }
    pins := { s.pins with exposureActive := s.pins.exposureActive.set side true } }

/-- A rise that an outstanding trigger awaited (R126): the frame number, the trigger withdrawn, DELAY; a delay of
0 starts the strobe at once. -/
def takeRise (s : State) (side : Side) : State :=
  let risen := setCapture s
    { s.capture with
        frame := s.capture.frame.set side (some (s.capture.counter.get side))
        trigger := s.capture.trigger.set side false
        progress := s.capture.progress.set side .delay }
  if s.capture.strobeDelay.get side = 0 then startStrobe risen side else risen

/-- A stray frame (R121). -/
def strayFrame (s : State) (side : Side) : State :=
  appendIncident s .strayFrame (sideCode side) (s.capture.counter.get side).toNat

/-- EXPOSURE_ACTIVE_RISE (R121, R126). -/
def execExposureActiveRise (side : Side) (s : State) : Host.Outcome State Fault Refusal :=
  let risen := countRise s side
  .next (transmit (if s.capture.trigger.get side then takeRise risen side else strayFrame risen side))

/-- STROBE_DELAY_EXPIRY (R126). -/
def execStrobeDelayExpiry (side : Side) (s : State) : Host.Outcome State Fault Refusal :=
  .next (
    if s.capture.state = .exposing && !s.capture.voiding && s.capture.progress.get side = .delay then
      transmit (startStrobe s side)
    else s)

/-- STROBE_END (R126): the set duration has run. -/
def execStrobeEnd (side : Side) (s : State) : Host.Outcome State Fault Refusal :=
  .next (
    if s.capture.state = .exposing && s.capture.progress.get side = .lit then
      transmit (aimRetest (exposurePump (endStrobe s side (s.lamps.duration.get side) .awaitFall)))
    else s)

/-- UNDER added to the gathered flags (R127). DEDUCED (notes/assumptions/22.md), unsafe. -/
def markUnder (s : State) : State :=
  setCapture s { s.capture with flags := { s.capture.flags with under := true } }

/-- A side's progress becomes DONE with no strobe of it lit. -/
def sideDone (s : State) (side : Side) : State :=
  setCapture s { s.capture with progress := s.capture.progress.set side .done }

/-- The effect of a fall by the side's progress (R127). -/
def takeFall (s : State) (side : Side) : State :=
  match s.capture.progress.get side with
  | .delay => exposurePump (closeSettle (sideDone (markUnder s) side))
  | .lit => exposurePump (endStrobe (markUnder s) side (cutDuration s side) .done)
  | .awaitFall => exposurePump (sideDone s side)
  | _ => s

/-- EXPOSURE_ACTIVE_FALL (R127). -/
def execExposureActiveFall (side : Side) (s : State) : Host.Outcome State Fault Refusal :=
  let fallen : State :=
    { s with pins := { s.pins with exposureActive := s.pins.exposureActive.set side false } }
  .next (
    if s.capture.state = .exposing then transmit (aimRetest (takeFall fallen side)) else fallen)

/-- A camera time-out runs for a side: its trigger is outstanding, or its line has risen and not fallen (R128). -/
def cameraTimerRuns (c : Capture) (side : Side) : Bool :=
  c.state = .exposing && !c.voiding &&
    (match c.progress.get side with
      | .triggered => c.trigger.get side
      | .delay => true
      | .lit => true
      | .awaitFall => true
      | _ => false)

/-- A camera time-out expires (R128). -/
def cameraExpires (s : State) (side : Side) : State :=
  let marked := latch
    (setCapture s { s.capture with voiding := true, lastOutcome := .voidTimeout }) (.captureTimeout side)
  exposurePump (closeSettle (cutStrobe (markVoiding marked) side))

/-- CAMERA_TIMEOUT (R128). -/
def execCameraTimeout (side : Side) (s : State) : Host.Outcome State Fault Refusal :=
  .next (if cameraTimerRuns s.capture side then transmit (aimRetest (cameraExpires s side)) else s)

end Sys2Proof.Machine
end

