-- ==== Sys2Proof/Machine/PauseLogic.lean ====
section
/-! DEFINITION. The Pause Logic (chapter 8): stops, the hood, the pedal, the requests RESUME, SET_AUX and READ_AUX, and
the events of the auxiliary lines. -/

namespace Sys2Proof.Machine

open Sys2Proof.Config

def setPause (s : State) (p : Pause) : State := { s with pause := p }

/-! ## Stops (R145, R146) -/

/-- Steps 3 and 4 of a stop: a broken pause with a volume OPEN appends PAUSE_BROKEN and makes the tracker
UNCERTAIN (R145). -/
def breakPause (s : State) (cause : PauseCause) (phase : Nat) : State :=
  match openVolume? s with
  | none => s
  | some _ => enterUncertain (appendIncident s .pauseBroken cause.code phase) (.uncertainBroken phase)

/-- Step 5 of a stop: a LOWERING or RAISING glass is HALTED where it stands, with no fault (R75). -/
def haltGlass (s : State) : State :=
  match s.mech.glass.state with
  | .lowering => setGlass s { s.mech.glass with state := .halted }
  | .raising => setGlass s { s.mech.glass with state := .halted }
  | _ => s

/-- The condition that a stop latches (R145 step 8, R150). -/
def PauseCause.condition : PauseCause → Condition
  | .stop => .haltStop
  | .hood => .haltHood

/-- A stop press or a hood opening (R145): in RUNNING the eight steps in order; in a pause nothing (R146). -/
def stopTaken (s : State) (cause : PauseCause) : State :=
  if s.pause.state != .running then s
  else
    let moving := inMotion s.turner
    let phase := brokenPhaseCode s.turner
    let halted := if moving then turnerHalted s .broken else s
    let paused := setPause halted
      { halted.pause with
          state := if moving then .pausedBroken else .paused
          cause := some cause
          brokenPhase := if moving then some phase else none }
    let told := if moving then breakPause paused cause phase else paused
    latch (idleDark (voidOrder (haltGlass told))) cause.condition

/-! ## The hood (R101, R141) -/

/-- The hood is OPEN when some line assigned HOOD has debounced level HIGH (R141). -/
def hoodFrom (lines : Lines Aux) : Bool :=
  AuxLine.all.any fun l => (lines.get l).func = .hood && (lines.get l).debounced

/-- The hood's opening as a reference check sees it (R101): a waiting check leaves the list; a check that holds the
resource ends now, or, while its pulse is lit, when that pulse has been judged. -/
def hoodEndsCheck (s : State) : State :=
  let waited :=
    match s.lamps.waitingCheck with
    | some c => finishCheck (setLamps s { s.lamps with waitingCheck := none }) c .endedHood
    | none => s
  match waited.lamps.holder with
  | .check c =>
    if c.lit then setLamps waited { waited.lamps with holder := .check { c with hoodEnded := true } }
    else endCheck waited c .endedHood
  | _ => waited

/-- The hood state judged (R141): an opening is reported, ends reference checks and is a stop; a closing only
changes the state. The check's end, which may restart the idle timer (R90, R101), comes before the eight steps of the
stop (R145), which then leave the stage DARK. DEDUCED (notes/assumptions/30.md), unsafe. -/
def judgeHood (s : State) : State :=
  let opened := hoodFrom s.pause.lines
  if opened = s.pause.hoodOpen then s
  else
    let told := setPause s { s.pause with hoodOpen := opened }
    if opened then stopTaken (hoodEndsCheck told) .hood else told

/-! ## The pedal (R149) -/

def recordPedal (s : State) (a : PedalAction) : State := setPause s { s.pause with lastPedal := a }

/-- A CAPTURE of BOTH by the pedal: it has no reply, and a refusal is recorded as the last outcome (R122). -/
def pedalCaptures (s : State) : State :=
  let out := captureArrives 1 true s
  match out.2 with
  | .refused reason _ => setCapture out.1 { out.1.capture with lastOutcome := .refused reason }
  | .own _ _ _ => out.1

/-- A pedal press takes the first meaning of R149 that applies. -/
def pedalPress (s : State) : State :=
  if s.turner.state = .manualWait then
    if s.turner.step = .running then manualCompletes (recordPedal s .manualDone) else recordPedal s .ignored
  else if s.capture.state = .acceptWait then acceptCapture (recordPedal s .accept)
  else if s.capture.pedalCapture && s.pause.state = .running
      && (s.capture.state = .none || s.capture.state = .released) then
    pedalCaptures (recordPedal s .capture)
  else recordPedal s .ignored

/-! ## RESUME (R148) -/

/-- The deferred request is taken out and started as if it had just arrived (R148 step 3). -/
def startDeferred (s : State) (d : Deferred) : State × Answer :=
  let out := setPause s { s.pause with deferred := none }
  match d with
  | .turn direction flags => turnArrives direction flags out
  | .capture sides => captureArrives sides false out

/-- The last deferred outcome that the started request's answer gives (R148 step 3). -/
def deferredResult (out : State × Answer) : State :=
  match out.2 with
  | .refused reason _ =>
    latch (setPause out.1 { out.1.pause with lastDeferred := .refused reason }) (.haltDeferredRefused reason)
  | .own _ _ _ => setPause out.1 { out.1.pause with lastDeferred := .started }

/-- The kind of a deferred request. -/
def Deferred.kind : Deferred → Nat
  | .turn _ _ => 0x10
  | .capture _ => 0x30

/-- RESUME's first two steps: RUNNING, and a HALTED glass starts RAISING (R148, R75). -/
def resumeRunning (s : State) : State :=
  let running := setPause s { s.pause with state := .running, cause := none, brokenPhase := none }
  if s.mech.glass.state = .halted then glassRaise running else running

/-- RESUME taken (R148). -/
def resumeTaken (s : State) : State :=
  match s.pause.deferred with
  | some d => deferredResult (startDeferred (resumeRunning s) d)
  | none => resumeRunning s

/-- RESUME (R148): no part in RUNNING has its hood open, so that its two refusals never meet. That the outcome in the
reply has the codes of the last deferred outcome (R139: 0 NONE, 1 STARTED, 2 REFUSED) is a DESIGN CHOICE
(notes/assumptions/15.md), unsafe. -/
def takeResume (s : State) : State × Answer :=
  if s.pause.state = .running then refuse s .wrongState 0
  else if s.pause.hoodOpen then refuse s .hoodOpen 0
  else
    let t := resumeTaken s
    (aimRetest t,
      taken [ u 1 s.pause.state.code, ou 1 (s.pause.deferred.map Deferred.kind),
        .opt 2 (s.pause.deferred.map fun _ => t.pause.lastDeferred.codes) ])

/-- RESUME (R148). -/
def execResume (tag : Nat) (s : State) : Host.Outcome State Fault Refusal :=
  .next (arrive s 0x38 tag takeResume)

/-! ## SET_AUX and READ_AUX (R143, R144) -/

/-- No pending edge. -/
def PendingEdges.zero : PendingEdges := { count := 0, last := none }

/-- A line's settings replaced; a change of either clears its pending edges (R143 step 1). -/
def setLine (a : Aux) (func : LineFunction) (edge : EdgeSelection) : Aux :=
  { a with
    func := func, edge := edge
    edges := if a.func = func ∧ a.edge = edge then a.edges else PendingEdges.zero }

/-- The eight settings of SET_AUX read by their codes; none when a code is not listed (R143). -/
def auxSettings? (funcs edges : Lines Nat) : Option (Lines (LineFunction × EdgeSelection)) :=
  match lineFunctionOf? funcs.aux0, edgeSelectionOf? edges.aux0, lineFunctionOf? funcs.aux1,
    edgeSelectionOf? edges.aux1, lineFunctionOf? funcs.aux2, edgeSelectionOf? edges.aux2,
    lineFunctionOf? funcs.aux3, edgeSelectionOf? edges.aux3 with
  | some f0, some e0, some f1, some e1, some f2, some e2, some f3, some e3 =>
    some { aux0 := (f0, e0), aux1 := (f1, e1), aux2 := (f2, e2), aux3 := (f3, e3) }
  | _, _, _, _, _, _, _, _ => none

/-- The lowest-numbered field of SET_AUX that is out of range (R143). -/
def auxBad? (funcs edges : Lines Nat) : Option Nat :=
  firstBad
    [ (1, (lineFunctionOf? funcs.aux0).isSome), (2, (edgeSelectionOf? edges.aux0).isSome),
      (3, (lineFunctionOf? funcs.aux1).isSome), (4, (edgeSelectionOf? edges.aux1).isSome),
      (5, (lineFunctionOf? funcs.aux2).isSome), (6, (edgeSelectionOf? edges.aux2).isSome),
      (7, (lineFunctionOf? funcs.aux3).isSome), (8, (edgeSelectionOf? edges.aux3).isSome) ]

/-- The settings replaced together (R143). -/
def setLines (q : Lines Aux) (new : Lines (LineFunction × EdgeSelection)) : Lines Aux :=
  { aux0 := setLine q.aux0 new.aux0.1 new.aux0.2, aux1 := setLine q.aux1 new.aux1.1 new.aux1.2
    aux2 := setLine q.aux2 new.aux2.1 new.aux2.2, aux3 := setLine q.aux3 new.aux3.1 new.aux3.2 }

/-- SET_AUX taken (R143). WRONG_STATE before BAD_VALUE is a DESIGN CHOICE (notes/assumptions/31.md), unsafe. -/
def takeSetAux (funcs edges : Lines Nat) (s : State) : State × Answer :=
  if s.pause.state = .pausedBroken then refuse s .wrongState 0
  else
    match auxBad? funcs edges, auxSettings? funcs edges with
    | none, some new =>
      let t := judgeHood (setPause s { s.pause with lines := setLines s.pause.lines new })
      (aimRetest t,
        taken [ u 1 funcs.aux0, u 1 edges.aux0, u 1 funcs.aux1, u 1 edges.aux1, u 1 funcs.aux2, u 1 edges.aux2,
          u 1 funcs.aux3, u 1 edges.aux3, u 1 (bit t.pause.hoodOpen), u 1 t.pause.state.code ])
    | some field, _ => refuse s .badValue field
    | none, none => refuse s .badValue 0

/-- SET_AUX (R143). -/
def execSetAux (tag func0 edge0 func1 edge1 func2 edge2 func3 edge3 : Nat) (s : State) :
    Host.Outcome State Fault Refusal :=
  .next (arrive s 0x39 tag
    (takeSetAux { aux0 := func0, aux1 := func1, aux2 := func2, aux3 := func3 }
      { aux0 := edge0, aux1 := edge1, aux2 := edge2, aux3 := edge3 }))

/-- A line in READ_AUX: function, edge selection, debounced level (HIGH 0, LOW 1), pending count, last edge (RISING
0, FALLING 1) (R144, R171). -/
def lineItems (a : Aux) : List Item :=
  [ u 1 a.func.code, u 1 a.edge.code, u 1 (bit !a.debounced), u 2 a.edges.count,
    ou 1 (a.edges.last.map fun e => e.code - 1) ]

/-- The deferred slot in READ_AUX: its kind, a TURN's two fields, a CAPTURE's field. -/
def deferredItems (d : Option Deferred) : List Item :=
  [ ou 1 (d.map Deferred.kind),
    .opt 2 (match d with | some (.turn direction flags) => some (le 1 direction ++ le 1 flags) | _ => none),
    .opt 1 (match d with | some (.capture sides) => some (le 1 sides) | _ => none) ]

/-- The items of READ_AUX in the order of R144. DESIGN CHOICE (notes/assumptions/15.md), unsafe. -/
def auxItems (p : Pause) : List Item :=
  [u 1 p.state.code, ou 1 (p.cause.map fun c => c.code - 1), ou 1 p.brokenPhase]
    ++ lineItems p.lines.aux0 ++ lineItems p.lines.aux1 ++ lineItems p.lines.aux2 ++ lineItems p.lines.aux3
    ++ [u 1 (bit p.hoodOpen)] ++ deferredItems p.deferred
    ++ [.bytes p.lastDeferred.codes, u 1 p.lastPedal.code]

/-- The pending edges of a line cleared (R144). -/
def clearEdges (a : Aux) : Aux := { a with edges := PendingEdges.zero }

/-- The pending edges of every line cleared (R144). -/
def clearAllEdges (q : Lines Aux) : Lines Aux :=
  { aux0 := clearEdges q.aux0, aux1 := clearEdges q.aux1, aux2 := clearEdges q.aux2, aux3 := clearEdges q.aux3 }

def takeReadAux (s : State) : State × Answer :=
  (setPause s { s.pause with lines := clearAllEdges s.pause.lines }, taken (auxItems s.pause))

/-- READ_AUX (R144). -/
def execReadAux (tag : Nat) (s : State) : Host.Outcome State Fault Refusal :=
  .next (arrive s 0x3A tag takeReadAux)

/-! ## The lines (R140 to R142) -/

def setAuxLine (s : State) (l : AuxLine) (a : Aux) : State :=
  setPause s { s.pause with lines := s.pause.lines.set l a }

/-- AUX_LEVEL_CHANGE (R140): a level that differs from the debounced one opens a window, and a return to it abandons
the window. -/
def execAuxLevelChange (line : AuxLine) (high : Bool) (s : State) : Host.Outcome State Fault Refusal :=
  let read : State := { s with pins := { s.pins with aux := s.pins.aux.set line high } }
  .next (setAuxLine read line
    { s.pause.lines.get line with window := high != (s.pause.lines.get line).debounced })

/-- An edge is one that the line's edge selection takes (R141). -/
def edgeSelected (e : EdgeSelection) (edge : EdgeKind) : Bool :=
  match e, edge with
  | .both, _ => true
  | .rising, .rising => true
  | .falling, .falling => true
  | _, _ => false

/-- A signal edge (R142). -/
def signalEdge (s : State) (line : AuxLine) (edge : EdgeKind) : State :=
  let a := s.pause.lines.get line
  latch
    (setAuxLine s line { a with edges := { count := min (a.edges.count + 1) hold16, last := some edge } })
    (.auxSignal line edge)

/-- An edge acts according to the line's function (R141). -/
def edgeActs (s : State) (line : AuxLine) (edge : EdgeKind) : State :=
  let a := s.pause.lines.get line
  match a.func, edge with
  | .stop, .falling => stopTaken s .stop
  | .pedal, .falling => pedalPress s
  | .hood, _ => judgeHood s
  | .signal, _ => if edgeSelected a.edge edge then signalEdge s line edge else s
  | _, _ => s

/-- AUX_EDGE (R140, R141): the window's end makes the edge. -/
def execAuxEdge (line : AuxLine) (s : State) : Host.Outcome State Fault Refusal :=
  let a := s.pause.lines.get line
  .next (
    if a.window then
      transmit (aimRetest (edgeActs (setAuxLine s line { a with debounced := !a.debounced, window := false }) line
        (if a.debounced then .falling else .rising)))
    else s)

end Sys2Proof.Machine
end

