-- ==== Sys2Proof/Machine/Conditions.lean ====
section
/-! DEFINITION. The requests of the Condition Summary: STATUS (R156) and SET_ATTENTION (R157). -/

namespace Sys2Proof.Machine

/-- The latched classes, counted (R156). -/
def latchedCount (l : Latches) : Nat := (CondClass.all.filter fun c => (l.get c).isSome).length

/-- STATUS's reply after the outcome (section 11.5); its layout has no presence field, and flag bit 1 tells whether
n is present. -/
def statusItems (s : State) : List Item :=
  [ u 1 (latchedCount s.summary.latches), u 2 s.summary.mask.toNat,
    u 1 ((s.summary.elevated.map CondClass.number).getD 0),
    u 1 (bit s.summary.outstanding + 2 * bit s.tracker.n.isSome),
    u 1 s.pause.state.code, u 1 s.tracker.state.code, u 2 (s.tracker.n.getD 0), u 1 s.capture.state.code,
    u 1 s.turner.state.code, u 1 s.lamps.supply.code, u 1 (bit s.pause.hoodOpen),
    .bytes (statusRecords s.summary) ]

def takeStatus (s : State) : State × Answer :=
  ({ s with summary := clearSummary s.summary }, taken (statusItems s))

/-- STATUS (R156). -/
def execStatus (tag : Nat) (s : State) : Host.Outcome State Fault Refusal :=
  .next (arrive s 0x40 tag takeStatus)

/-- The elevated class that SET_ATTENTION's field 2 names: none for 0, or a class of the mask (R157). -/
def elevatedOf? (mask : BitVec 9) (code : Nat) : Option (Option CondClass) :=
  if code = 0 then some none
  else
    match CondClass.ofNumber? code with
    | some c => if inMask mask c then some (some c) else none
    | none => none

/-- SET_ATTENTION queues a frame: the flag is clear and a class of the new mask is latched (R157 step 2). -/
def asksOnMask (m : Summary) : Bool := !m.outstanding && anyEnabledLatched m

/-- The mask and the elevated class replaced together (R157 step 1). -/
def setMask (s : State) (mask : BitVec 9) (elevated : Option CondClass) : State :=
  { s with summary := { s.summary with mask := mask, elevated := elevated } }

def takeSetAttention (mask elevated : Nat) (s : State) : State × Answer :=
  if 512 ≤ mask then refuse s .badValue 1
  else
    match elevatedOf? (BitVec.ofNat 9 mask) elevated with
    | none => refuse s .badValue 2
    | some e =>
      let set := setMask s (BitVec.ofNat 9 mask) e
      (if asksOnMask set.summary then askAttention set else set,
        taken [u 2 mask, u 1 elevated, flagItem (asksOnMask set.summary)])

/-- SET_ATTENTION (R157). -/
def execSetAttention (tag mask elevated : Nat) (s : State) : Host.Outcome State Fault Refusal :=
  .next (arrive s 0x41 tag (takeSetAttention mask elevated))

end Sys2Proof.Machine
end

