-- ==== Sys2Proof/Machine/Restart.lean ====
section
/-! DEFINITION. The three kinds of restart (R43): power-on, assertion of the reset line and the RESET request. Every
block takes the restart values of its chapter, and then what the restart itself reports is latched. -/

namespace Sys2Proof.Machine

open Sys2Proof.Config

/-- Which restart it is; its code is the cause that RESTART and UNCERTAIN record (R40, R152). -/
inductive RestartCause where
  | powerOn
  | resetLine
  | request
deriving DecidableEq, Repr

def RestartCause.code : RestartCause → Nat
  | .powerOn => 1
  | .resetLine => 2
  | .request => 3

/-- The rate that the baud straps select (R159). -/
def strapRate (straps : Nat) : Nat :=
  match straps % 4 with
  | 0 => 115200
  | 1 => 230400
  | 2 => 460800
  | _ => 921600

/-- The turner after a restart (R44, R45): HALTED when the arm is away from home; a power-on opens the valve and
releases the vacuum. -/
def turnerRestarted (t : Turner) (pins : Pins) (cause : RestartCause) : Turner :=
  { state := if pins.home then .idle else .halted
    step := .running, purpose := none, direction := none, manual := none, leaf := none, plateHeld := none
    attempt := none, airLevel := none, lastCount := none, lastOutcome := .none, parkWaiting := false
    cupHeld := cause != .powerOn && pins.hold
    settings := TurnerSettings.default
    valveClosed := cause != .powerOn && t.valveClosed
    restoreReleased := false, layEmpty := false }

/-- Cradle Mechanics after a restart (R68, R70, R76, R79): every setpoint where its feedback stands, the claim and
the waits cleared, and the glass RAISED at its stop or RAISING towards it, by the raised-stop reading that stands. DESIGN
CHOICE (notes/assumptions/25.md), unsafe. -/
def mechRestarted (pins : Pins) (limit : Nat) : Mechanics :=
  { targets := none
    platens :=
      { left := { setpoint := pins.position.left, pending := false, logged := false }
        right := { setpoint := pins.position.right, pending := false, logged := false } }
    glass :=
      { state := if pins.raisedStop then .raised else .raising
        requestedForce := limit, press := none, claim := false, waiters := [], keptRaise := false
        heldPress := false, fault := .none }
    angleTarget := pins.angle, anglePending := false }

/-- The release mode after a restart (R120). -/
def restartMode (s : State) : ReleaseMode :=
  match openVolume? s with
  | some v => v.profile.releaseMode
  | none => .onAccept

/-- The tracker before the store reports (R11): nothing placed since the restart. -/
def trackerRestarted : Tracker :=
  { state := .noVolume, slot := none, n := none, lastPlaced := some 0, doseLogged := false }

/-- The Pause Logic after a restart (R139, R150): the default lines at their sampled levels. -/
def pauseRestarted (pins : Pins) : Pause :=
  let lines := Aux.restartedLines pins.aux
  let stopped := AuxLine.all.any fun l => (lines.get l).func = .stop && !(lines.get l).debounced
  let opened := hoodFrom lines
  { state := if stopped || opened then .paused else .running
    cause := if stopped then some .stop else if opened then some .hood else none
    brokenPhase := none, lines := lines, hoodOpen := opened, deferred := none, lastDeferred := .none
    lastPedal := .none }

/-- The timestamp of the newest log entry, 0 for an empty log (R43 step 1). -/
def newestTimestamp (v : Volume) : Nat := (v.log.getLast?.map Entry.timestamp).getD 0

/-- Steps 1 to 3 of the store's handling of an OPEN volume: the clock resumed, a PENDING entry VOID, the restart
count raised (R43). -/
def restartRecord (v : Volume) : Volume :=
  { v with
    clock := newestTimestamp v
    log := v.log.map (Entry.onPending fun c => { c with status := .void })
    restartCount := min (v.restartCount + 1) hold16 }

/-- The OPEN volume at a restart (R43, R17): its record, the RESTART incident with the new count, and the tracker
UNCERTAIN. -/
def restartVolume (s : State) (slot : SlotId) (cause : RestartCause) : State :=
  let resumed := onOpen s restartRecord
  let count := ((openVolume? resumed).map Volume.restartCount).getD 0
  let noted := appendIncident resumed .restart cause.code count
  latch (setTracker noted { noted.tracker with state := .uncertain, slot := some slot })
    (.uncertainRestart cause.code)

/-- Every block's record at its restart values; the store's slots as they were after their last whole write. -/
def blocksRestarted (s : State) (cause : RestartCause) (rate : Nat) : State :=
  { s with
    store := { s.store with stream := none }
    tracker := trackerRestarted
    turner := turnerRestarted s.turner s.pins cause
    mech := mechRestarted s.pins (forceLimit s)
    lamps := Lamps.restarted
    dose := DoseUnit.restarted
    capture := Capture.restarted (restartMode s)
    pause := pauseRestarted s.pins
    summary := Summary.restarted
    link := Link.restarted rate }

/-- The pause that the lines hold at a restart is latched (R150). -/
def restartHalt (s : State) : State :=
  match s.pause.cause with
  | some cause => latch s cause.condition
  | none => s

/-- A restart, whole (R43, R150, R151, R169). -/
def restart (s : State) (cause : RestartCause) (rate : Nat) : State :=
  let up := blocksRestarted s cause rate
  let reported :=
    match openSlot? up.store.slots with
    | some (slot, _) => restartVolume up slot cause
    | none => up
  transmit (restartHalt reported)

/-- Power comes on (R43, R159): the straps and the lines are sampled. -/
def powerOn (s : State) (pins : Pins) : State := restart { s with pins := pins } .powerOn (strapRate pins.straps)

/-- The reset line is asserted (R43, R159): as at power-on, but the cup's vacuum stays (R45). -/
def resetLine (s : State) (pins : Pins) : State := restart { s with pins := pins } .resetLine (strapRate pins.straps)

/-- POWER_ON (R43, R159). -/
def execPowerOn (pins : Pins) (s : State) : Host.Outcome State Fault Refusal := .next (powerOn s pins)

/-- RESET_LINE (R43, R159). -/
def execResetLine (pins : Pins) (s : State) : Host.Outcome State Fault Refusal := .next (resetLine s pins)

/-- CLEAR_STORE (R35): run whole, or cut off by a restart that comes between two of its writes, with which its reply is
lost. DESIGN CHOICE (notes/assumptions/17.md), safe. -/
def execClearStore (run : ClearRun) (s : State) : Host.Outcome State Fault Refusal :=
  .next (
    match run.cut with
    | none => arrive s 0x06 run.tag takeClearStore
    | some c => if c.power then powerOn (clearCut s c.writes) c.pins else resetLine (clearCut s c.writes) c.pins)

end Sys2Proof.Machine
end

