-- ==== Sys2Proof/Machine/LinkPort.lean ====
section
/-! DEFINITION. The Link Port (chapter 10): IDENTIFY and RESET, the receive framer (R161, R162), the checks of R164 and
the hand-over of a good frame to the block that owns its kind, and the end of a frame on the line (R165, R166). -/

namespace Sys2Proof.Machine

open Sys2Proof.Config

/-! ## IDENTIFY and RESET (R167, R168) -/

/-- The vendor string MONTRICK in ASCII (R167). -/
def vendorText : List Byte := [0x4D, 0x4F, 0x4E, 0x54, 0x52, 0x49, 0x43, 0x4B]
/-- The part string TRG218 in ASCII (R167). -/
def partText : List Byte := [0x54, 0x52, 0x47, 0x32, 0x31, 0x38]

/-- The items of IDENTIFY: vendor, part, revision, serial number, latched rate (R167). -/
def identityItems (rate : Nat) : List Item :=
  [.bytes (padTo 8 vendorText), .bytes (padTo 8 partText), u 1 1, .bytes (le 8 serialNumber.toNat), u 4 rate]

def takeIdentify (s : State) : State × Answer := (s, taken (identityItems s.link.rate))

/-- IDENTIFY (R167). -/
def execIdentify (tag : Nat) (s : State) : Host.Outcome State Fault Refusal :=
  .next (arrive s 0x48 tag takeIdentify)

/-- RESET taken (R168): the Link Port stops taking requests until the restart. Every request before it has been
taken already, so none is queued behind it. -/
def takeReset (s : State) : State × Answer := ({ s with link := { s.link with resetting := true } }, taken [])

/-- RESET (R168). -/
def execResetRequest (tag : Nat) (s : State) : Host.Outcome State Fault Refusal :=
  .next (arrive s 0x49 tag takeReset)

/-! ## From a good frame to its block (R164, R172) -/

/-- What the block that owns a request kind does with a payload of the right length (R172). -/
def takeKind (kind : Nat) (p : List Byte) (s : State) : State × Answer :=
  match kind with
  | 0x01 => takeOpenVolume (profileOfBytes p) s
  | 0x02 => takeExtendVolume (fieldAt p 0 2) s
  | 0x03 => takeCloseVolume s
  | 0x04 => takeExportVolume (fieldAt p 0 1) s
  | 0x05 => takeDiscardVolume (fieldAt p 0 1) s
  | 0x06 => takeClearStore s
  | 0x07 => takeListVolumes s
  | 0x08 => takeReadFaces (fieldAt p 0 1) (fieldAt p 1 2) (fieldAt p 3 1) s
  | 0x09 => takeSetMark (fieldAt p 0 2) (fieldAt p 2 1) s
  | 0x0A => takeClearMark (fieldAt p 0 2) s
  | 0x0B => takePlace (fieldAt p 0 2) s
  | 0x0C => takeReadOpening s
  | 0x10 => takeTurn (fieldAt p 0 1) (fieldAt p 1 1) s
  | 0x11 => takePark s
  | 0x12 => takeManualDone (fieldAt p 0 1) s
  | 0x13 => takeCancelTurn s
  | 0x14 =>
    takeSetTurner (fieldAt p 0 2) (fieldAt p 2 2) (fieldAt p 4 2) (fieldAt p 6 2) (fieldAt p 8 2)
      (fieldAt p 10 1) s
  | 0x15 => takeReadTurner s
  | 0x18 => takeSetGlass (fieldAt p 0 2) s
  | 0x19 => takeRaiseGlass s
  | 0x1A => takeSetAngle (fieldAt p 0 1) s
  | 0x1B => takeReadMechanics s
  | 0x20 => takeLampsOn s
  | 0x21 => takeLampsOff s
  | 0x22 =>
    takeSetLighting
      { la := fieldAt p 0 2, lb := fieldAt p 2 2, ra := fieldAt p 4 2, rb := fieldAt p 6 2 }
      { left := fieldAt p 8 2, right := fieldAt p 10 2 } (fieldAt p 12 2) s
  | 0x23 => takeSetAiming (fieldAt p 0 1) (fieldAt p 1 1) s
  | 0x24 => takeSetIdle (fieldAt p 0 2) (fieldAt p 2 2) (fieldAt p 4 2) (fieldAt p 6 2) s
  | 0x25 => takeReferenceCheck (fieldAt p 0 1) s
  | 0x26 => takeSetChecks (fieldAt p 0 1) (fieldAt p 1 1) (fieldAt p 2 2) (fieldAt p 4 2) s
  | 0x27 => takeReadLamps s
  | 0x30 => takeCapture (fieldAt p 0 1) s
  | 0x31 => takeFrameReceived (fieldAt p 0 1) (fieldAt p 1 4) s
  | 0x32 => takeAccept s
  | 0x33 => takeReject s
  | 0x34 =>
    takeSetCapture (fieldAt p 0 1) (fieldAt p 1 2) (fieldAt p 3 2) (fieldAt p 5 2) (fieldAt p 7 1) s
  | 0x35 => takeReadCapture s
  | 0x38 => takeResume s
  | 0x39 =>
    takeSetAux
      { aux0 := fieldAt p 0 1, aux1 := fieldAt p 2 1, aux2 := fieldAt p 4 1, aux3 := fieldAt p 6 1 }
      { aux0 := fieldAt p 1 1, aux1 := fieldAt p 3 1, aux2 := fieldAt p 5 1, aux3 := fieldAt p 7 1 } s
  | 0x3A => takeReadAux s
  | 0x40 => takeStatus s
  | 0x41 => takeSetAttention (fieldAt p 0 2) (fieldAt p 2 1) s
  | 0x48 => takeIdentify s
  | 0x49 => takeReset s
  | _ => refuse s .unknownKind 0

/-- The Link Port's two checks before a request is taken by its block (R164). -/
def takeFrame (kind : Nat) (p : List Byte) (s : State) : State × Answer :=
  match requestLength? kind with
  | none => refuse s .unknownKind 0
  | some n => if p.length = n then takeKind kind p s else refuse s .badLength 0

/-! ## The receive framer (R161, R162) -/

def setFramer (s : State) (f : Framer) : State := { s with link := { s.link with framer := f } }

/-- A receive error: the frame is discarded, the framer in HUNT, and LINK latched (R162). -/
def receiveError (s : State) (why : Condition) : State := transmit (latch (setFramer s .hunt) why)

/-- The framer in a frame whose length and header stand, before its next payload or check byte. -/
def afterHeader (length : Nat) (kind tag : Byte) : Framer :=
  if length = 0 then .check length kind tag [] none else .payload length kind tag []

/-- The bytes of a frame that its CRC covers, as they were received (R160). -/
def receivedBody (length : Nat) (kind tag : Byte) (p : List Byte) : List Byte :=
  le 2 length ++ (kind :: tag :: p)

/-- A whole frame has been received (R161): good, it is handed to the request queue; otherwise a CRC error. -/
def frameReceived (s : State) (length : Nat) (kind tag : Byte) (p : List Byte) (low high : Byte) : State :=
  if ofLe [low, high] = (crc16 (receivedBody length kind tag p)).toNat then
    arrive (setFramer s .hunt) kind.toNat tag.toNat (takeFrame kind.toNat p)
  else receiveError s (.linkBadCrc length)

/-- The framer takes one byte (R161). -/
def receive (s : State) (b : Byte) : State :=
  match s.link.framer with
  | .hunt => if b = 0xC3 then setFramer s (.length none) else s
  | .length none => setFramer s (.length (some b))
  | .length (some low) =>
    if maxPayload < ofLe [low, b] then receiveError s (.linkOverlength (ofLe [low, b]))
    else setFramer s (.header (ofLe [low, b]) none)
  | .header n none => setFramer s (.header n (some b))
  | .header n (some kind) => setFramer s (afterHeader n kind b)
  | .payload n kind tag got =>
    if (got ++ [b]).length = n then setFramer s (.check n kind tag (got ++ [b]) none)
    else setFramer s (.payload n kind tag (got ++ [b]))
  | .check n kind tag got none => setFramer s (.check n kind tag got (some b))
  | .check n kind tag got (some low) => frameReceived s n kind tag got low b

/-- BYTE_RECEIVED (R161). -/
def execByteReceived (byte : Byte) (s : State) : Host.Outcome State Fault Refusal := .next (receive s byte)

/-- The payload length that a frame in hand has shown, 0 before its second length byte (R162). -/
def Framer.shown : Framer → Nat
  | .hunt => 0
  | .length _ => 0
  | .header n _ => n
  | .payload n _ _ _ => n
  | .check n _ _ _ _ => n

/-- GAP (R162). The timer does not run in HUNT (R161). -/
def execGap (s : State) : Host.Outcome State Fault Refusal :=
  .next (if s.link.framer = .hunt then s else receiveError s (.linkGap s.link.framer.shown))

/-! ## The end of a frame on the line (R163, R165, R166, R168) -/

/-- The transmitter freed, and the waiting chunk's aging count one up: another frame has been sent whole (R165). -/
def otherSent (l : Link) : Link :=
  { l with sending := none, chunkAge := l.chunkAge.map fun a => min 4 (a + 1) }

/-- A reply leaves the reply list, and its request, unless it was refused QUEUE_FULL, the request queue (R163). -/
def replyLeaves (s : State) (r : Reply) (rest : List Reply) : State :=
  let l := otherSent s.link
  { s with link := { l with replies := rest, queue := if r.queueFull then l.queue else l.queue.tail } }

/-- An answer of the request's own kind. -/
def Answer.isOwn : Answer → Bool
  | .own _ _ _ => true
  | .refused _ _ => false

/-- The first chunk begins waiting when the EXPORT_VOLUME reply has been sent whole (R166). -/
def chunkWaits (s : State) : State := { s with link := { s.link with chunkAge := some 0 } }

/-- A reply has been sent whole: the restart that RESET awaits (R168), the stream that EXPORT_VOLUME began
(R166), or nothing more. -/
def replySent (s : State) (r : Reply) (rest : List Reply) : State :=
  let left := replyLeaves s r rest
  if s.link.resetting && r.kind = 0x49 && r.answer.isOwn then restart left .request left.link.rate
  else if r.kind = 0x04 && r.answer.isOwn && s.store.stream.isSome then transmit (chunkWaits left)
  else transmit left

/-- The end of a stream (R33): a slot that was CLOSED at the start becomes EXPORTED. -/
def endStream (s : State) (t : Stream) : State :=
  let ended : State := { s with store := { s.store with stream := none } }
  match t.start, s.store.slots.get t.slot with
  | .closed, .closed v => setSlot ended t.slot (.exported v)
  | _, _ => ended

/-- A chunk has been sent whole (R166): the next one begins waiting, or the stream ends. -/
def chunkSent (s : State) : State :=
  let free : State := { s with link := { s.link with sending := none } }
  match s.store.stream with
  | none => transmit free
  | some t =>
    if t.atFinal then transmit (endStream free t)
    else
      transmit (chunkWaits { free with store := { free.store with stream := some { t with next := t.next + 1 } } })

/-- FRAME_SENT (R163, R165, R166, R168). With no frame on the line there is none to end. -/
def execFrameSent (s : State) : Host.Outcome State Fault Refusal :=
  .next (
    match s.link.sending with
    | none => s
    | some f =>
      match f.what with
      | .reply =>
        match s.link.replies with
        | r :: rest => replySent s r rest
        | [] => transmit { s with link := otherSent s.link }
      | .attention => transmit { s with link := otherSent s.link }
      | .chunk => chunkSent s)

end Sys2Proof.Machine
end

