-- ==== Sys2Proof/Machine/Clock.lean ====
section
/-! DEFINITION. Time: the second of the volume clock (R23), and the microsecond that passes when no command waits
(notes/assumptions/1.md), which moves the counters that the spec counts in time. Every expiry is a command of its
own, so a counter that a command's expiry would act on holds just below it. -/

namespace Sys2Proof.Machine

open Sys2Proof.Config

/-- The volume clock one second on, holding at 4,294,967,295 (R23). -/
def clockTick (v : Volume) : Volume := { v with clock := min (v.clock + 1) hold32 }

/-- VOLUME_CLOCK_TICK (R23): with no volume OPEN no clock runs. -/
def execVolumeClockTick (s : State) : Host.Outcome State Fault Refusal := .next (onOpen s clockTick)

/-- A microsecond of a settle in progress (R83, R103). -/
def settleTick (l : Lamps) : Lamps :=
  if l.supply = .settling then { l with settleUs := min (l.settleUs + 1) (l.settleRun * 1000) } else l

/-- A microsecond of the reservoir's charge: 100 units for each millisecond while the supply is SETTLING or READY,
holding at 80000 (R92). -/
def reservoirTick (l : Lamps) : Lamps :=
  if l.supply = .off then l
  else if l.reservoirUs + 1 < 1000 then { l with reservoirUs := l.reservoirUs + 1 }
  else { l with reservoirUs := 0, reservoir := min (l.reservoir + 100) reservoirFull }

/-- A microsecond of the idle timer, which waits just below its next interval for IDLE_STAGE_EXPIRY (R90). -/
def idleTick (l : Lamps) : Lamps :=
  if l.idleStage = .expired then l
  else if l.idleUs + 1 < 1000000 then { l with idleUs := l.idleUs + 1 }
  else if l.idleElapsed + 1 < idleNext l then { l with idleUs := 0, idleElapsed := l.idleElapsed + 1 }
  else l

/-- A microsecond of a lit strobe (R127). -/
def litTick (s : State) (side : Side) : Nat :=
  if s.capture.progress.get side = .lit then min (s.capture.litUs.get side + 1) (s.lamps.duration.get side)
  else s.capture.litUs.get side

/-- A microsecond of the aiming interval that runs, which holds below 100 ms (R104). -/
def aimTick (iv : AimInterval) : AimInterval := { iv with elapsedUs := min (iv.elapsedUs + 1) 99999 }

/-- One microsecond passes. DESIGN CHOICE (notes/assumptions/1.md), safe for all but the counters it moves, unsafe for
those. -/
def tick (s : State) : State :=
  let charged := reservoirTick (settleTick s.lamps)
  { s with
    lamps := if idleHeld s then charged else idleTick charged
    dose := { s.dose with aiming := s.dose.aiming.map aimTick }
    capture := { s.capture with litUs := { left := litTick s .left, right := litTick s .right } } }

end Sys2Proof.Machine
end

