-- ==== Sys2Proof/Machine/Dispatch.lean ====
section
/-! DEFINITION. The dispatch of commands: one arm for each row of the opcode table. -/

namespace Sys2Proof.Machine

/-- The effect of a command on everything but the queue. -/
def exec (i : Instr) (s : State) : Host.Outcome State Fault Refusal :=
  match i with
  | .openVolume tag profile => Sys2Proof.Machine.execOpenVolume tag profile s
  | .extendVolume tag count => Sys2Proof.Machine.execExtendVolume tag count s
  | .closeVolume tag => Sys2Proof.Machine.execCloseVolume tag s
  | .exportVolume tag slot => Sys2Proof.Machine.execExportVolume tag slot s
  | .discardVolume tag slot => Sys2Proof.Machine.execDiscardVolume tag slot s
  | .clearStore run => Sys2Proof.Machine.execClearStore run s
  | .listVolumes tag => Sys2Proof.Machine.execListVolumes tag s
  | .readFaces tag slot first count => Sys2Proof.Machine.execReadFaces tag slot first count s
  | .setMark tag leaf kinds => Sys2Proof.Machine.execSetMark tag leaf kinds s
  | .clearMark tag leaf => Sys2Proof.Machine.execClearMark tag leaf s
  | .place tag opening => Sys2Proof.Machine.execPlace tag opening s
  | .readOpening tag => Sys2Proof.Machine.execReadOpening tag s
  | .turn tag direction flags => Sys2Proof.Machine.execTurn tag direction flags s
  | .park tag => Sys2Proof.Machine.execPark tag s
  | .manualDone tag direction => Sys2Proof.Machine.execManualDone tag direction s
  | .cancelTurn tag => Sys2Proof.Machine.execCancelTurn tag s
  | .setTurner tag reach lift carry lay ret limit => Sys2Proof.Machine.execSetTurner tag reach lift carry lay ret limit s
  | .readTurner tag => Sys2Proof.Machine.execReadTurner tag s
  | .setGlass tag force => Sys2Proof.Machine.execSetGlass tag force s
  | .raiseGlass tag => Sys2Proof.Machine.execRaiseGlass tag s
  | .setAngle tag angle => Sys2Proof.Machine.execSetAngle tag angle s
  | .readMechanics tag => Sys2Proof.Machine.execReadMechanics tag s
  | .lampsOn tag => Sys2Proof.Machine.execLampsOn tag s
  | .lampsOff tag => Sys2Proof.Machine.execLampsOff tag s
  | .setLighting tag driveLA driveLB driveRA driveRB timeL timeR spill => Sys2Proof.Machine.execSetLighting tag driveLA driveLB driveRA driveRB timeL timeR spill s
  | .setAiming tag level rest => Sys2Proof.Machine.execSetAiming tag level rest s
  | .setIdle tag rest dark supply settle => Sys2Proof.Machine.execSetIdle tag rest dark supply settle s
  | .referenceCheck tag banks => Sys2Proof.Machine.execReferenceCheck tag banks s
  | .setChecks tag interval rotation tolerance failLimit => Sys2Proof.Machine.execSetChecks tag interval rotation tolerance failLimit s
  | .readLamps tag => Sys2Proof.Machine.execReadLamps tag s
  | .capture tag sides => Sys2Proof.Machine.execCapture tag sides s
  | .frameReceived tag camera number => Sys2Proof.Machine.execFrameReceived tag camera number s
  | .accept tag => Sys2Proof.Machine.execAccept tag s
  | .reject tag => Sys2Proof.Machine.execReject tag s
  | .setCapture tag mode timeout delayL delayR pedal => Sys2Proof.Machine.execSetCapture tag mode timeout delayL delayR pedal s
  | .readCapture tag => Sys2Proof.Machine.execReadCapture tag s
  | .resume tag => Sys2Proof.Machine.execResume tag s
  | .setAux tag func0 edge0 func1 edge1 func2 edge2 func3 edge3 => Sys2Proof.Machine.execSetAux tag func0 edge0 func1 edge1 func2 edge2 func3 edge3 s
  | .readAux tag => Sys2Proof.Machine.execReadAux tag s
  | .status tag => Sys2Proof.Machine.execStatus tag s
  | .setAttention tag mask elevated => Sys2Proof.Machine.execSetAttention tag mask elevated s
  | .identify tag => Sys2Proof.Machine.execIdentify tag s
  | .resetRequest tag => Sys2Proof.Machine.execResetRequest tag s
  | .byteReceived byte => Sys2Proof.Machine.execByteReceived byte s
  | .gap => Sys2Proof.Machine.execGap s
  | .frameSent => Sys2Proof.Machine.execFrameSent s
  | .powerOn pins => Sys2Proof.Machine.execPowerOn pins s
  | .resetLine pins => Sys2Proof.Machine.execResetLine pins s
  | .auxLevelChange line high => Sys2Proof.Machine.execAuxLevelChange line high s
  | .auxEdge line => Sys2Proof.Machine.execAuxEdge line s
  | .homeSensor on => Sys2Proof.Machine.execHomeSensor on s
  | .farEndSensor on => Sys2Proof.Machine.execFarEndSensor on s
  | .holdSensor on => Sys2Proof.Machine.execHoldSensor on s
  | .cupEmptySensor on => Sys2Proof.Machine.execCupEmptySensor on s
  | .separationTime count => Sys2Proof.Machine.execSeparationTime count s
  | .restoreDescentEnd => Sys2Proof.Machine.execRestoreDescentEnd s
  | .restoreReleaseWait => Sys2Proof.Machine.execRestoreReleaseWait s
  | .liftTimeout => Sys2Proof.Machine.execLiftTimeout s
  | .turnTimeout => Sys2Proof.Machine.execTurnTimeout s
  | .platenSettled side position => Sys2Proof.Machine.execPlatenSettled side position s
  | .angleSettled angle => Sys2Proof.Machine.execAngleSettled angle s
  | .glassForceReading force => Sys2Proof.Machine.execGlassForceReading force s
  | .raisedStopSensor on => Sys2Proof.Machine.execRaisedStopSensor on s
  | .glassMoveTimeout => Sys2Proof.Machine.execGlassMoveTimeout s
  | .supplySettled => Sys2Proof.Machine.execSupplySettled s
  | .idleStageExpiry => Sys2Proof.Machine.execIdleStageExpiry s
  | .lightingGrant => Sys2Proof.Machine.execLightingGrant s
  | .lightingReady => Sys2Proof.Machine.execLightingReady s
  | .referencePulseStart => Sys2Proof.Machine.execReferencePulseStart s
  | .referencePulseEnd reading => Sys2Proof.Machine.execReferencePulseEnd reading s
  | .aimingInterval => Sys2Proof.Machine.execAimingInterval s
  | .exposureActiveRise side => Sys2Proof.Machine.execExposureActiveRise side s
  | .strobeDelayExpiry side => Sys2Proof.Machine.execStrobeDelayExpiry side s
  | .strobeEnd side => Sys2Proof.Machine.execStrobeEnd side s
  | .exposureActiveFall side => Sys2Proof.Machine.execExposureActiveFall side s
  | .cameraTimeout side => Sys2Proof.Machine.execCameraTimeout side s
  | .volumeClockTick => Sys2Proof.Machine.execVolumeClockTick s

end Sys2Proof.Machine
end

