-- ==== Sys2Proof/WellFormed.lean ====
section
/-! DEFINITION. Which commands can reach the part at all: every field of a request fits the width its layout gives
(R172, section 11.4), and every reading an event carries fits the width at which the part reports it (R170, R171).
A value that fits its field and is out of range is no matter of form: the owning rule refuses it. -/

namespace Sys2Proof

/-- A value fits in a field of `n` bytes. -/
def fits (n v : Nat) : Bool := v < 256 ^ n

/-- OPEN_VOLUME's fields at their widths, and the shelf mark at its full 40 bytes (section 11.4). -/
def RawProfile.wf (p : RawProfile) : Bool :=
  fits 2 p.presence && p.shelfMark.length == 40 && fits 1 p.partNumber && fits 2 p.leaves && fits 2 p.firstFolio
    && fits 2 p.thickness && fits 1 p.angleLimit && fits 1 p.initialAngle && fits 1 p.glassMode
    && fits 2 p.forceLimit && fits 1 p.airLevel && fits 4 p.pageAllowance && fits 4 p.volumeAllowance
    && fits 1 p.warning && fits 1 p.releaseMode

/-- Readings at the widths at which READ_MECHANICS carries them, and two strap bits (R159, R171). A platen's
position lies on its travel (R65, R66). -/
def Pins.wf (p : Pins) : Bool :=
  decide (p.straps < 4) && fits 2 p.force && decide (p.position.left ≤ 80000) && decide (p.position.right ≤ 80000)
    && fits 1 p.angle

/-- Well-formed commands. -/
def Instr.wf : Instr → Bool
  | .openVolume tag profile => fits 1 tag && profile.wf
  | .extendVolume tag count => fits 1 tag && fits 2 count
  | .closeVolume tag => fits 1 tag
  | .exportVolume tag slot => fits 1 tag && fits 1 slot
  | .discardVolume tag slot => fits 1 tag && fits 1 slot
  | .clearStore run => fits 1 run.tag && run.cut.all fun c => decide (c.writes ≤ 4) && c.pins.wf
  | .listVolumes tag => fits 1 tag
  | .readFaces tag slot first count => fits 1 tag && fits 1 slot && fits 2 first && fits 1 count
  | .setMark tag leaf kinds => fits 1 tag && fits 2 leaf && fits 1 kinds
  | .clearMark tag leaf => fits 1 tag && fits 2 leaf
  | .place tag opening => fits 1 tag && fits 2 opening
  | .readOpening tag => fits 1 tag
  | .turn tag direction flags => fits 1 tag && fits 1 direction && fits 1 flags
  | .park tag => fits 1 tag
  | .manualDone tag direction => fits 1 tag && fits 1 direction
  | .cancelTurn tag => fits 1 tag
  | .setTurner tag reach lift carry lay ret limit =>
    fits 1 tag && fits 2 reach && fits 2 lift && fits 2 carry && fits 2 lay && fits 2 ret && fits 1 limit
  | .readTurner tag => fits 1 tag
  | .setGlass tag force => fits 1 tag && fits 2 force
  | .raiseGlass tag => fits 1 tag
  | .setAngle tag angle => fits 1 tag && fits 1 angle
  | .readMechanics tag => fits 1 tag
  | .lampsOn tag => fits 1 tag
  | .lampsOff tag => fits 1 tag
  | .setLighting tag driveLA driveLB driveRA driveRB timeL timeR spill =>
    fits 1 tag && fits 2 driveLA && fits 2 driveLB && fits 2 driveRA && fits 2 driveRB && fits 2 timeL
      && fits 2 timeR && fits 2 spill
  | .setAiming tag level rest => fits 1 tag && fits 1 level && fits 1 rest
  | .setIdle tag rest dark supply settle => fits 1 tag && fits 2 rest && fits 2 dark && fits 2 supply && fits 2 settle
  | .referenceCheck tag banks => fits 1 tag && fits 1 banks
  | .setChecks tag interval rotation tolerance failLimit =>
    fits 1 tag && fits 1 interval && fits 1 rotation && fits 2 tolerance && fits 2 failLimit
  | .readLamps tag => fits 1 tag
  | .capture tag sides => fits 1 tag && fits 1 sides
  | .frameReceived tag camera number => fits 1 tag && fits 1 camera && fits 4 number
  | .accept tag => fits 1 tag
  | .reject tag => fits 1 tag
  | .setCapture tag mode timeout delayL delayR pedal =>
    fits 1 tag && fits 1 mode && fits 2 timeout && fits 2 delayL && fits 2 delayR && fits 1 pedal
  | .readCapture tag => fits 1 tag
  | .resume tag => fits 1 tag
  | .setAux tag func0 edge0 func1 edge1 func2 edge2 func3 edge3 =>
    fits 1 tag && fits 1 func0 && fits 1 edge0 && fits 1 func1 && fits 1 edge1 && fits 1 func2 && fits 1 edge2
      && fits 1 func3 && fits 1 edge3
  | .readAux tag => fits 1 tag
  | .status tag => fits 1 tag
  | .setAttention tag mask elevated => fits 1 tag && fits 2 mask && fits 1 elevated
  | .identify tag => fits 1 tag
  | .resetRequest tag => fits 1 tag
  | .byteReceived _ => true
  | .gap => true
  | .frameSent => true
  | .powerOn pins => pins.wf
  | .resetLine pins => pins.wf
  | .auxLevelChange _ _ => true
  | .auxEdge _ => true
  | .homeSensor _ => true
  | .farEndSensor _ => true
  | .holdSensor _ => true
  | .cupEmptySensor _ => true
  | .separationTime count => decide (count ≤ 3)
  | .restoreDescentEnd => true
  | .restoreReleaseWait => true
  | .liftTimeout => true
  | .turnTimeout => true
  | .platenSettled _ position => decide (position ≤ 80000)
  | .angleSettled angle => fits 1 angle
  | .glassForceReading force => fits 2 force
  | .raisedStopSensor _ => true
  | .glassMoveTimeout => true
  | .supplySettled => true
  | .idleStageExpiry => true
  | .lightingGrant => true
  | .lightingReady => true
  | .referencePulseStart => true
  | .referencePulseEnd _ => true
  | .aimingInterval => true
  | .exposureActiveRise _ => true
  | .strobeDelayExpiry _ => true
  | .strobeEnd _ => true
  | .exposureActiveFall _ => true
  | .cameraTimeout _ => true
  | .volumeClockTick => true

end Sys2Proof
end

