-- ==== Sys2Proof/Machine/Wire.lean ====
section
/-! DEFINITION. A request as the bytes of its frame (R160, R170, R172, chapter 11): the encoder that answers to the
framer and the field reader of the Link Port. -/

namespace Sys2Proof.Machine

/-- Kind, tag and payload of a request; none for a command that is no request. -/
def requestParts : Instr → Option (Nat × Nat × List Byte)
  | .openVolume tag profile => some (0x01, tag, profileToBytes profile)
  | .extendVolume tag count => some (0x02, tag, le 2 count)
  | .closeVolume tag => some (0x03, tag, [])
  | .exportVolume tag slot => some (0x04, tag, le 1 slot)
  | .discardVolume tag slot => some (0x05, tag, le 1 slot)
  | .clearStore run => if run.cut.isNone then some (0x06, run.tag, []) else none
  | .listVolumes tag => some (0x07, tag, [])
  | .readFaces tag slot first count => some (0x08, tag, le 1 slot ++ le 2 first ++ le 1 count)
  | .setMark tag leaf kinds => some (0x09, tag, le 2 leaf ++ le 1 kinds)
  | .clearMark tag leaf => some (0x0A, tag, le 2 leaf)
  | .place tag opening => some (0x0B, tag, le 2 opening)
  | .readOpening tag => some (0x0C, tag, [])
  | .turn tag direction flags => some (0x10, tag, le 1 direction ++ le 1 flags)
  | .park tag => some (0x11, tag, [])
  | .manualDone tag direction => some (0x12, tag, le 1 direction)
  | .cancelTurn tag => some (0x13, tag, [])
  | .setTurner tag reach lift carry lay ret limit =>
    some (0x14, tag, le 2 reach ++ le 2 lift ++ le 2 carry ++ le 2 lay ++ le 2 ret ++ le 1 limit)
  | .readTurner tag => some (0x15, tag, [])
  | .setGlass tag force => some (0x18, tag, le 2 force)
  | .raiseGlass tag => some (0x19, tag, [])
  | .setAngle tag angle => some (0x1A, tag, le 1 angle)
  | .readMechanics tag => some (0x1B, tag, [])
  | .lampsOn tag => some (0x20, tag, [])
  | .lampsOff tag => some (0x21, tag, [])
  | .setLighting tag driveLA driveLB driveRA driveRB timeL timeR spill =>
    some (0x22, tag, le 2 driveLA ++ le 2 driveLB ++ le 2 driveRA ++ le 2 driveRB ++ le 2 timeL ++ le 2 timeR
      ++ le 2 spill)
  | .setAiming tag level rest => some (0x23, tag, le 1 level ++ le 1 rest)
  | .setIdle tag rest dark supply settle => some (0x24, tag, le 2 rest ++ le 2 dark ++ le 2 supply ++ le 2 settle)
  | .referenceCheck tag banks => some (0x25, tag, le 1 banks)
  | .setChecks tag interval rotation tolerance failLimit =>
    some (0x26, tag, le 1 interval ++ le 1 rotation ++ le 2 tolerance ++ le 2 failLimit)
  | .readLamps tag => some (0x27, tag, [])
  | .capture tag sides => some (0x30, tag, le 1 sides)
  | .frameReceived tag camera number => some (0x31, tag, le 1 camera ++ le 4 number)
  | .accept tag => some (0x32, tag, [])
  | .reject tag => some (0x33, tag, [])
  | .setCapture tag mode timeout delayL delayR pedal =>
    some (0x34, tag, le 1 mode ++ le 2 timeout ++ le 2 delayL ++ le 2 delayR ++ le 1 pedal)
  | .readCapture tag => some (0x35, tag, [])
  | .resume tag => some (0x38, tag, [])
  | .setAux tag func0 edge0 func1 edge1 func2 edge2 func3 edge3 =>
    some (0x39, tag, le 1 func0 ++ le 1 edge0 ++ le 1 func1 ++ le 1 edge1 ++ le 1 func2 ++ le 1 edge2
      ++ le 1 func3 ++ le 1 edge3)
  | .readAux tag => some (0x3A, tag, [])
  | .status tag => some (0x40, tag, [])
  | .setAttention tag mask elevated => some (0x41, tag, le 2 mask ++ le 1 elevated)
  | .identify tag => some (0x48, tag, [])
  | .resetRequest tag => some (0x49, tag, [])
  | .byteReceived _ => none
  | .gap => none
  | .frameSent => none
  | .powerOn _ => none
  | .resetLine _ => none
  | .auxLevelChange _ _ => none
  | .auxEdge _ => none
  | .homeSensor _ => none
  | .farEndSensor _ => none
  | .holdSensor _ => none
  | .cupEmptySensor _ => none
  | .separationTime _ => none
  | .restoreDescentEnd => none
  | .restoreReleaseWait => none
  | .liftTimeout => none
  | .turnTimeout => none
  | .platenSettled _ _ => none
  | .angleSettled _ => none
  | .glassForceReading _ => none
  | .raisedStopSensor _ => none
  | .glassMoveTimeout => none
  | .supplySettled => none
  | .idleStageExpiry => none
  | .lightingGrant => none
  | .lightingReady => none
  | .referencePulseStart => none
  | .referencePulseEnd _ => none
  | .aimingInterval => none
  | .exposureActiveRise _ => none
  | .strobeDelayExpiry _ => none
  | .strobeEnd _ => none
  | .exposureActiveFall _ => none
  | .cameraTimeout _ => none
  | .volumeClockTick => none

/-- The bytes of a request's frame (R160). -/
def requestBytes (i : Instr) : Option (List Byte) :=
  (requestParts i).map fun (kind, tag, payload) => frameBytes kind tag payload

/-- The framer takes bytes one after another (R161). -/
def receiveAll (s : State) (bs : List Byte) : State := bs.foldl receive s

end Sys2Proof.Machine
end

