-- ==== Sys2Proof/Safety.lean ====
section
/-! DEFINITION. What counts as a safe run, in the terms the statements use: the parts of the state that stay within
what the spec gives them, whatever commands arrive. -/

namespace Sys2Proof.Machine

open Sys2Proof.Config

/-! ## How a statement says what a command does -/

/-- The part without the Link Port and the attention-outstanding flag, which every command may move by letting the
transmitter take its next frame: what a statement compares to say that nothing else has changed. -/
def apart (s : State) : State :=
  { s with link := Link.restarted 0, summary := { s.summary with outstanding := false } }

/-- The Link Port's receive side, its queue and its reply list as they were. -/
def LinkKept (s t : State) : Prop :=
  t.link.framer = s.link.framer ∧ t.link.queue = s.link.queue ∧ t.link.replies = s.link.replies
    ∧ t.link.resetting = s.link.resetting ∧ t.link.rate = s.link.rate

/-- An event command goes on, and leaves the part as `u` is, with the Link Port's queues as they were. -/
def Does (i : Instr) (s u : State) : Prop := ∃ t, exec i s = .next t ∧ apart t = apart u ∧ LinkKept s t

/-- The Link Port takes a request: the request queue has room and no RESET is under way (R163, R168). -/
def Ready (s : State) : Prop := s.link.resetting = false ∧ s.link.queue.length < queueDepth

/-- The reply of a taken RESET is on the line, the restart that it asked for awaiting its end (R168). -/
def resetReplyOnLine (s : State) : Prop :=
  s.link.resetting = true ∧ ∃ f r rest, s.link.sending = some f ∧ f.what = .reply ∧ s.link.replies = r :: rest
    ∧ r.kind = 0x49 ∧ r.answer.isOwn = true

/-- One request has entered the queue and one reply the reply list (R163). -/
def Replied (s t : State) (kind tag : Nat) (a : Answer) : Prop :=
  t.link.framer = s.link.framer ∧ t.link.queue = s.link.queue ++ [{ kind := kind, tag := tag }]
    ∧ t.link.replies = s.link.replies ++ [{ kind := kind, tag := tag, answer := a, queueFull := false }]
    ∧ t.link.rate = s.link.rate

/-- A request command goes on: it has its place in the queue, does `f`, and is answered `a`. -/
def Takes (i : Instr) (s : State) (kind tag : Nat) (f : State → State) (a : Answer) : Prop :=
  ∃ t, exec i s = .next t ∧ apart t = apart (f (enqueue s kind tag)) ∧ Replied s t kind tag a

/-- A request command is refused and changes nothing but the queue and the reply list (R164). -/
def Refuses (i : Instr) (s : State) (kind tag : Nat) (reason : Reason) (field : Nat) : Prop :=
  Takes i s kind tag id (.refused reason field)

/-- A receive error: the command goes on, the frame in hand is discarded and the framer back in HUNT, the condition `k`
is latched, and nothing else but the transmitter moves (R162). -/
def Discards (i : Instr) (s : State) (k : Condition) : Prop :=
  ∃ t, exec i s = .next t ∧ apart t = apart (latch s k) ∧ t.link.framer = .hunt ∧ t.link.queue = s.link.queue
    ∧ t.link.replies = s.link.replies ∧ t.link.resetting = s.link.resetting ∧ t.link.rate = s.link.rate

/-- A byte moves the framer and nothing else (R161). -/
def Frames (b : Byte) (s : State) (f : Framer) : Prop :=
  exec (.byteReceived b) s = .next { s with link := { s.link with framer := f } }

/-! ## What the statements about settles say of an account (R107, R112) -/

/-- An account rewritten by a settle: the two faces stand at the given totals, the volume at its own, each split into
whole lx·s and a remainder below 1000; no exposure count, no other face and no other item has changed (R107). -/
def Rewritten (v w : Volume) (faces totals : Sides Nat) (volumeTotal : Nat) : Prop :=
  facesWf w.faces = true
    ∧ (∀ side, (facesGet w.faces (faces.get side)).dose.total = totals.get side
        ∧ (facesGet w.faces (faces.get side)).dose.rem < 1000
        ∧ (facesGet w.faces (faces.get side)).exposures = (facesGet v.faces (faces.get side)).exposures)
    ∧ w.dose.total = volumeTotal ∧ w.dose.rem < 1000
    ∧ (∀ f, f ≠ faces.left → f ≠ faces.right → facesGet w.faces f = facesGet v.faces f)
    ∧ w = { v with faces := w.faces, dose := w.dose }

/-- What a side's strobe counts in a settle: its actual doses once it has ended, its predicted ones while it is lit,
nothing before it has started (R112). -/
def strobeCounts (q : CaptureSettle) (side : Side) : Sides Nat :=
  match q.actual.get side with
  | some dose => dose
  | none => (q.predicted.get side).getD { left := 0, right := 0 }

/-- A strobe of the capture is lit, or may still start (R112, R126, R128). -/
abbrev StrobesOutstanding (c : Capture) : Prop :=
  c.progress.left = .lit ∨ c.progress.right = .lit
    ∨ (c.voiding = false ∧ c.state = .exposing
      ∧ (c.progress.left = .triggered ∨ c.progress.left = .delay ∨ c.progress.right = .triggered
        ∨ c.progress.right = .delay))

/-! ## The Accounting Store and the tracker -/

/-- A volume record within its widths: face records in canonical form (rising face numbers, none all zero), remainders
below 1000, counts and the clock within what they hold (R22, R23), marks in leaf order and at most 64 (R7). -/
def VolumeSound (v : Volume) : Prop :=
  facesWf v.faces = true
    ∧ (∀ p ∈ v.faces, p.2.dose.rem < 1000 ∧ p.2.exposures ≤ hold16)
    ∧ v.dose.rem < 1000 ∧ v.restartCount ≤ hold16
    ∧ v.clock ≤ hold32 ∧ (∀ e ∈ v.log, e.timestamp ≤ hold32)
    ∧ v.marks.length ≤ 64 ∧ v.marks.Pairwise (fun a b => a.leaf < b.leaf)

/-- Every slot's volume is sound, and the slots together hold no more than the two pools (R21). -/
def StoreSound (s : State) : Prop :=
  (∀ i v, (s.store.slots.get i).volume? = some v → VolumeSound v)
    ∧ usedEntries s.store.slots ≤ logPool ∧ usedFaces s.store.slots ≤ facePool

/-- The turner works on a turn: from its taking until IDLE or HALTED (R44, R47). A park's return is no turn. -/
def TurnRuns (t : Turner) : Prop :=
  t.state ≠ .idle ∧ t.state ≠ .halted ∧ ¬ (t.state = .ret ∧ t.purpose = some .park)

/-- At most one slot is OPEN (R20), the tracker stands at it and is NO_VOLUME exactly when none is (R11, R12), n has a
value in PLACED only, between 1 and L+1 (R3, R11), and a turn runs in PLACED only, towards an opening that exists
(R46). -/
def TrackerSound (s : State) : Prop :=
  (∀ i v j w, s.store.slots.get i = .opened v → s.store.slots.get j = .opened w → i = j)
    ∧ s.tracker.slot = (openSlot? s.store.slots).map Prod.fst
    ∧ (s.tracker.state = .noVolume ↔ s.tracker.slot = none)
    ∧ (s.tracker.state = .placed ↔ s.tracker.n.isSome = true)
    ∧ (∀ n, s.tracker.n = some n → 1 ≤ n ∧ n ≤ openLeaves s + 1)
    ∧ (TurnRuns s.turner →
        ∃ n d, s.tracker.n = some n ∧ s.turner.direction = some d ∧ 1 ≤ reached n d ∧ reached n d ≤ openLeaves s + 1)

/-! ## The Lamp Controller (R82) -/

/-- A number lies in an inclusive range. -/
def InRange (low high v : Nat) : Prop := low ≤ v ∧ v ≤ high

/-- An item that may be absent lies in its range when it is present. -/
def OptInRange (low high : Nat) (v : Option Nat) : Prop := ∀ x, v = some x → InRange low high x

/-- Every bank's value obeys `P`. -/
def EachBank {α : Type} (q : Banks α) (P : α → Prop) : Prop := P q.la ∧ P q.lb ∧ P q.ra ∧ P q.rb

/-- The settings and counts of the Lamp Controller lie in the ranges that R82's table gives them, and a capture's
cost and the reservoir within the reservoir's capacity (R92). -/
def LampsInRange (l : Lamps) : Prop :=
  InRange 0 10000 l.settle
    ∧ EachBank l.fullScale (OptInRange 1000 60000)
    ∧ EachBank l.lastReading (OptInRange 0 60000)
    ∧ EachBank l.drive (InRange 0 1000)
    ∧ InRange 100 20000 l.duration.left ∧ InRange 100 20000 l.duration.right
    ∧ InRange 0 250 l.spill
    ∧ InRange 0 100 l.aimingLevel ∧ InRange 0 l.aimingLevel l.restLevel
    ∧ InRange 1 l.tDark l.tRest ∧ InRange 1 l.tSupply l.tDark ∧ InRange 1 3600 l.tSupply
    ∧ InRange 0 reservoirFull l.reservoir ∧ InRange 0 reservoirFull l.captureCost
    ∧ InRange 0 l.interval l.counter ∧ InRange 1 255 l.interval
    ∧ InRange 1 500 l.tolerance ∧ InRange (l.tolerance + 1) 900 l.failLimit
    ∧ InRange 0 hold16 l.deferrals

/-! ## The Pause Logic (R139 to R147) -/

/-- The cause is absent in RUNNING only, the broken phase present in PAUSED_BROKEN only, a request deferred in
PAUSED only, and the hood state the one that the debounced levels give. -/
def PauseSound (p : Pause) : Prop :=
  (p.state = .running ↔ p.cause = none)
    ∧ (p.state = .pausedBroken ↔ p.brokenPhase.isSome = true)
    ∧ (p.deferred.isSome = true → p.state = .paused)
    ∧ p.hoodOpen = hoodFrom p.lines

/-! ## The Link Port (R163, R165) -/

/-- The request of a reply that has a place in the request queue. -/
def Reply.request? (r : Reply) : Option Queued := if r.queueFull then none else some { kind := r.kind, tag := r.tag }

/-- The request queue holds exactly the requests whose replies are not yet sent whole, at most 4; at most 4
QUEUE_FULL refusals wait; the aging count is at most 4. -/
def LinkSound (l : Link) : Prop :=
  l.queue = l.replies.filterMap Reply.request?
    ∧ l.queue.length ≤ queueDepth
    ∧ waitingRefusals l ≤ queueDepth
    ∧ (∀ a, l.chunkAge = some a → a ≤ 4)

/-! ## The allowances (R108) -/

/-- No face record of a volume holds more than its page allowance, and its volume dose no more than its volume
allowance (R108). -/
def WithinAllowances (v : Volume) : Prop :=
  (∀ f, (facesGet v.faces f).dose.total ≤ v.profile.pageAllowance * 1000)
    ∧ v.dose.total ≤ v.profile.volumeAllowance * 1000

/-- The predicted doses of one pulse of each bank of a list (R114). -/
def pulsesDose (l : Lamps) (banks : List Bank) : Sides Nat :=
  banks.foldr (fun b sum => addSides (pulseDose l b ratedLux) sum) (Sides.both 0)

/-- The predicted doses of those strobes of the running capture that may still start (R110). -/
def strobesAhead (s : State) : Sides Nat :=
  let ahead (side : Side) : Sides Nat :=
    if mayStillStart s.capture side then strobeDose s.lamps s.lamps.fixedBanks side (s.lamps.duration.get side)
    else Sides.both 0
  addSides (ahead .left) (ahead .right)

/-- The totals of a volume's two faces and of the volume are no less than the given ones. -/
def TotalsCover (v : Volume) (faces totals : Sides Nat) (volumeTotal : Nat) : Prop :=
  totals.left ≤ (facesGet v.faces faces.left).dose.total ∧ totals.right ≤ (facesGet v.faces faces.right).dose.total
    ∧ volumeTotal ≤ v.dose.total

/-- The pulses still to come of the check that holds the lighting fit its bound faces, whose volume is OPEN, and a
waiting check has all its banks before it (R95, R98). -/
def CheckCovered (s : State) : Prop :=
  (∀ c b, s.lamps.holder = .check c → c.bound = some b →
      b.faces.left ≠ b.faces.right
        ∧ ∃ v, s.store.slots.get b.slot = .opened v
          ∧ predict v b.faces (pulsesDose s.lamps (if c.lit then c.remaining.tail else c.remaining)) = none)
    ∧ ∀ c, s.lamps.waitingCheck = some c → c.lit = false ∧ c.remaining = Bank.all.filter fun b => c.banks.get b

/-- The pulse settle record stands while its pulse is lit, on the check's bound faces, and the totals hold at least
those before the pulse with its predicted doses (R115). -/
def PulseCovered (s : State) : Prop :=
  ∀ p, s.dose.pulseSettle = some p →
    ∃ c v, s.lamps.holder = .check c ∧ c.lit = true ∧ c.bound = some p.bound
      ∧ s.store.slots.get p.bound.slot = .opened v
      ∧ let pulse := pulseDose s.lamps p.bank ratedLux
        TotalsCover v p.bound.faces (addSides p.before pulse) (p.volumeBefore + pulse.left + pulse.right)

/-- The progress and the triggers of a capture agree with its state: an ARMING one has its requested sides waiting and
none other, an EXPOSING one has nothing under way on another side, and a trigger stands on a waiting side of a running
exposure alone (R123, R126, R128). -/
def CaptureOrdered (c : Capture) : Prop :=
  let asked (side : Side) : Bool := (c.sides.getD .both).has side
  (c.state = .arming →
      c.voiding = false ∧ (∀ n, c.opening = some n → 1 ≤ n)
        ∧ ∀ side, c.progress.get side = if asked side then .triggered else .notRequested)
    ∧ (c.state = .exposing → ∀ side, asked side = false → c.progress.get side = .notRequested)
    ∧ ∀ side, c.trigger.get side = true →
        c.state = .exposing ∧ c.voiding = false ∧ c.progress.get side = .triggered

/-- An EXPOSING capture holds the lighting, its strobes that may still start fit the faces of its opening, and the
capture settle record stands in EXPOSING alone, on those faces, from the first strobe on; the totals hold at least those
before the capture with what each side counts, a lit strobe counting its predicted doses (R110 to R112). -/
def CaptureCovered (s : State) : Prop :=
  (s.capture.state = .exposing →
      s.lamps.holder = .capture
        ∧ (∃ n slot v, s.capture.opening = some n ∧ 1 ≤ n ∧ openSlot? s.store.slots = some (slot, v)
          ∧ predict v (facesOf n) (strobesAhead s) = none)
        ∧ ∀ side, s.capture.progress.get side = .lit → s.dose.captureSettle.isSome = true)
    ∧ ∀ q, s.dose.captureSettle = some q →
      s.capture.state = .exposing ∧ s.capture.opening.map facesOf = some q.faces
        ∧ (∃ v, s.store.slots.get q.slot = .opened v
          ∧ let sum := countedTotal q
            TotalsCover v q.faces (addSides q.before sum) (q.volumeBefore + sum.left + sum.right))
        ∧ ∀ side,
          (s.capture.progress.get side = .lit →
              q.actual.get side = none
                ∧ q.predicted.get side
                  = some (strobeDose s.lamps s.lamps.fixedBanks side (s.lamps.duration.get side)))
            ∧ (mayStillStart s.capture side = true → q.actual.get side = none)

/-- The law of R108, for every slot's volume, and what keeps it: every flash that may still come without a further
prediction fits, and no settle still to come raises a total. -/
def DoseSound (s : State) : Prop :=
  (∀ i v, (s.store.slots.get i).volume? = some v → WithinAllowances v)
    ∧ CheckCovered s ∧ PulseCovered s ∧ CaptureOrdered s.capture ∧ CaptureCovered s

/-- Everything above at once: what every step keeps. -/
def Sound (s : State) : Prop :=
  StoreSound s ∧ TrackerSound s ∧ LampsInRange s.lamps ∧ PauseSound s.pause ∧ LinkSound s.link ∧ DoseSound s

end Sys2Proof.Machine
end

