-- ==== Sys2Proof/Certificates/Slice0/Obligations.lean ====
section
/-! DEFINITION. The statements for the provers. Each says what a command, an operation or the whole part does by the
numbered rules of the spec. `Takes`, `Refuses`, `Does` and `apart` (Sys2Proof/Safety.lean) say that a command goes on to
a next state and that, but for the Link Port's own queues and the attention-outstanding flag, the part is afterwards
exactly as the state written out says. -/

open Sys2Proof Sys2Proof.Config Sys2Proof.Machine

/-! ## The queue of commands -/

/-- One step runs the command at the front of the queue on the state with the queue's rest. The model's form of a block
that takes commands; no rule of the spec. -/
def Obligations.StepRunsTheFrontCommand : Prop :=
  ∀ (c : Instr) (s : State), step { s with pending := c :: s.pending } = exec c s

/-- Every command goes on to a next state, in every state, and leaves the queue of commands as it is. Both are the
model's form of the part, no rule of the spec: the queue is the model's own (notes/assumptions/21.md), and that an
event with nothing to act on changes nothing, so that none stops the part, is its choice (notes/assumptions/4.md). -/
def Obligations.EveryCommandGoesOn : Prop :=
  ∀ (c : Instr) (s : State), ∃ t, exec c s = .next t ∧ t.pending = s.pending

/-- A step with no command waiting is one microsecond (the model's choice, notes/assumptions/1.md). Of `n` of them, with
the supply on, each whole millisecond charges the reservoir by 100 units, up to 80000 (R92). The idle timer counts one
second for each 1,000,000 of them, up to just below the interval that its stage ends at, where it waits for
IDLE_STAGE_EXPIRY; it does not count while a capture is ARMING or EXPOSING or a check waits or holds, nor once it has
stopped in EXPIRED (R90). A settle in progress runs for the interval it began with (R83), the time elapsed in an aiming
interval stays below 100 ms (R104), the time a lit strobe has been lit at most its set duration (R127). Nothing else
moves: no other item of the Lamp Controller, of the Dose Unit or of the Capture Unit, no record of another block and no
reading of a line. The counters' microseconds are the model's own fields (notes/assumptions/5.md); that they wait for
the command of their expiry is its choice (notes/assumptions/1.md). -/
def Obligations.IdleStepsChargeTheReservoir : Prop :=
  ∀ (s : State) (n : Nat), s.pending = [] → s.lamps.reservoirUs < 1000 → s.lamps.reservoir ≤ 80000 →
    s.lamps.idleUs < 1000000 →
    let l := s.lamps
    let t := tick^[n] s
    let held := s.capture.state = .arming ∨ s.capture.state = .exposing ∨ l.waitingCheck.isSome = true
      ∨ ∃ c, l.holder = .check c
    let next := match l.idleStage with | .active => l.tRest | .rest => l.tDark | _ => l.tSupply
    step t = .next (tick^[n + 1] s)
      ∧ t.lamps.reservoir
          = (if l.supply = .off then l.reservoir else min 80000 (l.reservoir + 100 * ((l.reservoirUs + n) / 1000)))
      ∧ (held ∨ l.idleStage = .expired → t.lamps.idleElapsed = l.idleElapsed ∧ t.lamps.idleUs = l.idleUs)
      ∧ (¬ held → l.idleStage ≠ .expired →
          t.lamps.idleElapsed = max l.idleElapsed (min (l.idleElapsed + (l.idleUs + n) / 1000000) (next - 1)))
      ∧ (l.settleUs ≤ l.settleRun * 1000 →
          t.lamps.settleUs
            = if l.supply = .settling then min (l.settleUs + n) (l.settleRun * 1000) else l.settleUs)
      ∧ { t.lamps with
            reservoir := l.reservoir, reservoirUs := l.reservoirUs, settleUs := l.settleUs
            idleElapsed := l.idleElapsed, idleUs := l.idleUs } = l
      ∧ { t.dose with aiming := s.dose.aiming } = s.dose
      ∧ (s.dose.aiming = none → t.dose.aiming = none)
      ∧ (∀ iv, s.dose.aiming = some iv → iv.elapsedUs ≤ 99999 →
          t.dose.aiming = some { iv with elapsedUs := min (iv.elapsedUs + n) 99999 })
      ∧ { t.capture with litUs := s.capture.litUs } = s.capture
      ∧ (∀ side, s.capture.litUs.get side ≤ l.duration.get side →
          t.capture.litUs.get side
            = if s.capture.progress.get side = .lit then min (s.capture.litUs.get side + n) (l.duration.get side)
              else s.capture.litUs.get side)
      ∧ t.store = s.store ∧ t.tracker = s.tracker ∧ t.turner = s.turner ∧ t.mech = s.mech ∧ t.pause = s.pause
      ∧ t.summary = s.summary ∧ t.link = s.link ∧ t.pins = s.pins ∧ t.pending = []

/-! ## The Link Port (chapter 10) -/

/-- Decode and encode agree: the bytes of a well-formed request's frame, taken one after another by a framer in HUNT,
do exactly what the request's command does (R160, R161, R164, R172, section 11.4). That a request's command is the
arrival of its frame is DEDUCED (notes/assumptions/3.md). -/
def Obligations.RequestFramesReachTheirBlocks : Prop :=
  ∀ (i : Instr) (s : State) (bytes : List Byte), i.wf = true → requestBytes i = some bytes →
    s.link.framer = .hunt → exec i s = .next (receiveAll s bytes)

/-- The framer's moves on a byte that ends no frame, and the hand-over of a frame whose CRC matches (R161). The CRC has
the polynomial 0x1021 and the starting value 0xFFFF, each byte entering with its most significant bit first (R160).
Every receive error discards the frame in hand, returns the framer to HUNT and latches its LINK condition with the
payload length received, 0 before the second length byte; nothing in the frame reaches a block (R162). That a GAP with
no frame in hand changes nothing is the model's choice (notes/assumptions/4.md). -/
def Obligations.FramerTakesBytes : Prop :=
  (let shift (c : BitVec 16) : BitVec 16 := if c.getLsbD 15 = true then (c <<< 1) ^^^ 0x1021 else c <<< 1
   crc16 [] = 0xFFFF
    ∧ ∀ (bs : List Byte) (b : Byte), crc16 (bs ++ [b]) = shift^[8] (crc16 bs ^^^ (b.setWidth 16 <<< 8)))
    ∧ (∀ (b : Byte) (s : State),
      match s.link.framer with
      | .hunt => Frames b s (if b = 0xC3 then .length none else .hunt)
      | .length none => Frames b s (.length (some b))
      | .length (some low) => ofLe [low, b] ≤ 1000 → Frames b s (.header (ofLe [low, b]) none)
      | .header n none => Frames b s (.header n (some b))
      | .header n (some kind) => Frames b s (if n = 0 then .check n kind b [] none else .payload n kind b [])
      | .payload n kind tag got =>
        Frames b s (if got.length + 1 = n then .check n kind tag (got ++ [b]) none
          else .payload n kind tag (got ++ [b]))
      | .check n kind tag got none => Frames b s (.check n kind tag got (some b))
      | .check n kind tag got (some low) =>
        ofLe [low, b] = (crc16 (le 2 n ++ (kind :: tag :: got))).toNat →
          exec (.byteReceived b) s
            = .next (arrive { s with link := { s.link with framer := .hunt } } kind.toNat tag.toNat
                (takeFrame kind.toNat got)))
    ∧ (∀ (b low : Byte) (s : State), s.link.framer = .length (some low) → 1000 < ofLe [low, b] →
      Discards (.byteReceived b) s (.linkOverlength (ofLe [low, b])))
    ∧ (∀ (b low kind tag : Byte) (n : Nat) (got : List Byte) (s : State),
        s.link.framer = .check n kind tag got (some low) →
        ofLe [low, b] ≠ (crc16 (le 2 n ++ (kind :: tag :: got))).toNat →
        Discards (.byteReceived b) s (.linkBadCrc n))
    ∧ ∀ s : State,
        match s.link.framer with
        | .hunt => exec .gap s = .next s
        | .length _ => Discards .gap s (.linkGap 0)
        | .header n _ => Discards .gap s (.linkGap n)
        | .payload n _ _ _ => Discards .gap s (.linkGap n)
        | .check n _ _ _ _ => Discards .gap s (.linkGap n)

/-- A request that arrives with four requests queued reaches no block: it is answered REFUSED, QUEUE_FULL, field index
0, while fewer than four such refusals wait, and discarded with no effect at all otherwise; after a taken RESET every
request is discarded. Every request that the Link Port can take enters the queue at its tail, is taken at once and makes
exactly one reply, which joins the reply list at its end. A kind that is no request is refused UNKNOWN_KIND, a request
of a wrong length BAD_LENGTH, both at field index 0 and with no other effect (R163, R164, R168, R172). A reply of its
own kind has the request's kind with its high bit set and carries the outcome byte, a presence field with one bit for
each item that may be absent, if there is such an item, and the items, an absent one as zeros; a refusal has kind 0xFF
and carries the refused kind, the reason's number and the field index (R164, R170, R171). That a request is taken at its
arrival is DEDUCED (notes/assumptions/3.md). -/
def Obligations.RequestsAreAnsweredOnce : Prop :=
  (∀ l : Link, waitingRefusals l = l.replies.countP Reply.queueFull)
    ∧ (∀ (i : Instr) (s : State) (kind tag : Nat) (payload : List Byte), requestParts i = some (kind, tag, payload) →
      (s.link.resetting = true → exec i s = .next s)
        ∧ (s.link.resetting = false → 4 ≤ s.link.queue.length →
            if waitingRefusals s.link < 4 then
              ∃ t, exec i s = .next t ∧ apart t = apart s ∧ t.link.queue = s.link.queue
                ∧ t.link.framer = s.link.framer
                ∧ t.link.replies = s.link.replies ++
                    [{ kind := kind, tag := tag, answer := .refused .queueFull 0, queueFull := true }]
            else exec i s = .next s))
    ∧ (∀ (i : Instr) (s : State) (kind tag : Nat) (payload : List Byte), requestParts i = some (kind, tag, payload) →
      Ready s → ∃ t a, exec i s = .next t ∧ Replied s t kind tag a)
    ∧ (∀ (b low kind tag : Byte) (n : Nat) (got : List Byte) (s : State), Ready s →
      s.link.framer = .check n kind tag got (some low) →
      ofLe [low, b] = (crc16 (le 2 n ++ (kind :: tag :: got))).toNat →
      requestLength? kind.toNat ≠ some got.length →
      ∃ t, exec (.byteReceived b) s = .next t ∧ apart t = apart s ∧ t.link.framer = .hunt
        ∧ t.link.queue = s.link.queue ++ [{ kind := kind.toNat, tag := tag.toNat }]
        ∧ t.link.replies = s.link.replies ++
            [{ kind := kind.toNat, tag := tag.toNat, queueFull := false
               answer := .refused (if requestLength? kind.toNat = none then .unknownKind else .badLength) 0 }])
    ∧ (∀ (kind field presence : Nat) (reason : Reason) (outcome : OwnOutcome) (items : List Item),
      let present : List Bool := items.filterMap fun i =>
        match i with
        | .bytes _ => none
        | .opt _ v => some v.isSome
      let body (i : Item) : List Byte :=
        match i with
        | .bytes bs => bs
        | .opt _ (some bs) => bs
        | .opt width none => List.replicate width 0
      (Answer.own outcome presence items).kindByte kind = kind + 0x80
        ∧ (Answer.own outcome presence items).payload kind
          = le 1 (match outcome with | .taken => 1 | .started => 2 | .deferred => 3)
            ++ (if present = [] then []
              else le presence (present.foldr (fun there rest => (if there = true then 1 else 0) + 2 * rest) 0))
            ++ items.flatMap body
        ∧ (Answer.refused reason field).kindByte kind = 0xFF
        ∧ (Answer.refused reason field).payload kind = le 1 kind ++ le 1 reason.number ++ le 1 field)
    ∧ [Reason.queueFull, .unknownKind, .badLength, .badValue, .wrongState, .busy, .noVolume, .uncertain, .storeFull,
        .notExported, .endOfVolume, .hoodOpen, .notCalibrated, .noLight, .doseFace, .doseVolume, .wrongFrame].map
        Reason.number = [1, 2, 3, 4, 5, 6, 7, 8, 9, 10, 11, 12, 13, 14, 15, 16, 17]

/-- The transmit arbiter's choice when the transmitter is free. With no RESET under way: the export chunk whose aging
count is 4; the queued attention frame, built now from the record as it stands, which names the elevated class if it is
latched, else the lowest-numbered enabled latched class, and carries its record and the set of all latched classes; the
oldest reply; the waiting chunk. A queued attention frame that finds no enabled class latched is dropped, which clears
the flag, and the arbiter chooses again (R155, R165, R166). After a taken RESET it chooses replies alone, the oldest
first, and neither an attention frame nor a chunk (R168). A chunk is built as it is chosen: first the HEADER with the
values of the snapshot (glass mode 0 PRESS, 1 NONE), then the LOG chunks of 24 entries and the FACES chunks of 96
records as they stand, the last of each with the rest, then the FINAL chunk with the slot state that the stream leaves
(R32, R33, section 11.6). -/
def Obligations.ArbiterChoosesInOrder : Prop :=
  [GlassMode.press, .none].map GlassMode.code = [0, 1]
    ∧ (∀ (q : Slots) (st : Stream) (v : Volume), (q.get st.slot).volume? = some v →
      let logs := (st.entries + 23) / 24
      let faces := (st.faces + 95) / 96
      let h := st.header
      let p := h.profile
      let flag (b : Bool) (weight : Nat) : Nat := if b then weight else 0
      let head (type first count : Nat) : List Byte := le 1 st.slot.number ++ le 1 type ++ le 2 first ++ le 2 count
      let entry (index : Nat) (e : Entry) : List Byte :=
        match e.body with
        | .capture c =>
          le 2 index ++ le 1 0 ++ le 1 c.status.code ++ le 2 e.opening ++ le 4 e.timestamp ++ le 1 c.take
            ++ le 1 c.sides.code
            ++ le 1 (flag c.flags.under 1 + flag c.flags.singleBank 2 + flag c.flags.focusLimit 4
              + flag c.flags.noGlass 8 + flag c.flags.manual 16 + flag c.frames.left.isSome 32
              + flag c.frames.right.isSome 64)
            ++ le 1 (flag c.banks.la 1 + flag c.banks.lb 2 + flag c.banks.ra 4 + flag c.banks.rb 8)
            ++ le 4 ((c.frames.left.map BitVec.toNat).getD 0) ++ le 4 ((c.frames.right.map BitVec.toNat).getD 0)
            ++ le 3 c.doses.left ++ le 3 c.doses.right ++ le 2 c.durations.left ++ le 2 c.durations.right
        | .incident kind detail second =>
          le 2 index ++ le 1 kind.code ++ le 1 0 ++ le 2 e.opening ++ le 4 e.timestamp ++ le 4 detail ++ le 4 second
            ++ List.replicate 14 0
      (st.next = 0 →
          chunkPayload q st
            = head 1 0 0
              ++ (le 1 st.start.code
                ++ (le 2 0x3FFF ++ (p.shelfMark ++ List.replicate (40 - p.shelfMark.length) 0) ++ le 1 p.partNumber
                  ++ le 2 p.leaves ++ le 2 p.firstFolio ++ le 2 p.thickness ++ le 1 p.angleLimit ++ le 1 p.initialAngle
                  ++ le 1 p.glassMode.code ++ le 2 p.forceLimit ++ le 1 p.airLevel ++ le 4 p.pageAllowance
                  ++ le 4 p.volumeAllowance ++ le 1 p.warning ++ le 1 p.releaseMode.code)
                ++ le 2 h.captureCount ++ le 2 h.incidentCount ++ le 2 h.restartCount ++ le 1 (flag h.logComplete 1)
                ++ le 4 h.dose.whole ++ le 2 h.dose.rem ++ le 4 h.clock ++ le 2 st.entries ++ le 2 st.faces
                ++ le 1 h.marks.length
                ++ h.marks.flatMap fun m =>
                  le 2 m.leaf ++ le 1 (flag m.kinds.foldout 1 + flag m.kinds.plate 2 + flag m.kinds.hold 4)))
        ∧ (∀ k, st.next = k + 1 → k < logs →
          let count := min 24 (st.entries - k * 24)
          chunkPayload q st
            = head 2 (k * 24) count
              ++ ((v.log.zipIdx.drop (k * 24)).take count).flatMap fun (e, index) => entry index e)
        ∧ (∀ k, st.next = logs + k + 1 → k < faces →
          let count := min 96 (st.faces - k * 96)
          chunkPayload q st
            = head 3 (k * 96) count
              ++ (List.range count).flatMap fun j =>
                let r := facesGet v.faces (k * 96 + j)
                le 4 r.dose.whole ++ le 2 r.dose.rem ++ le 2 r.exposures)
        ∧ (st.next = logs + faces + 1 →
          chunkPayload q st
            = head 4 0 0 ++ le 2 st.entries ++ le 2 st.faces
              ++ le 1 (if st.start = .closed ∨ st.start = .exported then 3 else (q.get st.slot).state.code)))
    ∧ ∀ s : State, s.link.sending = none →
      (s.link.resetting = true →
          (∀ r rest, s.link.replies = r :: rest →
              transmit s
                = { s with
                      link :=
                        { s.link with
                            sending := some
                              { what := .reply, kind := r.answer.kindByte r.kind, tag := r.tag
                                payload := r.answer.payload r.kind } } })
            ∧ (s.link.replies = [] → transmit s = s))
        ∧ (s.link.resetting = false →
          (∀ st, s.link.chunkAge = some 4 → s.store.stream = some st →
              (transmit s).link.sending
                  = some { what := .chunk, kind := 0xE1, tag := 0, payload := chunkPayload s.store.slots st }
                ∧ (transmit s).link.chunkAge = none)
            ∧ (s.link.chunkAge ≠ some 4 → s.link.attentionQueued = true →
                let m := s.summary
                let enabled (c : CondClass) : Prop :=
                  m.mask.getLsbD (c.number - 1) = true ∧ (m.latches.get c).isSome = true
                let n (b : Bool) : Nat := if b = true then 1 else 0
                (anyEnabledLatched m = true ↔ ∃ c, enabled c)
                ∧ if anyEnabledLatched m then
                  ∃ c x, namedClass? m = some c ∧ m.latches.get c = some x
                    ∧ (m.elevated = some c
                      ∨ ((∀ e, m.elevated = some e → m.latches.get e = none) ∧ enabled c
                        ∧ ∀ d, enabled d → c.number ≤ d.number))
                    ∧ (∀ e, m.elevated = some e → (m.latches.get e).isSome = true → c = e)
                    ∧ (transmit s).link.sending
                        = some
                          { what := .attention, kind := 0xE0, tag := 0
                            payload :=
                              le 1 c.number ++ le 1 x.detail ++ le 2 x.arg ++ le 1 (n x.repeated)
                                ++ le 2 (n m.latches.halt.isSome + 2 * n m.latches.uncertain.isSome
                                  + 4 * n m.latches.dose.isSome + 8 * n m.latches.lamp.isSome
                                  + 16 * n m.latches.turn.isSome + 32 * n m.latches.capture.isSome
                                  + 64 * n m.latches.store.isSome + 128 * n m.latches.aux.isSome
                                  + 256 * n m.latches.link.isSome) }
                    ∧ (transmit s).link.attentionQueued = false ∧ (transmit s).summary = s.summary
                else
                  (transmit s).summary.outstanding = false
                    ∧ (transmit s).link = (transmit { s with link := { s.link with attentionQueued := false } }).link)
            ∧ (s.link.chunkAge ≠ some 4 → s.link.attentionQueued = false →
                (∀ r rest, s.link.replies = r :: rest →
                    (transmit s).link.sending
                      = some
                        { what := .reply, kind := r.answer.kindByte r.kind, tag := r.tag
                          payload := r.answer.payload r.kind })
                  ∧ (∀ a st, s.link.replies = [] → s.link.chunkAge = some a → s.store.stream = some st →
                      (transmit s).link.sending
                          = some { what := .chunk, kind := 0xE1, tag := 0, payload := chunkPayload s.store.slots st }
                        ∧ (transmit s).link.chunkAge = none)
                  ∧ (s.link.replies = [] → s.link.chunkAge = none → transmit s = s)))

/-- The end of a frame on the line. A reply sent whole leaves the reply list and its request the queue; every frame but
a chunk ages the waiting chunk; the EXPORT_VOLUME reply makes the HEADER wait. A chunk sent whole makes the next one
wait, and after the FINAL chunk the stream ends, a slot CLOSED at its start becoming EXPORTED (R33, R163, R165, R166).
FRAME_SENT asserts its moment (the model's choice, notes/assumptions/4.md); the aging count holds at 4
(notes/assumptions/23.md). -/
def Obligations.FramesSentWhole : Prop :=
  (∀ entries faces : Nat, totalChunks entries faces = 2 + (entries + 23) / 24 + (faces + 95) / 96)
    ∧ ∀ (s : State) (f : Sending), s.link.sending = some f →
    let aged := s.link.chunkAge.map fun a => min 4 (a + 1)
    (∀ r rest, f.what = .reply → s.link.replies = r :: rest →
        (s.link.resetting = true ∧ r.kind = 0x49 ∧ r.answer.isOwn = true → False) →
        let left : Link :=
          { s.link with
              sending := none, replies := rest
              queue := if r.queueFull then s.link.queue else s.link.queue.tail
              chunkAge := if r.kind = 0x04 ∧ r.answer.isOwn = true ∧ s.store.stream.isSome = true then some 0 else aged }
        exec .frameSent s = .next (transmit { s with link := left }))
      ∧ (f.what = .attention →
          exec .frameSent s = .next (transmit { s with link := { s.link with sending := none, chunkAge := aged } }))
      ∧ (∀ st, f.what = .chunk → s.store.stream = some st →
          if st.next + 1 < totalChunks st.entries st.faces then
            exec .frameSent s
              = .next (transmit
                  { s with
                      link := { s.link with sending := none, chunkAge := some 0 }
                      store := { s.store with stream := some { st with next := st.next + 1 } } })
          else st.next + 1 = totalChunks st.entries st.faces →
            ∃ t, exec .frameSent s = .next t ∧ t.store.stream = none ∧ LinkKept s t
              ∧ (∀ i, t.store.slots.get i
                  = match decide (i = st.slot ∧ st.start = .closed), s.store.slots.get i with
                    | true, .closed v => .exported v
                    | _, q => q)
              ∧ apart { t with store := s.store } = apart s)

/-- RESET is taken in every state and answered TAKEN; from then on the Link Port takes no request, and when the RESET
reply has been sent whole the part restarts with cause RESET request at the rate latched before (R168). What that
restart leaves is written out in RestartGivesEveryBlockItsValues and RestartHandlesTheOpenVolume. -/
def Obligations.ResetRestartsAfterItsReply : Prop :=
  (∀ (tag : Nat) (s : State), Ready s →
      ∃ t, exec (.resetRequest tag) s = .next t ∧ apart t = apart s ∧ Replied s t 0x49 tag (taken [])
        ∧ t.link.resetting = true)
    ∧ ∀ (s : State) (f : Sending) (r : Reply) (rest : List Reply),
        s.link.resetting = true → s.link.sending = some f → f.what = .reply → s.link.replies = r :: rest →
        r.kind = 0x49 → r.answer.isOwn = true →
        ∃ t, exec .frameSent s = .next t
          ∧ apart t = apart (restart s .request s.link.rate) ∧ t.link = (restart s .request s.link.rate).link

/-! ## Restarts (R43, R150, R151, R169) -/

/-- A restart with no slot OPEN, by POWER_ON, by RESET_LINE, or by the RESET request when its reply has been sent whole,
which keeps the rate and finds the lines as they stand: the store keeps every slot, an export stream is abandoned, the
tracker is NO_VOLUME, and every item of every block takes its restart value: the whole records of the turner, of Cradle
Mechanics, of the Lamp Controller, of the Dose Unit, of the Capture Unit, of the Pause Logic with the pause that the
lines hold, of the Condition Summary and of the Link Port, whose free transmitter takes at once the attention frame of a
latched HALT (R43 to R45, R66, R68, R76, R79, R82, R104, R120, R139, R150, R151, R155, R159, R168, R169). The readings
are those that POWER_ON and RESET_LINE carry; the values of the model's own fields among the items are its choice
(notes/assumptions/5.md). -/
def Obligations.RestartGivesEveryBlockItsValues : Prop :=
  ∀ (pins : Pins) (s : State) (i : Instr) (cause : RestartCause),
    (i = .powerOn pins ∧ cause = .powerOn) ∨ (i = .resetLine pins ∧ cause = .resetLine)
        ∨ (i = .frameSent ∧ cause = .request ∧ pins = s.pins ∧ resetReplyOnLine s) →
    openSlot? s.store.slots = none →
    let line (func : LineFunction) (high : Bool) : Aux :=
      { func := func, edge := .rising, debounced := high, window := false, edges := { count := 0, last := none } }
    let held : Option PauseCause :=
      if pins.aux.aux0 = false then some .stop else if pins.aux.aux2 = true then some .hood else none
    ∃ t, exec i s = .next t ∧ t.pending = s.pending ∧ t.pins = pins
      ∧ t.store = { slots := s.store.slots, stream := none }
      ∧ t.tracker = { state := .noVolume, slot := none, n := none, lastPlaced := some 0, doseLogged := false }
      ∧ t.turner =
        { state := if pins.home then .idle else .halted
          step := .running, purpose := none, direction := none, manual := none, leaf := none, plateHeld := none
          attempt := none, airLevel := none, lastCount := none, lastOutcome := .none, parkWaiting := false
          cupHeld := if cause = .powerOn then false else pins.hold
          settings := { reach := 1500, lift := 1500, carry := 3000, lay := 1500, ret := 3000, limit := 3 }
          valveClosed := if cause = .powerOn then false else s.turner.valveClosed
          restoreReleased := false, layEmpty := false }
      ∧ t.mech =
        { targets := none
          platens :=
            { left := { setpoint := pins.position.left, pending := false, logged := false }
              right := { setpoint := pins.position.right, pending := false, logged := false } }
          glass :=
            { state := if pins.raisedStop then .raised else .raising
              requestedForce := 0, press := none, claim := false, waiters := [], keptRaise := false
              heldPress := false, fault := .none }
          angleTarget := pins.angle, anglePending := false }
      ∧ t.lamps =
        { supply := .off, settle := 1500, settleRun := 1500, settleUs := 0
          health := { la := .uncalibrated, lb := .uncalibrated, ra := .uncalibrated, rb := .uncalibrated }
          fullScale := { la := none, lb := none, ra := none, rb := none }
          lastReading := { la := none, lb := none, ra := none, rb := none }
          drive := { la := 0, lb := 0, ra := 0, rb := 0 }, duration := { left := 4000, right := 4000 }, spill := 0
          aimingLevel := 0, restLevel := 0, aimingCut := false, tRest := 20, tDark := 120, tSupply := 600
          idleStage := .active, idleElapsed := 0, idleUs := 0, reservoir := 0, reservoirUs := 0
          counter := 0, interval := 40, rotation := true, pointer := .la, fullCheck := false
          tolerance := 30, failLimit := 200, deferrals := 0
          holder := .free, waitingCapture := false, waitingCheck := none, lastCheck := none
          fixedBanks := { la := false, lb := false, ra := false, rb := false }, captureCost := 0 }
      ∧ t.dose = { captureSettle := none, pulseSettle := none, aiming := none, lastRefusal := none }
      ∧ t.capture =
        { state := .none, voiding := false, sides := none, opening := none, take := none, hold := none
          release := none, manual := none, progress := { left := .notRequested, right := .notRequested }
          frame := { left := none, right := none }, receipt := { left := false, right := false }
          duration := { left := 0, right := 0 }
          flags := { under := false, singleBank := false, focusLimit := false, noGlass := false, manual := false }
          entry := none, lastOutcome := .none, counter := { left := 0, right := 0 }, releaseMode := .onAccept
          timeout := 500, strobeDelay := { left := 0, right := 0 }, pedalCapture := false
          trigger := { left := false, right := false }, press := .none, admitted := { left := 0, right := 0 }
          faceDoses := { left := 0, right := 0 }, litUs := { left := 0, right := 0 } }
      ∧ t.pause =
        { state := if held.isSome then .paused else .running, cause := held, brokenPhase := none
          lines :=
            { aux0 := line .stop pins.aux.aux0, aux1 := line .pedal pins.aux.aux1
              aux2 := line .hood pins.aux.aux2, aux3 := line .signal pins.aux.aux3 }
          hoodOpen := pins.aux.aux2, deferred := none, lastDeferred := .none, lastPedal := .none }
      ∧ (∀ c, t.summary.latches.get c
          = if c = .halt then held.map fun k => { detail := k.code, arg := 0, repeated := false } else none)
      ∧ t.summary.mask = 0x1FF ∧ t.summary.elevated = none ∧ t.summary.outstanding = held.isSome
      ∧ t.link =
        { framer := .hunt, queue := [], replies := [], attentionQueued := false, chunkAge := none
          sending := held.map fun k =>
            { what := .attention, kind := 0xE0, tag := 0
              payload := le 1 1 ++ le 1 k.code ++ le 2 0 ++ le 1 0 ++ le 2 1 }
          resetting := false
          rate :=
            if cause = .request then s.link.rate
            else match pins.straps % 4 with | 0 => 115200 | 1 => 230400 | 2 => 460800 | _ => 921600 }

/-- A restart that finds a slot OPEN, by POWER_ON, by RESET_LINE, or by the RESET request when its reply has been sent
whole (R168): the clock resumes at the newest timestamp, a PENDING entry becomes VOID, the restart count rises (held at
65535), RESTART is appended with the cause, 1 power-on, 2 reset line or 3 RESET request, and the new count at opening 0,
the other slots stay, and the tracker enters UNCERTAIN with detail RESTART, latched (R43, R17, R42). The requested force
is the profile's limit and the release mode the profile's default (R70, R120); every other record of the turner, of
Cradle Mechanics, of the Lamp Controller, of the Dose Unit, of the Capture Unit, of the Pause Logic and of the Link Port
is what the same restart gives with no slot OPEN, as RestartGivesEveryBlockItsValues writes it out, but that the free
transmitter takes an attention frame in any case: it names HALT when the lines hold a pause, else UNCERTAIN, with the
classes of every condition the restart latched (R150, R151, R155). That this frame is chosen once, when the whole
restart is done, and the order in which the restart latches STORE, UNCERTAIN and HALT, are the model's choice
(notes/assumptions/6.md, notes/assumptions/23.md). STORE LOW or STORE INCIDENT_LOST is latched by the append. The values
of the model's own fields are its choice too (notes/assumptions/5.md). -/
def Obligations.RestartHandlesTheOpenVolume : Prop :=
  [RestartCause.powerOn, .resetLine, .request].map RestartCause.code = [1, 2, 3]
    ∧ [PauseCause.stop, .hood].map PauseCause.code = [1, 2]
    ∧ ∀ (pins : Pins) (s : State) (i : Instr) (cause : RestartCause) (slot : SlotId) (v : Volume),
      (i = .powerOn pins ∧ cause = .powerOn) ∨ (i = .resetLine pins ∧ cause = .resetLine)
          ∨ (i = .frameSent ∧ cause = .request ∧ pins = s.pins ∧ resetReplyOnLine s) →
      openSlot? s.store.slots = some (slot, v) →
      let now := (v.log.getLast?.map Entry.timestamp).getD 0
      let count := min (v.restartCount + 1) 65535
      let voided := v.log.map (Entry.onPending fun c => { c with status := .void })
      let held : Option PauseCause :=
        if pins.aux.aux0 = false then some .stop else if pins.aux.aux2 = true then some .hood else none
      let bare : State :=
        { s with store := { s.store with slots := { s0 := .free, s1 := .free, s2 := .free, s3 := .free } } }
      ∃ t u w, exec i s = .next t ∧ exec i bare = .next u ∧ t.pending = s.pending ∧ t.pins = pins
        ∧ t.store.stream = none ∧ t.store.slots = s.store.slots.set slot (.opened w)
        ∧ w =
          (if freeEntries s = 0 then { v with clock := now, log := voided, restartCount := count, logComplete := false }
            else
              { v with
                  clock := now, restartCount := count, incidentCount := v.incidentCount + 1
                  log := voided ++ [{ opening := 0, timestamp := now, body := .incident .restart cause.code count }] })
        ∧ t.tracker = { state := .uncertain, slot := some slot, n := none, lastPlaced := some 0, doseLogged := false }
        ∧ t.turner = u.turner
        ∧ t.mech = { u.mech with glass := { u.mech.glass with requestedForce := v.profile.forceLimit } }
        ∧ t.lamps = u.lamps ∧ t.dose = u.dose
        ∧ t.capture = { u.capture with releaseMode := v.profile.releaseMode }
        ∧ t.pause = u.pause
        ∧ (∀ c, t.summary.latches.get c
            = match c with
              | .halt => held.map fun k => { detail := k.code, arg := 0, repeated := false }
              | .uncertain => some { detail := 3, arg := cause.code, repeated := false }
              | .store =>
                if freeEntries s = 0 then some { detail := 2, arg := 9, repeated := false }
                else if freeEntries s ≤ 257 then some { detail := 1, arg := freeEntries s - 1, repeated := false }
                else none
              | _ => none)
        ∧ t.summary.mask = 0x1FF ∧ t.summary.elevated = none ∧ t.summary.outstanding = true
        ∧ t.link =
          { u.link with
              sending := some
                { what := .attention, kind := 0xE0, tag := 0
                  payload :=
                    (match held with
                      | some k => le 1 1 ++ le 1 k.code ++ le 2 0 ++ le 1 0
                      | none => le 1 2 ++ le 1 3 ++ le 2 cause.code ++ le 1 0)
                    ++ le 2 ((if held.isSome then 1 else 0) + 2 + if freeEntries s ≤ 257 then 64 else 0) } }

/-- The state of the part right after its first power-on stands: that power-on, at the lines at rest, leaves it as it
is (the lines' rest values are the model's choice, notes/assumptions/2.md), and every law of the part holds there. -/
def Obligations.FirstPowerOnIsSound : Prop :=
  exec (.powerOn Pins.atRest) State.reset = .next State.reset ∧ Sound State.reset

/-! ## The Accounting Store (chapters 1 and 2) -/

/-- OPEN_VOLUME: the five checks of R25 in their order; otherwise the lowest-numbered FREE slot becomes OPEN with the
record of R22, the tracker UNPLACED, the requested force the profile's limit and the release mode the profile's default,
and the reply carries the slot and the free counts after the open: a slot that is not FREE holds its log's entries and
2L+2 face records, and the rest of each pool's 16384 is free (R21). The profile fails at the lowest failing index: bits
14 and 15 of the presence field at 0, a field that is missing or out of its range at its own, the shelf mark by the text
rule too, and the initial angle also when it is above the angle limit (R5, R170, R173). A good one is taken as it
stands, an absent warning threshold as 80. A glass that an earlier volume left down stays as it is (the model's choice,
notes/assumptions/29.md). -/
def Obligations.OpenVolume : Prop :=
  (∀ q : Slots,
      (∀ i v, openSlot? q = some (i, v) → q.get i = .opened v)
        ∧ (openSlot? q = none ↔ ∀ i v, q.get i ≠ .opened v)
        ∧ lowestFree? q
          = (if q.s0 = .free then some .s0 else if q.s1 = .free then some .s1 else if q.s2 = .free then some .s2
            else if q.s3 = .free then some .s3 else none))
    ∧ (∀ s : State,
      let entries (i : SlotId) : Nat :=
        match s.store.slots.get i with | .free => 0 | .opened v | .closed v | .exported v => v.log.length
      let faces (i : SlotId) : Nat :=
        match s.store.slots.get i with | .free => 0 | .opened v | .closed v | .exported v => 2 * v.profile.leaves + 2
      freeEntries s = 16384 - (entries .s0 + entries .s1 + entries .s2 + entries .s3)
        ∧ freeFaces s = 16384 - (faces .s0 + faces .s1 + faces .s2 + faces .s3))
    ∧ (∀ (tag : Nat) (raw : RawProfile) (s : State), Ready s →
      if (openSlot? s.store.slots).isSome then Refuses (.openVolume tag raw) s 0x01 tag .wrongState 0
      else
        match profileBad? raw, lowestFree? s.store.slots with
        | some field, _ => Refuses (.openVolume tag raw) s 0x01 tag .badValue field
        | none, none => Refuses (.openVolume tag raw) s 0x01 tag .storeFull 0
        | none, some slot =>
          if freeFaces s < 2 * raw.leaves + 2 then Refuses (.openVolume tag raw) s 0x01 tag .storeFull 3
          else if freeEntries s ≤ 8 then Refuses (.openVolume tag raw) s 0x01 tag .storeFull 0
          else
            Takes (.openVolume tag raw) s 0x01 tag
              (fun s =>
                { s with
                    store :=
                      { s.store with
                          slots := s.store.slots.set slot (.opened
                            { profile := profileOf raw, marks := [], log := [], faces := []
                              dose := { whole := 0, rem := 0 }, captureCount := 0, incidentCount := 0
                              logComplete := true, restartCount := 0, clock := 0, placedBefore := false }) }
                    tracker :=
                      { state := .unplaced, slot := some slot, n := none, lastPlaced := some 0, doseLogged := false }
                    mech :=
                      { s.mech with glass := { s.mech.glass with requestedForce := (profileOf raw).forceLimit } }
                    capture := { s.capture with releaseMode := (profileOf raw).releaseMode } })
              (taken [u 1 slot.number, u 2 (freeFaces s - (2 * raw.leaves + 2)), u 2 (freeEntries s)]))
    ∧ ∀ raw : RawProfile,
        let bad : Nat → Prop := fun index =>
          let out (low high v : Nat) : Prop := raw.presence.testBit (index - 1) = false ∨ v < low ∨ high < v
          match index with
          | 0 => raw.presence.testBit 14 = true ∨ raw.presence.testBit 15 = true
          | 1 =>
            raw.presence.testBit 0 = false
              ∨ ¬ ∃ text zeros, raw.shelfMark = text ++ List.replicate zeros 0
                  ∧ (∀ b ∈ text, 0x20 ≤ b.toNat ∧ b.toNat ≤ 0x7E) ∧ 1 ≤ text.length ∧ text.length ≤ 40
                  ∧ text.head? ≠ some 0x20 ∧ text.getLast? ≠ some 0x20
          | 2 => out 1 99 raw.partNumber
          | 3 => out 1 4000 raw.leaves
          | 4 => out 1 9999 raw.firstFolio
          | 5 => out 20 2000 raw.thickness
          | 6 => out 80 140 raw.angleLimit
          | 7 => out 80 140 raw.initialAngle ∨ raw.angleLimit < raw.initialAngle
          | 8 => out 0 1 raw.glassMode
          | 9 => out 0 2000 raw.forceLimit
          | 10 => out 1 4 raw.airLevel
          | 11 => out 1 4000000 raw.pageAllowance
          | 12 => out 1 4294967295 raw.volumeAllowance
          | 13 => raw.presence.testBit 12 = true ∧ (raw.warning < 50 ∨ 99 < raw.warning)
          | 14 => out 0 1 raw.releaseMode
          | _ => False
        (profileBad? raw = none ↔ ∀ index, ¬ bad index)
          ∧ (∀ index, profileBad? raw = some index ↔ bad index ∧ ∀ lower, lower < index → ¬ bad lower)
          ∧ ∀ text zeros, raw.shelfMark = text ++ List.replicate zeros 0 → (∀ b ∈ text, b ≠ 0) →
              profileOf raw
                = { shelfMark := text, partNumber := raw.partNumber, leaves := raw.leaves
                    firstFolio := raw.firstFolio, thickness := raw.thickness, angleLimit := raw.angleLimit
                    initialAngle := raw.initialAngle, glassMode := if raw.glassMode = 0 then .press else .none
                    forceLimit := raw.forceLimit, airLevel := raw.airLevel, pageAllowance := raw.pageAllowance
                    volumeAllowance := raw.volumeAllowance
                    warning := if raw.presence.testBit 12 = true then raw.warning else 80
                    releaseMode := if raw.releaseMode = 0 then .onReceipt else .onAccept }

/-- EXTEND_VOLUME: the checks of R26 in their order, and the extension of R27. The store's part of it renumbers the face
records: the back board's record moves from 2L+1 to 2L'+1, the faces between are new and all zero, and faces 0 to 2L
keep their records. The targets are computed afresh from the new L; a side whose unclamped target is above 80000 µm and
whose logged flag is clear, left then right, has PLATEN_LIMIT appended with the side and that target and its flag set,
and a side already logged in the visit has no second one (R65, R67). The aiming light is judged at the command's end
(the model's choice, notes/assumptions/6.md). NO_VOLUME's field index 0 is its reading of R164
(notes/assumptions/16.md). -/
def Obligations.ExtendVolume : Prop :=
  (∀ (c : Capture) (l : Lamps) (s : State) (slot : SlotId),
      (captureRuns c = true ↔ c.state = .arming ∨ c.state = .exposing)
        ∧ (checkHolds l = true ↔ ∃ check, l.holder = .check check)
        ∧ (streamOf s slot = true ↔ ∃ st, s.store.stream = some st ∧ st.slot = slot))
    ∧ (∀ (tag count : Nat) (s : State), Ready s →
      match openSlot? s.store.slots with
      | none => Refuses (.extendVolume tag count) s 0x02 tag .noVolume 0
      | some (slot, v) =>
        let leaves := v.profile.leaves
        if count = 0 ∨ 4000 < leaves + count then Refuses (.extendVolume tag count) s 0x02 tag .badValue 1
        else if s.turner.state ≠ .idle ∧ s.turner.state ≠ .halted ∨ captureRuns s.capture = true
            ∨ checkHolds s.lamps = true ∨ streamOf s slot = true then
          Refuses (.extendVolume tag count) s 0x02 tag .busy 0
        else if freeFaces s < 2 * count then Refuses (.extendVolume tag count) s 0x02 tag .storeFull 1
        else
          let longer (s : State) : State :=
            let noted := appendIncident
              (setSlot s slot (.opened
                { v with
                    profile := { v.profile with leaves := leaves + count }
                    faces := facesRenumber v.faces leaves (leaves + count) }))
              .extended leaves (leaves + count)
            let dark := if s.tracker.n = some (leaves + 1) then aimDark noted else noted
            match s.tracker.state, s.tracker.n with
            | .placed, some n =>
              aimRetest (mechPump (setPlatens (computeTargets dark n)
                { left := (n - 1) * v.profile.thickness, right := (leaves + count + 1 - n) * v.profile.thickness }))
            | _, _ => dark
          let after := longer (enqueue s 0x02 tag)
          Takes (.extendVolume tag count) s 0x02 tag longer
            (taken [u 2 leaves, u 2 (leaves + count), u 2 (freeFaces after), u 2 (freeEntries after)]))
    ∧ (∀ (s : State) (slot : SlotId) (v : Volume) (n : Nat), openSlot? s.store.slots = some (slot, v) →
      let targets : Sides Nat :=
        { left := (n - 1) * v.profile.thickness, right := (v.profile.leaves + 1 - n) * v.profile.thickness }
      let was := s.mech.platens
      let first :=
        if 80000 < targets.left ∧ was.left.logged = false then appendIncident s .platenLimit 1 targets.left else s
      let both :=
        if 80000 < targets.right ∧ was.right.logged = false then appendIncident first .platenLimit 2 targets.right
        else first
      computeTargets s n
        = { both with
              mech :=
                { s.mech with
                    targets := some targets
                    platens :=
                      { left := { was.left with logged := was.left.logged || decide (80000 < targets.left) }
                        right := { was.right with logged := was.right.logged || decide (80000 < targets.right) } } } })
    ∧ ∀ (fs : List (Nat × FaceRec)) (leaves more f : Nat), facesWf fs = true → 0 < more →
        (∀ g, 2 * leaves + 1 < g → facesGet fs g = FaceRec.zero) →
        facesWf (facesRenumber fs leaves (leaves + more)) = true
          ∧ facesGet (facesRenumber fs leaves (leaves + more)) f
              = if f = 2 * (leaves + more) + 1 then facesGet fs (2 * leaves + 1)
                else if f ≤ 2 * leaves then facesGet fs f else FaceRec.zero

/-- CLOSE_VOLUME: the five checks of R28 in their order, the fourth failing exactly when the log holds a capture entry
of status PENDING; otherwise CLOSED is appended with the uncovered count and the capture count, the slot is CLOSED with
its record frozen and its placed-before flag discarded, the tracker is NO_VOLUME, the aiming light dark and the
requested force 0, and the reply carries the slot, the count and the 16 lowest uncovered faces (R12, R29, R42, R68,
R70). A face f is covered when the log holds an ACCEPTED capture entry of opening floor(f/2)+1 whose sides are BOTH, or
LEFT with f even, or RIGHT with f odd; the uncovered faces are those of 0 to 2L+1 that are not, in ascending order
(R29). That the last placed opening is absent after a close is DEDUCED (notes/assumptions/11.md), the form of the
reply's list the model's choice (notes/assumptions/15.md), NO_VOLUME's field index 0 its reading of R164
(notes/assumptions/16.md). -/
def Obligations.CloseVolume : Prop :=
  (∀ v : Volume, hasPending v = true ↔ ∃ e ∈ v.log, ∃ c, e.body = .capture c ∧ c.status = .pending)
    ∧ (∀ (v : Volume),
      (∀ f, f ∈ uncovered v ↔
          f ≤ 2 * v.profile.leaves + 1
            ∧ ∀ e ∈ v.log, ∀ c, e.body = .capture c → c.status = .accepted → e.opening = f / 2 + 1 →
                c.sides ≠ .both ∧ (c.sides = .left → f % 2 = 1) ∧ (c.sides = .right → f % 2 = 0))
        ∧ (uncovered v).Pairwise (fun a b => a < b))
    ∧ ∀ (tag : Nat) (s : State), Ready s →
      match openSlot? s.store.slots with
      | none => Refuses (.closeVolume tag) s 0x03 tag .noVolume 0
      | some (slot, v) =>
        if s.turner.state ≠ .idle ∧ s.turner.state ≠ .halted then Refuses (.closeVolume tag) s 0x03 tag .wrongState 0
        else if s.capture.state ≠ .none ∧ s.capture.state ≠ .released then
          Refuses (.closeVolume tag) s 0x03 tag .wrongState 0
        else if hasPending v = true then Refuses (.closeVolume tag) s 0x03 tag .wrongState 0
        else if checkHolds s.lamps = true then Refuses (.closeVolume tag) s 0x03 tag .busy 0
        else
          Takes (.closeVolume tag) s 0x03 tag
              (fun s =>
                let noted := appendIncident s .closed (uncovered v).length v.captureCount
                let closed :=
                  match noted.store.slots.get slot with
                  | .opened w => setSlot noted slot (.closed { w with placedBefore := false })
                  | _ => noted
                let left := if s.tracker.state = .placed then leavePlaced closed else closed
                { left with
                    tracker := { state := .noVolume, slot := none, n := none, lastPlaced := none, doseLogged := false }
                    mech := { left.mech with glass := { left.mech.glass with requestedForce := 0 } }
                    dose := { left.dose with aiming := none } })
              (taken [u 1 slot.number, u 2 (uncovered v).length,
                .bytes (le 1 ((uncovered v).take 16).length ++ ((uncovered v).take 16).flatMap (le 2))])
            ∧ ∀ t, exec (.closeVolume tag) s = .next t →
                t.store.slots = s.store.slots.set slot (.closed
                  (if freeEntries s = 0 then { v with placedBefore := false, logComplete := false }
                    else
                      { v with
                          placedBefore := false, incidentCount := v.incidentCount + 1
                          log := v.log ++
                            [{ opening := s.tracker.n.getD 0, timestamp := v.clock
                               body := .incident .closed (uncovered v).length v.captureCount }] }))

/-- EXPORT_VOLUME: the three checks of R31 in their order. Otherwise it is taken in every slot state but FREE: the
store fixes the snapshot and the stream runs from then on, one at a time, and the reply carries the slot, the slot
state at the start, N, F and the total number of chunks, 2 + ceil(N/24) + ceil(F/96). Nothing else changes, and no
chunk of the stream waits or goes out yet: the reply is sent before the first one. -/
def Obligations.ExportVolume : Prop :=
  ∀ (tag field : Nat) (s : State), Ready s →
    if 3 < field then Refuses (.exportVolume tag field) s 0x04 tag .badValue 1
    else
      ∃ slot, SlotId.ofNumber? field = some slot ∧ slot.number = field
        ∧ match (s.store.slots.get slot).volume? with
          | none => Refuses (.exportVolume tag field) s 0x04 tag .wrongState 1
          | some v =>
            if s.store.stream.isSome then Refuses (.exportVolume tag field) s 0x04 tag .busy 0
            else
              let faces := 2 * v.profile.leaves + 2
              Takes (.exportVolume tag field) s 0x04 tag
                  (fun s =>
                    { s with
                        store :=
                          { s.store with
                              stream := some
                                { slot := slot, start := (s.store.slots.get slot).state, entries := v.log.length
                                  faces := faces, next := 0
                                  header :=
                                    { profile := v.profile, marks := v.marks, captureCount := v.captureCount
                                      incidentCount := v.incidentCount, restartCount := v.restartCount
                                      logComplete := v.logComplete, dose := v.dose, clock := v.clock } } } })
                  (taken [u 1 field, u 1 (s.store.slots.get slot).state.code, u 2 v.log.length, u 2 faces,
                    u 2 (2 + (v.log.length + 23) / 24 + (faces + 95) / 96)])
                ∧ (s.link.chunkAge = none → ∀ t, exec (.exportVolume tag field) s = .next t →
                    t.link.chunkAge = none
                      ∧ ∀ f, t.link.sending = some f → f.what = .chunk → s.link.sending = some f)

/-- DISCARD_VOLUME: the four checks of R34 in their order; otherwise the EXPORTED slot becomes FREE, no trace of the
volume staying, its log entries and face records return to their pools, and the reply carries the slot and the free
counts after. CLEAR_STORE: refused WRONG_STATE with a slot OPEN and BUSY while a stream runs; otherwise every slot
becomes FREE and the reply carries the number of slots freed and the free counts after; a restart that comes when
`writes` of its writes have been made, which the command carries (the model's choice, notes/assumptions/17.md), finds
the slots freed by them FREE and the rest as they were (R34, R35). The order of the free counts and the width of the
number of slots freed are the model's reading (notes/assumptions/15.md). That CLEAR_STORE is judged WRONG_STATE before
BUSY is the model's choice (notes/assumptions/31.md). -/
def Obligations.SlotsFreed : Prop :=
  (∀ (tag field : Nat) (s : State), Ready s →
      match SlotId.ofNumber? field with
      | none => Refuses (.discardVolume tag field) s 0x05 tag .badValue 1
      | some slot =>
        if streamOf s slot = true then Refuses (.discardVolume tag field) s 0x05 tag .busy 1
        else
          match s.store.slots.get slot with
          | .free => Refuses (.discardVolume tag field) s 0x05 tag .wrongState 1
          | .opened _ => Refuses (.discardVolume tag field) s 0x05 tag .wrongState 1
          | .closed _ => Refuses (.discardVolume tag field) s 0x05 tag .notExported 1
          | .exported v =>
            let after : State := { s with store := { s.store with slots := s.store.slots.set slot .free } }
            Takes (.discardVolume tag field) s 0x05 tag
                (fun s => { s with store := { s.store with slots := s.store.slots.set slot .free } })
                (taken [u 1 slot.number, u 2 (freeFaces after), u 2 (freeEntries after)])
              ∧ usedEntries after.store.slots + v.log.length = usedEntries s.store.slots
              ∧ usedFaces after.store.slots + (2 * v.profile.leaves + 2) = usedFaces s.store.slots)
    ∧ (∀ (tag : Nat) (s : State), Ready s →
      let run : Instr := .clearStore { tag := tag, cut := none }
      if (openSlot? s.store.slots).isSome then Refuses run s 0x06 tag .wrongState 0
      else if s.store.stream.isSome then Refuses run s 0x06 tag .busy 0
      else
        let cleared : Slots := { s0 := .free, s1 := .free, s2 := .free, s3 := .free }
        Takes run s 0x06 tag (fun s => { s with store := { s.store with slots := cleared } })
          (taken [u 1 (SlotId.all.filter fun i => (s.store.slots.get i).state ≠ .free).length, u 2 16384, u 2 16384]))
    ∧ ∀ (tag : Nat) (c : Cut) (s : State),
        let restart : Instr := if c.power then .powerOn c.pins else .resetLine c.pins
        let takes := Ready s ∧ openSlot? s.store.slots = none ∧ s.store.stream = none
        let below (i : SlotId) :=
          (SlotId.all.filter fun j => decide (j.number < i.number) && (s.store.slots.get j).state != .free).length
        ∃ q : Slots,
          exec (.clearStore { tag := tag, cut := some c }) s
              = exec restart { s with store := { s.store with slots := q } }
            ∧ (takes → ∀ i, q.get i = if below i < c.writes then .free else s.store.slots.get i)
            ∧ (¬ takes → q = s.store.slots)

/-- The requests that read: each is taken in every state, carries what its rule lists as it stands, and changes nothing
(R19, R36, R37, R64, R81, R103, R138, R167), item by item, an item with no value absent, and the codes of their
enumerations and sets are those of R170 and R171. READ_FACES makes the four checks of R37 in their order; IDENTIFY
carries the vendor string, the part string, the silicon revision, the serial number and the latched rate. The layouts
that chapter 11 leaves to be counted are the model's choice (notes/assumptions/15.md), the serial number is free
(notes/assumptions/18.md). -/
def Obligations.ReadsChangeNothing : Prop :=
  (∀ (tag : Nat) (s : State), Ready s →
      Takes (.listVolumes tag) s 0x07 tag id
          (taken (listItems s.store.slots.s0 ++ listItems s.store.slots.s1 ++ listItems s.store.slots.s2
            ++ listItems s.store.slots.s3
            ++ [u 2 (freeEntries s), u 2 (freeFaces s), ou 1 (s.store.stream.map fun t => t.slot.number)]))
        ∧ Takes (.readOpening tag) s 0x0C tag id (.own .taken 2 (openingItems s))
        ∧ Takes (.readTurner tag) s 0x15 tag id (taken (turnerItems s))
        ∧ Takes (.readMechanics tag) s 0x1B tag id (taken (mechanicsItems s))
        ∧ Takes (.readLamps tag) s 0x27 tag id (taken (lampItems s))
        ∧ Takes (.readCapture tag) s 0x35 tag id (taken (captureReadItems s.capture))
        ∧ ∀ field first count : Nat,
            match SlotId.ofNumber? field with
            | none => Refuses (.readFaces tag field first count) s 0x08 tag .badValue 1
            | some slot =>
              match (s.store.slots.get slot).volume? with
              | none => Refuses (.readFaces tag field first count) s 0x08 tag .wrongState 1
              | some v =>
                if count = 0 ∨ 96 < count then Refuses (.readFaces tag field first count) s 0x08 tag .badValue 3
                else if 2 * v.profile.leaves + 2 < first + count then
                  Refuses (.readFaces tag field first count) s 0x08 tag .badValue 2
                else
                  Takes (.readFaces tag field first count) s 0x08 tag id
                    (taken [.bytes (le 1 count ++ (List.range count).flatMap fun k =>
                      let r := facesGet v.faces (first + k)
                      le 4 r.dose.whole ++ le 2 r.dose.rem ++ le 2 r.exposures)]))
    ∧ (∀ (tag : Nat) (s : State), Ready s →
      Takes (.identify tag) s 0x48 tag id
        (taken
          [ .bytes (padTo 8 ("MONTRICK".toList.map fun c => BitVec.ofNat 8 c.toNat)),
            .bytes (padTo 8 ("TRG218".toList.map fun c => BitVec.ofNat 8 c.toNat)),
            u 1 1, .bytes (le 8 serialNumber.toNat), u 4 s.link.rate ]))
    ∧ (∀ s : State,
      let flag (b : Bool) : Item := u 1 (if b = true then 1 else 0)
      let first (b : Bool) : Nat := if b = true then 0 else 1
      let rests (side : Side) : Bool :=
        decide (s.pins.position.get side = (s.mech.platens.get side).setpoint)
          && !(s.mech.platens.get side).pending
      let turns := decide (s.pins.angle = s.mech.angleTarget) && !s.mech.anglePending
      let clamp (v : Nat) : Nat := if 80000 < v then 80000 else v
      let volume := (openSlot? s.store.slots).map Prod.snd
      let record (r : FaceRec) : List Byte := le 4 r.dose.whole ++ le 2 r.dose.rem ++ le 2 r.exposures
      let mark (m : Mark) : List Byte :=
        le 2 m.leaf ++ le 1 ((if m.kinds.foldout = true then 1 else 0) + (if m.kinds.plate = true then 2 else 0)
          + if m.kinds.hold = true then 4 else 0)
      let opening (left right first second platens : Option (List Byte)) : List Item :=
        [ u 1 s.tracker.state.code, ou 1 (s.tracker.slot.map SlotId.number), ou 2 s.tracker.n, ou 2 s.tracker.lastPlaced,
          u 1 ((if volume.map Volume.placedBefore = some true then 1 else 0)
            + if s.tracker.doseLogged = true then 2 else 0),
          ou 2 (volume.map fun v => v.profile.leaves), .opt 13 left, .opt 13 right, .opt 3 first, .opt 3 second,
          u 1 s.turner.state.code, u 1 s.capture.state.code, u 1 s.pause.state.code, .opt 9 platens ]
      let list (q : Slot) : List Item :=
        [ u 1 q.state.code,
          .opt 62 (q.volume?.map fun v =>
            v.profile.shelfMark ++ List.replicate (40 - v.profile.shelfMark.length) 0 ++ le 1 v.profile.partNumber
              ++ le 2 v.profile.leaves ++ le 2 v.captureCount ++ le 2 v.incidentCount ++ le 2 v.restartCount
              ++ le 1 (if v.logComplete = true then 1 else 0) ++ le 4 v.dose.whole ++ le 2 v.dose.rem ++ le 4 v.clock
              ++ le 2 v.log.length) ]
      let platen (side : Side) : List Item :=
        let p := s.mech.platens.get side
        let target := s.mech.targets.map fun t => t.get side
        [ .opt 8 (target.map fun v => le 4 (clamp v) ++ le 4 v),
          flag (match target with | some v => decide (80000 < v) | none => false), flag p.logged, u 4 p.setpoint,
          u 4 (s.pins.position.get side), u 1 (first (rests side)), flag p.pending ]
      let l := s.lamps
      let bank (b : Bank) : List Item :=
        [u 1 (l.health.get b).code, ou 2 (l.fullScale.get b), ou 2 (l.lastReading.get b), u 2 (l.drive.get b)]
      let held : Option Check := match l.holder with | .check c => some c | _ => none
      let faces (b : BoundFaces) : List Byte := le 2 b.faces.left ++ le 2 b.faces.right
      let number (b : Bank) : Nat := match b with | .la => 0 | .lb => 1 | .ra => 2 | .rb => 3
      let pulsed (r : CheckRecord) (b : Bank) : Nat := if (r.results.get b).isSome = true then 1 else 0
      let result (r : CheckRecord) (b : Bank) : List Byte :=
        match r.results.get b with
        | some x => le 2 x.reading ++ le 1 x.verdict.code
        | none => []
      let c := s.capture
      let side (x : Side) : List Item :=
        [u 1 (c.progress.get x).code, ou 4 ((c.frame.get x).map BitVec.toNat), u 1 (first (c.receipt.get x)),
          u 2 (c.duration.get x)]
      let t := s.turner
      let g := s.mech.glass
      (∀ q, listItems q = list q)
        ∧ (s.tracker.state ≠ .placed → openingItems s = opening none none none none none)
        ∧ (∀ v n, volume = some v → s.tracker.state = .placed → s.tracker.n = some n → 1 ≤ n →
          let shown := v.marks.filter fun m => m.leaf + 1 = n ∨ m.leaf = n
          let left : List Byte :=
            le 2 (2 * n - 2) ++ le 1 (if n = 1 then 0 else 2)
              ++ le 2 (if n = 1 then 0 else v.profile.firstFolio + (n - 1) - 1) ++ record (facesGet v.faces (2 * n - 2))
          let right : List Byte :=
            le 2 (2 * n - 1) ++ le 1 (if n = v.profile.leaves + 1 then 3 else 1)
              ++ le 2 (if n = v.profile.leaves + 1 then 0 else v.profile.firstFolio + n - 1)
              ++ record (facesGet v.faces (2 * n - 1))
          openingItems s
            = opening (some left) (some right) (shown[0]?.map mark) (shown[1]?.map mark)
              (s.mech.targets.map fun w =>
                le 4 (clamp w.left) ++ le 4 (clamp w.right) ++ le 1 (first (rests .left && rests .right))))
        ∧ turnerItems s
          = [ u 1 t.state.code, u 1 t.step.code, ou 1 (t.purpose.map Purpose.code), ou 1 (t.direction.map Direction.code),
              ou 1 (t.manual.map first), ou 2 t.leaf, ou 1 (t.plateHeld.map first), ou 1 t.attempt, ou 1 t.airLevel,
              ou 1 t.lastCount, u 1 t.lastOutcome.code, u 1 (first t.parkWaiting), u 1 (first t.cupHeld),
              u 2 t.settings.reach, u 2 t.settings.lift, u 2 t.settings.carry, u 2 t.settings.lay, u 2 t.settings.ret,
              u 1 t.settings.limit, flag s.pins.home, flag s.pins.farEnd, flag s.pins.hold, flag s.pins.cupEmpty ]
        ∧ mechanicsItems s
          = platen .left ++ platen .right
            ++ [ u 1 g.state.code, u 2 g.requestedForce,
                 .opt 6 (g.press.map fun p => le 2 p.target ++ le 2 p.pressedAt ++ le 2 p.overforceAt),
                 u 2 s.pins.force, u 1 (first g.claim), flag g.heldPress, u 1 g.waiters.length,
                 u 1 (match g.fault with | .none => 0 | .timeout _ => 1 | .overforce _ => 2),
                 u 2 (match g.fault with | .none => 0 | .timeout f => f | .overforce f => f),
                 u 1 s.mech.angleTarget, u 1 s.pins.angle, u 1 (first turns), flag s.mech.anglePending,
                 ou 1 (volume.map fun v => v.profile.angleLimit),
                 u 1 (first (rests .left && rests .right && turns
                   && decide (g.state ≠ .lowering) && decide (g.state ≠ .raising))) ]
        ∧ lampItems s
          = [ u 1 l.supply.code,
              ou 2 (if l.supply = .settling then some ((l.settleRun * 1000 - l.settleUs + 999) / 1000) else none) ]
            ++ bank .la ++ bank .lb ++ bank .ra ++ bank .rb
            ++ [ u 1 (sideStatus l .left).code, u 1 (sideStatus l .right).code,
                 u 2 l.duration.left, u 2 l.duration.right, u 2 l.spill, u 1 l.aimingLevel, u 1 l.restLevel,
                 flag l.aimingCut, flag s.dose.aiming.isSome, u 2 l.tRest, u 2 l.tDark, u 2 l.tSupply,
                 u 1 l.idleStage.code, u 2 l.idleElapsed, u 2 l.settle, u 4 l.reservoir, u 1 l.counter, u 1 l.interval,
                 flag l.rotation, u 1 (number l.pointer), flag l.fullCheck, u 2 l.tolerance, u 2 l.failLimit,
                 u 2 l.deferrals, u 1 (match l.holder with | .free => 0 | .capture => 1 | .check _ => 2),
                 u 1 ((if l.waitingCapture = true then 1 else 0) + if l.waitingCheck.isSome = true then 2 else 0),
                 .opt 3 (held.map fun c =>
                   le 1 c.kind.code ++ le 1 (bankSetCode c.banks) ++ le 1 ((c.remaining.head?.map number).getD 0)),
                 .opt 4 (held.bind fun c => c.bound.map faces),
                 .opt 3 (l.lastCheck.map fun r =>
                   le 1 r.kind.code ++ le 1 (bankSetCode r.banks)
                     ++ le 1 (pulsed r .la + pulsed r .lb + pulsed r .ra + pulsed r .rb)
                     ++ result r .la ++ result r .lb ++ result r .ra ++ result r .rb),
                 .opt 4 (l.lastCheck.bind fun r => r.bound.map faces),
                 ou 1 (l.lastCheck.map fun r =>
                   match r.outcome with | .complete => 0 | .endedHood => 1 | .endedUncertain => 2 | .refusedDose => 3),
                 flag s.pause.hoodOpen ]
        ∧ captureReadItems c
          = [ u 1 c.state.code, flag c.voiding, ou 1 (c.sides.map CaptureSides.code), ou 2 c.opening, ou 1 c.take,
              ou 1 (c.hold.map first), ou 1 (c.release.map ReleaseMode.code), ou 1 (c.manual.map first) ]
            ++ side .left ++ side .right
            ++ [ u 1 c.flags.code, ou 2 c.entry, .bytes c.lastOutcome.codes, u 4 c.counter.left.toNat,
                 u 4 c.counter.right.toNat, u 1 c.releaseMode.code, u 2 c.timeout, u 2 c.strobeDelay.left,
                 u 2 c.strobeDelay.right, flag c.pedalCapture ])
    ∧ [SlotState.free, .opened, .closed, .exported].map SlotState.code = [0, 1, 2, 3]
    ∧ [TrackerState.noVolume, .unplaced, .placed, .uncertain].map TrackerState.code = [0, 1, 2, 3]
    ∧ [TurnerState.idle, .reach, .lift, .separate, .restore, .carry, .lay, .ret, .manualWait, .halted].map
        TurnerState.code = [0, 1, 2, 3, 4, 5, 6, 7, 8, 9]
    ∧ [CaptureState.none, .arming, .exposing, .receiptWait, .acceptWait, .released].map CaptureState.code
        = [0, 1, 2, 3, 4, 5]
    ∧ [PauseState.running, .paused, .pausedBroken].map PauseState.code = [0, 1, 2]
    ∧ [Supply.off, .settling, .ready].map Supply.code = [0, 1, 2]
    ∧ [CaptureSides.both, .left, .right].map CaptureSides.code = [1, 2, 3]
    ∧ [Direction.forward, .back].map Direction.code = [1, 2]
    ∧ [TurnerStep.glassWait, .running].map TurnerStep.code = [0, 1]
    ∧ [Purpose.turn, .failureReturn, .park].map Purpose.code = [0, 1, 2]
    ∧ [TurnOutcome.none, .done, .failed, .glassFailed, .cancelled, .timeout, .broken, .parked, .parkFailed].map
        TurnOutcome.code = [0, 1, 2, 3, 4, 5, 6, 7, 8]
    ∧ [GlassState.raised, .lowering, .pressed, .raising, .halted].map GlassState.code = [0, 1, 2, 3, 4]
    ∧ [ReleaseMode.onReceipt, .onAccept].map ReleaseMode.code = [0, 1]
    ∧ [Health.uncalibrated, .good, .failed].map Health.code = [0, 1, 2]
    ∧ [SideStatus.noLight, .notCalibrated, .usable true, .usable false].map SideStatus.code = [0, 1, 2, 3]
    ∧ [IdleStage.active, .rest, .dark, .expired].map IdleStage.code = [0, 1, 2, 3]
    ∧ [CheckKind.requested, .periodic, .full].map CheckKind.code = [0, 1, 2]
    ∧ [Verdict.accepted, .failed, .drift].map Verdict.code = [0, 1, 2]
    ∧ [Progress.notRequested, .triggered, .delay, .lit, .awaitFall, .done].map Progress.code = [0, 1, 2, 3, 4, 5]
    ∧ [EntryStatus.pending, .accepted, .rejected, .void].map EntryStatus.code = [0, 1, 2, 3]
    ∧ [CaptureOutcome.none, .released, .rejected, .voidTimeout, .voidStop, .voidGlass, .endedGlass, .endedLight, .endedDose,
        .endedStore].map CaptureOutcome.codes
        = [[0, 0], [1, 0], [2, 0], [3, 0], [4, 0], [5, 0], [6, 0], [7, 0], [8, 0], [9, 0]]
    ∧ (∀ r : Reason, (CaptureOutcome.refused r).codes = [10, BitVec.ofNat 8 r.number])
    ∧ (∀ q : BankSet,
      bankSetCode q
        = (if q.la = true then 1 else 0) + (if q.lb = true then 2 else 0) + (if q.ra = true then 4 else 0)
          + if q.rb = true then 8 else 0)
    ∧ ∀ f : EntryFlags,
      f.code
        = (if f.under = true then 1 else 0) + (if f.singleBank = true then 2 else 0)
          + (if f.focusLimit = true then 4 else 0) + (if f.noGlass = true then 8 else 0)
          + if f.manual = true then 16 else 0

/-- SET_MARK: the four checks of R8 in their order; otherwise the leaf's record holds exactly the given kinds, every
other record stays and the list stays in leaf order. CLEAR_MARK: the checks of R9; otherwise the leaf's record is
removed, the others keeping their order, and a list without it is unchanged. Both replies carry the leaf and the number
of records (R7 to R9). The field index 0 of STORE_FULL is the model's reading of R164 (notes/assumptions/16.md). -/
def Obligations.MarksEdited : Prop :=
  (∀ (tag leaf kinds : Nat) (s : State), Ready s →
      match openSlot? s.store.slots with
      | none => Refuses (.setMark tag leaf kinds) s 0x09 tag .noVolume 0
      | some (slot, v) =>
        if leaf = 0 ∨ v.profile.leaves < leaf then Refuses (.setMark tag leaf kinds) s 0x09 tag .badValue 1
        else if kinds = 0 ∨ 8 ≤ kinds then Refuses (.setMark tag leaf kinds) s 0x09 tag .badValue 2
        else if 64 ≤ v.marks.length ∧ (∀ m ∈ v.marks, m.leaf ≠ leaf) then
          Refuses (.setMark tag leaf kinds) s 0x09 tag .storeFull 0
        else
          ∃ marks, Takes (.setMark tag leaf kinds) s 0x09 tag
              (fun s => setSlot s slot (.opened { v with marks := marks })) (taken [u 2 leaf, u 1 marks.length])
            ∧ (v.marks.Pairwise (fun a b => a.leaf < b.leaf) →
                marks.Pairwise (fun a b => a.leaf < b.leaf)
                  ∧ ∀ m, m ∈ marks ↔
                      (m.leaf ≠ leaf ∧ m ∈ v.marks)
                        ∨ m = { leaf := leaf
                                kinds :=
                                  { foldout := kinds.testBit 0, plate := kinds.testBit 1, hold := kinds.testBit 2 } }))
    ∧ (∀ (tag leaf : Nat) (s : State), Ready s →
      match openSlot? s.store.slots with
      | none => Refuses (.clearMark tag leaf) s 0x0A tag .noVolume 0
      | some (slot, v) =>
        if leaf = 0 ∨ v.profile.leaves < leaf then Refuses (.clearMark tag leaf) s 0x0A tag .badValue 1
        else
          let marks := v.marks.filter fun m => m.leaf ≠ leaf
          Takes (.clearMark tag leaf) s 0x0A tag (fun s => setSlot s slot (.opened { v with marks := marks }))
              (taken [u 2 leaf, u 1 marks.length])
            ∧ ((∀ m ∈ v.marks, m.leaf ≠ leaf) → marks = v.marks)
            ∧ ((∃ m ∈ v.marks, m.leaf = leaf) → marks.length < v.marks.length))

/-- One second of the volume clock: the OPEN volume's clock advances by one and holds at 4,294,967,295; with no volume
OPEN nothing changes (R23). -/
def Obligations.VolumeClockAdvances : Prop :=
  ∀ s : State,
    match openSlot? s.store.slots with
    | none => Does .volumeClockTick s s
    | some (slot, v) =>
      Does .volumeClockTick s (setSlot s slot (.opened { v with clock := min (v.clock + 1) 4294967295 }))

/-- An incident append: stored at the end of the log with n or 0 as its opening and the clock as its timestamp while a
log entry is free, the last ones included, STORE LOW following at 256 or fewer left; otherwise lost, with the
log-complete flag cleared and STORE INCIDENT_LOST latched. With no volume OPEN the store takes nothing (R30, R38, R42).
The kinds are numbered as section 11.6 lists them. -/
def Obligations.IncidentAppend : Prop :=
  (∀ (s : State) (kind : IncidentKind) (detail second : Nat),
    (openSlot? s.store.slots = none → appendIncident s kind detail second = s)
      ∧ ∀ slot v, openSlot? s.store.slots = some (slot, v) →
          if freeEntries s = 0 then
            appendIncident s kind detail second
              = latch (setSlot s slot (.opened { v with logComplete := false })) (.storeLost kind.code)
          else
            let stored := setSlot s slot (.opened
              { v with
                  incidentCount := v.incidentCount + 1
                  log := v.log ++
                    [{ opening := s.tracker.n.getD 0, timestamp := v.clock, body := .incident kind detail second }] })
            appendIncident s kind detail second
              = if freeEntries s ≤ 257 then latch stored (.storeLow (freeEntries s - 1)) else stored)
    ∧ [IncidentKind.doubleLeaf, .noLift, .turnFailed, .turnTimeout, .manualTurn, .skipped, .pauseBroken, .reseat,
        .restart, .strayFrame, .lampDrift, .lampFailed, .doseLimit, .platenLimit, .glassFault, .extended, .closed].map
        IncidentKind.code = [1, 2, 3, 4, 5, 6, 7, 8, 9, 10, 11, 12, 13, 14, 15, 16, 17]

/-- From the write that makes a slot CLOSED until the one that makes it FREE its record does not change: whatever
command runs, a CLOSED slot's record is afterwards the same, CLOSED or EXPORTED, or the slot is FREE, and likewise from
EXPORTED (R20, R30). -/
def Obligations.FrozenRecordsStay : Prop :=
  ∀ (s t : State) (slot : SlotId) (v : Volume), step s = .next t →
    (s.store.slots.get slot = .closed v →
        t.store.slots.get slot = .closed v ∨ t.store.slots.get slot = .exported v ∨ t.store.slots.get slot = .free)
      ∧ (s.store.slots.get slot = .exported v →
          t.store.slots.get slot = .exported v ∨ t.store.slots.get slot = .free)

/-! ## The Dose Unit (chapter 6) -/

/-- A charge is exact: it adds its doses to the two face totals and their sum to the volume total, splits each total
into whole lx·s and a remainder below 1000, and leaves every other face and item of the record. It is one write to the
OPEN volume, and with no volume OPEN the store takes none. A strobe's charge raises by one the exposure count of its
own face, held at 65535; the charge of a pulse or of an aiming interval, and spill, change no count. A settle rewrites
the two face totals and the volume total to the values stated for it, split in the same way, leaves the counts, and is
taken for the OPEN volume alone (R107). -/
def Obligations.ChargeIsExact : Prop :=
  (∀ (faces dose : Sides Nat) (own : Option Side) (v : Volume), facesWf v.faces = true → faces.left ≠ faces.right →
      let w := chargeVolume faces dose own v
      facesWf w.faces = true
        ∧ (∀ side, (facesGet w.faces (faces.get side)).dose.total
              = (facesGet v.faces (faces.get side)).dose.total + dose.get side
            ∧ (facesGet w.faces (faces.get side)).dose.rem < 1000
            ∧ (facesGet w.faces (faces.get side)).exposures
                = if own = some side then min ((facesGet v.faces (faces.get side)).exposures + 1) 65535
                  else (facesGet v.faces (faces.get side)).exposures)
        ∧ w.dose.total = v.dose.total + dose.left + dose.right ∧ w.dose.rem < 1000
        ∧ (∀ f, f ≠ faces.left → f ≠ faces.right → facesGet w.faces f = facesGet v.faces f)
        ∧ w = { v with faces := w.faces, dose := w.dose })
    ∧ (∀ (faces totals : Sides Nat) (volumeTotal : Nat) (v : Volume), facesWf v.faces = true →
      faces.left ≠ faces.right → Rewritten v (settleVolume faces totals volumeTotal v) faces totals volumeTotal)
    ∧ (∀ (s : State) (faces dose : Sides Nat) (own : Option Side),
      (openSlot? s.store.slots = none → charge s faces dose own = s)
        ∧ ∀ slot v, openSlot? s.store.slots = some (slot, v) →
            (charge s faces dose own).store
              = { s.store with slots := s.store.slots.set slot (.opened (chargeVolume faces dose own v)) })
    ∧ (∀ (s : State) (slot : SlotId) (v : Volume), openSlot? s.store.slots = some (slot, v) →
      let written (faces dose : Sides Nat) (own : Option Side) : Store :=
        { s.store with slots := s.store.slots.set slot (.opened (chargeVolume faces dose own v)) }
      (∀ side n, s.capture.opening = some n →
          (chargeStrobe s side).store
            = written { left := 2 * n - 2, right := 2 * n - 1 }
              (strobeDose s.lamps s.lamps.fixedBanks side (s.lamps.duration.get side)) (some side))
        ∧ (∀ bound b, bound.slot = slot →
          (chargePulse s bound b).store = written bound.faces (pulseDose s.lamps b 60000) none)
        ∧ ∀ n, s.tracker.n = some n →
          let faces : Sides Nat := { left := 2 * n - 2, right := 2 * n - 1 }
          let lux := aimFaces s.lamps (stageLevel s.lamps)
          let dose : Sides Nat := { left := lux.left * 100, right := lux.right * 100 }
          predict v faces dose = none → (aimStart s).store = written faces dose none)
    ∧ ∀ s : State,
      (∀ side actual, (∀ r, s.dose.captureSettle = some r → (s.store.slots.get r.slot).state ≠ .opened) →
          (settleStrobe s side actual).store = s.store)
        ∧ ∀ reading, (∀ p, s.dose.pulseSettle = some p → (s.store.slots.get p.bound.slot).state ≠ .opened) →
            (settlePulse s reading).store = s.store

/-- A prediction passes exactly when the three tests of R108 hold, and a charge whose prediction passes leaves neither
face above the page allowance nor the volume above the volume allowance. The first test that fails, of the left face,
the right face and the volume in that order, names the failure: the face's number, or 65535 (R108). A check is predicted
by the sum of its pulses, 12,000 lx·ms on a bank's own side and 12 × s on the other, with further doses added where a
rule says so, against the faces of the current opening or those it has bound; one with no bound faces is not predicted
(R97, R98, R114). The doses it is made of: a bank at a level gives ceil(F_b × d / 1000) lux, a side the sum over its
banks that fire, the other face the spill ceil(E × s / 1000), and a flash of t µs on a face ceil(E × t / 1000) lx·ms,
the spill rounded before the dose; a capture's dose is the sum over its requested sides at their set durations (R105,
R106); the aiming light gives each face its own side's GOOD banks at the stage's level and the spill of the other side
(R116). A charge is judged after its write: for the left face, the right face and the volume in that order, a total
carried from below w % of its allowance to at or above it latches DOSE WARN with the face's number or 65535, and a
settle latches nothing (R119). That every command keeps the law of R108 is StepsKeepTheAllowances. -/
def Obligations.PredictedChargesKeepTheAllowances : Prop :=
  (∀ (faces dose : Sides Nat) (own : Option Side) (v : Volume), facesWf v.faces = true → faces.left ≠ faces.right →
      let page := v.profile.pageAllowance * 1000
      let whole := v.profile.volumeAllowance * 1000
      (predict v faces dose = none ↔
          (facesGet v.faces faces.left).dose.total + dose.left ≤ page
            ∧ (facesGet v.faces faces.right).dose.total + dose.right ≤ page
            ∧ v.dose.total + dose.left + dose.right ≤ whole)
        ∧ (page < (facesGet v.faces faces.left).dose.total + dose.left → predict v faces dose = some faces.left)
        ∧ ((facesGet v.faces faces.left).dose.total + dose.left ≤ page →
            page < (facesGet v.faces faces.right).dose.total + dose.right → predict v faces dose = some faces.right)
        ∧ ((facesGet v.faces faces.left).dose.total + dose.left ≤ page →
            (facesGet v.faces faces.right).dose.total + dose.right ≤ page →
            whole < v.dose.total + dose.left + dose.right → predict v faces dose = some 65535)
        ∧ (predict v faces dose = none →
            (∀ f, (facesGet v.faces f).dose.total ≤ page →
                (facesGet (chargeVolume faces dose own v).faces f).dose.total ≤ page)
              ∧ (chargeVolume faces dose own v).dose.total ≤ whole))
    ∧ (∀ (l : Lamps) (banks : BankSet) (level t : Nat) (sides : CaptureSides),
      let up (a : Nat) : Nat := (a + 999) / 1000
      let lux (b : Bank) (level : Nat) : Nat := up ((l.fullScale.get b).getD 0 * level)
      let fired (b : Bank) : Nat := if banks.get b = true then lux b (l.drive.get b) else 0
      let aimed (b : Bank) : Nat := if l.health.get b = .good then lux b level else 0
      let strobe : Sides Nat := { left := fired .la + fired .lb, right := fired .ra + fired .rb }
      let aim : Sides Nat := { left := aimed .la + aimed .lb, right := aimed .ra + aimed .rb }
      let gives (e t : Nat) : Nat × Nat := (up (e * t), up (up (e * l.spill) * t))
      let onLeft : Nat × Nat := gives strobe.left l.duration.left
      let onRight : Nat × Nat := gives strobe.right l.duration.right
      strobeDose l banks .left t = { left := (gives strobe.left t).1, right := (gives strobe.left t).2 }
        ∧ strobeDose l banks .right t = { left := (gives strobe.right t).2, right := (gives strobe.right t).1 }
        ∧ captureDose l banks sides
          = (match sides with
            | .both => { left := onLeft.1 + onRight.2, right := onLeft.2 + onRight.1 }
            | .left => { left := onLeft.1, right := onLeft.2 }
            | .right => { left := onRight.2, right := onRight.1 })
        ∧ aimFaces l level
          = { left := aim.left + up (aim.right * l.spill), right := aim.right + up (aim.left * l.spill) })
    ∧ (∀ (s : State) (slot : SlotId) (v : Volume) (faces dose : Sides Nat) (own : Option Side),
      openSlot? s.store.slots = some (slot, v) →
      let w := chargeVolume faces dose own v
      let warns (u : State) (level before after named : Nat) : State :=
        if before < level ∧ level ≤ after then latch u (.doseWarn named) else u
      let face (u : State) (f : Nat) : State :=
        warns u (v.profile.pageAllowance * v.profile.warning * 10) (facesGet v.faces f).dose.total
          (facesGet w.faces f).dose.total f
      charge s faces dose own
        = warns
          (face
            (face { s with store := { s.store with slots := s.store.slots.set slot (.opened w) } } faces.left)
            faces.right)
          (v.profile.volumeAllowance * v.profile.warning * 10) v.dose.total w.dose.total 65535)
    ∧ (∀ (s : State) (c : Check) (more : Sides Nat),
      let own (b : Bank) : Nat := if c.banks.get b = true then 12000 else 0
      let spill (b : Bank) : Nat := if c.banks.get b = true then 12 * s.lamps.spill else 0
      let pulses : Sides Nat :=
        { left := own .la + own .lb + spill .ra + spill .rb, right := own .ra + own .rb + spill .la + spill .lb }
      checkDose s.lamps c.banks = pulses
        ∧ boundNow s
          = (match s.tracker.state, s.tracker.slot, s.tracker.n with
            | .placed, some slot, some n => some { slot := slot, faces := { left := 2 * n - 2, right := 2 * n - 1 } }
            | _, _, _ => none)
        ∧ predictCheck s c none more = none
        ∧ ∀ b : BoundFaces,
          predictCheck s c (some b) more
            = (match s.store.slots.get b.slot with
              | .opened v =>
                predict v b.faces { left := pulses.left + more.left, right := pulses.right + more.right }
              | _ => none))
    ∧ ∀ (s : State) (side : Side) (actual reading : Nat),
      (settleStrobe s side actual).summary = s.summary ∧ (settlePulse s reading).summary = s.summary

/-- A settle never raises a total above the charge it corrects: a strobe's dose at an actual duration up to the set one
is at most its dose at the set duration, and a pulse's dose at a reading up to 60000 lux at most its predicted dose, on
both faces (R106, R112, R114, R115). A pulse's charge keeps the totals before it and adds 12000 lx·ms to the face of
the bank's side and 12 lx·ms for each ‰ of spill to the other (R114, R115). A pulse's settle rewrites the totals to
those before it with the dose of the reading added, and clears its record (R115). The end of a strobe records its
actual doses and rewrites the totals to those before the capture's first charge with what each side counts added: its
actual doses once it has ended, its predicted ones while it is lit, nothing before it has started (R112). Once no
strobe is lit and none may start any more, the record is cleared and the sums are the entry's face doses (R112). A
settle leaves the exposure counts and every other face (R107). -/
def Obligations.SettlesNeverRaise : Prop :=
  (∀ (l : Lamps) (banks : BankSet) (side face : Side) (b : Bank) (t t' r : Nat), t ≤ t' → r ≤ 60000 →
        (strobeDose l banks side t).get face ≤ (strobeDose l banks side t').get face
          ∧ (pulseDose l b r).get face ≤ (pulseDose l b 60000).get face
          ∧ (pulseDose l b 60000).get face = if face = b.side then 12000 else 12 * l.spill)
    ∧ (∀ (s : State) (v : Volume) (bound : BoundFaces) (b : Bank),
      openSlot? s.store.slots = some (bound.slot, v) →
      let dose : Sides Nat :=
        { left := if b.side = .left then 12000 else 12 * s.lamps.spill
          right := if b.side = .right then 12000 else 12 * s.lamps.spill }
      (chargePulse s bound b).dose
          = { s.dose with
                pulseSettle := some
                  { bound := bound
                    before :=
                      { left := (facesGet v.faces bound.faces.left).dose.total
                        right := (facesGet v.faces bound.faces.right).dose.total }
                    volumeBefore := v.dose.total, bank := b, predicted := dose } }
        ∧ (chargePulse s bound b).store
          = { s.store with
                slots := s.store.slots.set bound.slot (.opened (chargeVolume bound.faces dose none v)) })
    ∧ (∀ (s : State) (p : PulseSettle) (v : Volume) (r : Nat), s.dose.pulseSettle = some p →
      s.store.slots.get p.bound.slot = .opened v → facesWf v.faces = true →
      p.bound.faces.left ≠ p.bound.faces.right →
      let own := (r * 200 + 999) / 1000
      let other := ((r * s.lamps.spill + 999) / 1000 * 200 + 999) / 1000
      ∃ w, settlePulse s r
            = { s with
                  dose := { s.dose with pulseSettle := none }
                  store := { s.store with slots := s.store.slots.set p.bound.slot (.opened w) } }
        ∧ Rewritten v w p.bound.faces
            { left := p.before.left + if p.bank.side = .left then own else other
              right := p.before.right + if p.bank.side = .right then own else other }
            (p.volumeBefore + own + other))
    ∧ (∀ (s : State) (q : CaptureSettle), s.dose.captureSettle = some q →
      closeSettle s
        = if StrobesOutstanding s.capture then s
          else
            { s with
                dose := { s.dose with captureSettle := none }
                capture :=
                  { s.capture with
                      faceDoses :=
                        { left := (strobeCounts q .left).left + (strobeCounts q .right).left
                          right := (strobeCounts q .left).right + (strobeCounts q .right).right } } })
    ∧ ∀ (s : State) (q : CaptureSettle) (v : Volume) (side : Side) (actual : Nat) (next : Progress),
      s.dose.captureSettle = some q → s.store.slots.get q.slot = .opened v → facesWf v.faces = true →
      q.faces.left ≠ q.faces.right →
      let q' : CaptureSettle :=
        { q with actual := q.actual.set side (some (strobeDose s.lamps s.lamps.fixedBanks side actual)) }
      let sum (face : Side) := (strobeCounts q' .left).get face + (strobeCounts q' .right).get face
      ∃ w, endStrobe s side actual next
            = closeSettle
              { s with
                  capture :=
                    { s.capture with
                        duration := s.capture.duration.set side actual
                        progress := s.capture.progress.set side next, litUs := s.capture.litUs.set side 0 }
                  dose := { s.dose with captureSettle := some q' }
                  store := { s.store with slots := s.store.slots.set q.slot (.opened w) } }
        ∧ Rewritten v w q.faces { left := q.before.left + sum .left, right := q.before.right + sum .right }
            (q.volumeBefore + sum .left + sum .right)

/-! ## The Opening Tracker (sections 1.3 to 1.6) -/

/-- What starts a visit and what ends it. A visit starts PLACED at n with the dose-limit-logged flag clear, the
capture's items absent (a capture that awaited receipts or acceptance VOID), the aiming cut flag clear and the aiming
interval abandoned, the targets computed and each clamped side logged, left then right. Leaving PLACED keeps n as the
last placed opening and takes the targets away (R15, R65, R67, R68, R88, R117, R135). -/
def Obligations.VisitsStartAndEnd : Prop :=
  ∀ (s : State) (n : Nat) (slot : SlotId) (v : Volume), openSlot? s.store.slots = some (slot, v) →
    s.capture.state ≠ .arming → s.capture.state ≠ .exposing →
    let waits := s.capture.state = .receiptWait ∨ s.capture.state = .acceptWait
    let voided := if waits then setPendingStatus s .void else s
    let cleared : Capture :=
      { Capture.restarted s.capture.releaseMode with
          counter := s.capture.counter, timeout := s.capture.timeout, strobeDelay := s.capture.strobeDelay
          pedalCapture := s.capture.pedalCapture
          lastOutcome := if waits then .voidStop else s.capture.lastOutcome }
    let targets : Sides Nat :=
      { left := (n - 1) * v.profile.thickness, right := (v.profile.leaves + 1 - n) * v.profile.thickness }
    let tracker : Tracker := { s.tracker with state := .placed, n := some n, doseLogged := false }
    let noted := if 80000 < targets.left then appendIncident { voided with tracker := tracker } .platenLimit 1 targets.left
      else { voided with tracker := tracker }
    let both := if 80000 < targets.right then appendIncident noted .platenLimit 2 targets.right else noted
    apart (visitStart s n)
        = apart
          { both with
              capture := cleared
              lamps := { s.lamps with aimingCut := false }
              dose := { s.dose with aiming := none }
              mech :=
                { s.mech with
                    targets := some targets
                    platens :=
                      { left := { s.mech.platens.left with logged := decide (80000 < targets.left) }
                        right := { s.mech.platens.right with logged := decide (80000 < targets.right) } } } }
      ∧ apart (leavePlaced s)
        = apart
          { voided with
              tracker := { s.tracker with n := none, lastPlaced := s.tracker.n, doseLogged := false }
              capture := cleared
              lamps := { s.lamps with aimingCut := false }
              dose := { s.dose with aiming := none }
              mech :=
                { s.mech with
                    targets := none
                    platens :=
                      { left := { s.mech.platens.left with logged := false }
                        right := { s.mech.platens.right with logged := false } } } }

/-- PLACE: the checks of R13 in their order; otherwise RESEAT is appended when the volume has been placed before, the
placed-before flag set, a visit starts at n, both platens are sent to its offsets and the angle to the profile's
initial angle, and the idle timer restarts (R14). The aiming light is judged at the command's end (the model's choice,
notes/assumptions/6.md). WRONG_STATE's field index 0 is its reading of R164 (notes/assumptions/16.md). -/
def Obligations.PlaceTaken : Prop :=
  (∀ (s : State) (slot : SlotId) (v : Volume), openSlot? s.store.slots = some (slot, v) → openLeaves s = v.profile.leaves)
    ∧ ∀ (tag n : Nat) (s : State), Ready s →
    if s.tracker.state = .noVolume then Refuses (.place tag n) s 0x0B tag .wrongState 0
    else if n = 0 ∨ openLeaves s + 1 < n then Refuses (.place tag n) s 0x0B tag .badValue 1
    else if s.tracker.state = .placed
        ∧ (s.turner.state ≠ .idle ∨ (s.capture.state ≠ .none ∧ s.capture.state ≠ .released)
          ∨ s.pause.state = .pausedBroken) then
      Refuses (.place tag n) s 0x0B tag .wrongState 0
    else
      ∀ slot v, openSlot? s.store.slots = some (slot, v) →
        Takes (.place tag n) s 0x0B tag
          (fun s =>
            let noted := if v.placedBefore = true then appendIncident s .reseat (s.tracker.n.getD 0) n else s
            let visit := visitStart (onOpen noted fun v => { v with placedBefore := true }) n
            let sent := setPlatens visit
              { left := (n - 1) * v.profile.thickness, right := (v.profile.leaves + 1 - n) * v.profile.thickness }
            aimRetest (idleRestart (mechPump (setAngleTarget sent v.profile.initialAngle))))
          (taken [u 2 n])

/-! ## The Leaf Turner (chapter 3) -/

/-- TURN: every TURN that reaches the turner restarts the idle timer at zero in stage ACTIVE (R90), whatever its answer;
then the checks of R46 in their order. With the pause RUNNING it is taken: SKIPPED from capture state NONE, the record
of R47 with step GLASS_WAIT, and the raise asked; with PAUSED it waits in the deferred slot, or is refused BUSY when the
slot is held. FOLDOUT and PLATE are those of the leaf's own mark record, none set where it has none (R7, R10). The
aiming light is judged at the command's end (the model's choice, notes/assumptions/6.md); the model's own fields are
cleared (notes/assumptions/5.md). The field index 0 of the refusals and the code of the manual item are its reading of
R164 and R171 (notes/assumptions/15.md, notes/assumptions/16.md). The cup-held item stands as it was
(notes/assumptions/27.md). -/
def Obligations.TurnTaken : Prop :=
  (∀ s : State,
      idleRestart s = { s with lamps := { s.lamps with idleStage := .active, idleElapsed := 0, idleUs := 0 } })
    ∧ (∀ (marks : List Mark) (leaf : Nat), marks.Pairwise (fun a b => a.leaf < b.leaf) →
      (∀ m ∈ marks, m.leaf = leaf → marksOf marks leaf = m.kinds)
        ∧ ((∀ m ∈ marks, m.leaf ≠ leaf) → marksOf marks leaf = { foldout := false, plate := false, hold := false }))
    ∧ ∀ (tag direction flags : Nat) (s : State), Ready s →
    let no (reason : Reason) (field : Nat) : Prop :=
      Takes (.turn tag direction flags) s 0x10 tag (fun s => aimRetest (idleRestart s)) (.refused reason field)
    match openSlot? s.store.slots with
    | none => no .noVolume 0
    | some (_, v) =>
      let n := s.tracker.n.getD 0
      if direction ≠ 1 ∧ direction ≠ 2 then no .badValue 1
      else if 4 ≤ flags then no .badValue 2
      else if s.tracker.state = .uncertain ∨ s.pause.state = .pausedBroken then no .uncertain 0
      else if s.tracker.state ≠ .placed ∨ s.turner.state = .halted then no .wrongState 0
      else if s.turner.state ≠ .idle then no .busy 0
      else if direction = 1 ∧ v.profile.leaves < n ∨ direction = 2 ∧ n < 2 then no .endOfVolume 0
      else if s.capture.state = .arming ∨ s.capture.state = .exposing then no .busy 0
      else if s.capture.state = .receiptWait ∨ s.capture.state = .acceptWait
          ∨ s.capture.state = .none ∧ flags.testBit 0 = false then no .wrongState 0
      else if s.pause.state = .paused then
        if s.pause.deferred.isSome = true then no .busy 0
        else
          Takes (.turn tag direction flags) s 0x10 tag
            (fun s =>
              aimRetest
                { idleRestart s with pause := { s.pause with deferred := some (.turn direction flags) } })
            (.own .deferred 4 [])
      else
        let leaf := if direction = 1 then n else n - 1
        let kinds := marksOf v.marks leaf
        let manual := kinds.foldout || flags.testBit 1
        let air := if manual then none else some (if kinds.plate then 1 else v.profile.airLevel)
        Takes (.turn tag direction flags) s 0x10 tag
          (fun s =>
            let noted :=
              if s.capture.state = .none then appendIncident (idleRestart s) .skipped n direction else idleRestart s
            aimRetest (turnerAsksRaise
              { noted with
                  turner :=
                    { s.turner with
                        state := if manual then .manualWait else if direction = 1 then .lift else .reach
                        step := .glassWait, purpose := none
                        direction := some (if direction = 1 then .forward else .back)
                        manual := some manual, leaf := some leaf, plateHeld := some kinds.plate
                        attempt := some (if manual then 0 else 1), airLevel := air, lastCount := none
                        lastOutcome := .none, restoreReleased := false, layEmpty := false } }
              .turn))
          (started [u 1 direction, u 2 leaf, u 1 (if manual then 0 else 1), ou 1 air, u 1 s.turner.settings.limit])

/-- A raise asked by the turner. At a glass that is not RAISED it joins the waiters and the glass rises, but for a
LOWERING or PRESSED glass whose claim is held, where the raise is kept (R73). At a RAISED glass, and when the raise
ends, the waiting turn leaves home in its first phase, a manual turn waits for the operator, and a waiting park opens
the valve and swings home, where a home sensor that is set already ends it PARKED. A raise that fails makes a waiting
turn IDLE with GLASS_FAILED, TURN_FAILED of cause 2 and 0 attempts appended and TURN latched, and ends a waiting park in
HALTED with PARK_FAILED. A report that no one waits for changes nothing (R48, R59, R60). The step of an IDLE turner is
the model's choice (notes/assumptions/27.md). That only the turner waits, and what the arm's drives do to the sensors,
is DEDUCED (notes/assumptions/10.md, notes/assumptions/12.md). -/
def Obligations.RaisesAskedByTheTurner : Prop :=
  ∀ (s : State) (w : RaiseWaiter),
    (s.mech.glass.state ≠ .raised →
        let held := (s.mech.glass.state = .lowering ∨ s.mech.glass.state = .pressed) ∧ s.mech.glass.claim = true
        turnerAsksRaise s w
          = { s with
                mech :=
                  { s.mech with
                      glass :=
                        { s.mech.glass with
                            waiters := s.mech.glass.waiters ++ [w]
                            state := if held then s.mech.glass.state else .raising
                            keptRaise :=
                              if held then true
                              else if s.mech.glass.state = .raising then s.mech.glass.keptRaise else false } } })
      ∧ (s.mech.glass.state = .raised → turnerAsksRaise s w = turnerRaised s)
      ∧ (s.turner.step = .glassWait → s.turner.state = .lift →
          turnerRaised s
            = { s with
                  turner := { s.turner with step := .running, purpose := none, valveClosed := true }
                  pins := { s.pins with home := false } })
      ∧ (s.turner.step = .glassWait → s.turner.state = .reach →
          turnerRaised s
            = { s with
                  turner :=
                    { s.turner with
                        state := if s.pins.farEnd then .lift else .reach
                        step := .running, purpose := none
                        valveClosed := s.pins.farEnd || s.turner.valveClosed }
                  pins := { s.pins with home := false } })
      ∧ (s.turner.step = .glassWait → s.turner.state = .manualWait →
          turnerRaised s = { s with turner := { s.turner with step := .running } })
      ∧ (s.turner.step = .running → s.turner.state = .halted → s.turner.parkWaiting = true →
          s.pins.home = false →
          turnerRaised s
            = { s with
                  turner :=
                    { s.turner with
                        state := .ret, purpose := some .park, parkWaiting := false, cupHeld := false
                        valveClosed := false }
                  pins := { s.pins with hold := false, farEnd := false } })
      ∧ (s.turner.step = .running → s.turner.state = .halted → s.turner.parkWaiting = true →
          s.pins.home = true →
          turnerRaised s
            = latch
              { s with
                  turner :=
                    { s.turner with
                        state := .idle, purpose := none, lastOutcome := .parked, parkWaiting := false
                        cupHeld := false, valveClosed := false }
                  pins := { s.pins with hold := false, farEnd := false } }
              (.turnDone (s.tracker.n.getD 0)))
      ∧ (s.turner.step = .glassWait →
          turnerRaiseFailed s
            = latch
              (appendIncident
                { s with
                    turner :=
                      { s.turner with state := .idle, step := .running, purpose := none, lastOutcome := .glassFailed } }
                .turnFailed 2 0)
              (.turnFailed 2))
      ∧ (s.turner.step = .running → s.turner.state = .halted → s.turner.parkWaiting = true →
          turnerRaiseFailed s
            = latch { s with turner := { s.turner with parkWaiting := false, lastOutcome := .parkFailed } }
              (.turnParkFailed 1))
      ∧ (s.turner.step = .running → s.turner.state ≠ .halted ∨ s.turner.parkWaiting = false →
          turnerRaised s = s ∧ turnerRaiseFailed s = s)

/-- CANCEL_TURN ends the wait of a turn in GLASS_WAIT or MANUAL_WAIT, is refused WRONG_STATE elsewhere (R62); PARK makes
the four checks of R59 and then opens no valve before the raise it asks for has ended (R59). The raise, its waiter and
the sensors are DEDUCED (notes/assumptions/10.md, notes/assumptions/12.md), the field index 0 of the refusals is the
model's reading of R164 (notes/assumptions/16.md). The step that an IDLE or HALTED turner shows is the model's choice
(notes/assumptions/27.md). That PARK is judged WRONG_STATE before BUSY is the model's choice (notes/assumptions/31.md).
-/
def Obligations.CancelAndPark : Prop :=
  ∀ (tag : Nat) (s : State), Ready s →
    (if s.turner.state = .manualWait
          ∨ s.turner.step = .glassWait ∧ (s.turner.state = .reach ∨ s.turner.state = .lift) then
        Takes (.cancelTurn tag) s 0x13 tag
          (fun s =>
            { s with
                turner :=
                  { s.turner with state := .idle, step := .running, purpose := none, lastOutcome := .cancelled }
                mech :=
                  { s.mech with
                      glass :=
                        { s.mech.glass with waiters := s.mech.glass.waiters.filter fun w => w ≠ .turn } } })
          (taken [u 2 (s.tracker.n.getD 0)])
      else Refuses (.cancelTurn tag) s 0x13 tag .wrongState 0)
      ∧ (if s.turner.state ≠ .halted then Refuses (.park tag) s 0x11 tag .wrongState 0
          else if s.pause.state = .pausedBroken then Refuses (.park tag) s 0x11 tag .wrongState 0
          else if s.turner.parkWaiting = true then Refuses (.park tag) s 0x11 tag .busy 0
          else if s.capture.state = .arming ∨ s.capture.state = .exposing then
            Refuses (.park tag) s 0x11 tag .busy 0
          else
            Takes (.park tag) s 0x11 tag
              (fun s => turnerAsksRaise { s with turner := { s.turner with parkWaiting := true } } .park)
              (started []))

/-- MANUAL_DONE: refused WRONG_STATE unless the turner waits for the operator, BAD_VALUE for another direction than the
turn's, or with no turn's direction recorded; otherwise MANUAL_TURN is appended with direction and leaf, the turner is
IDLE with outcome DONE, the tracker moves to the next opening, both platens go to its offsets, and TURN DONE is latched
with the new n (R16, R61). The aiming light is judged at the command's end (the model's choice, notes/assumptions/6.md).
The step that an IDLE or HALTED turner shows is the model's choice (notes/assumptions/27.md). WRONG_STATE's field index
0 is its reading of R164 (notes/assumptions/16.md). That WRONG_STATE comes before BAD_VALUE is the model's choice
(notes/assumptions/31.md). -/
def Obligations.ManualDone : Prop :=
  ∀ (tag direction : Nat) (s : State), Ready s →
    if s.turner.state ≠ .manualWait ∨ s.turner.step ≠ .running then
      Refuses (.manualDone tag direction) s 0x12 tag .wrongState 0
    else if s.turner.direction.map Direction.code ≠ some direction then
      Refuses (.manualDone tag direction) s 0x12 tag .badValue 1
    else
      ∀ n, s.tracker.n = some n →
      let n' := if direction = 1 then n + 1 else n - 1
      Takes (.manualDone tag direction) s 0x12 tag
        (fun s =>
          let noted := appendIncident s .manualTurn direction (s.turner.leaf.getD 0)
          let moved := visitStart
            { noted with
                turner := { s.turner with state := .idle, step := .running, purpose := none, lastOutcome := .done } }
            n'
          let sent := match moved.mech.targets with | some t => mechPump (setPlatens moved t) | none => moved
          aimRetest (latch sent (.turnDone n')))
        (taken [u 2 n'])

/-- The arm's phases in their order (R49, R50, R52, R54): far-end ends REACH and the cup descends with the valve closed;
the hold sensor ends LIFT; one leaf counted ends SEPARATE; far-end (forward) or home (backward) ends CARRY, where the
cup starts to lower the leaf, the valve still closed, and the platens go to the offsets of the opening the turn will
reach; cup-empty, with both platens settled, ends LAY, and the valve is then open. What the arm's own drives do to the
sensors' readings, and that in LAY the hold sensor's clearing or cup-empty tells that the valve has opened, is DEDUCED
(notes/assumptions/12.md). A sensor that ends nothing changes its reading alone; how the home sensor ends RETURN is said
in ReturnEnds. That SEPARATION_TIME does nothing outside SEPARATE is the model's choice (notes/assumptions/4.md). -/
def Obligations.ArmPhases : Prop :=
  ∀ s : State,
    (if inPhase s.turner .reach = true then
        exec (.farEndSensor true) s
          = .next
            { s with
                turner := { s.turner with state := .lift, purpose := none, valveClosed := true }
                pins := { s.pins with farEnd := true, home := false } }
      else if inPhase s.turner .carry = true ∧ s.turner.direction ≠ some .back then
        exec (.farEndSensor true) s = .next (enterLay { s with pins := { s.pins with farEnd := true } })
      else exec (.farEndSensor true) s = .next { s with pins := { s.pins with farEnd := true } })
      ∧ exec (.farEndSensor false) s = .next { s with pins := { s.pins with farEnd := false } }
      ∧ (if inPhase s.turner .lift = true then
            exec (.holdSensor true) s
              = .next
                { s with
                    turner := { s.turner with state := .separate, purpose := none }
                    pins := { s.pins with hold := true } }
          else exec (.holdSensor true) s = .next { s with pins := { s.pins with hold := true } })
      ∧ exec (.holdSensor false) s
        = .next
          { s with
              turner :=
                { s.turner with
                    valveClosed := if inPhase s.turner .lay = true then false else s.turner.valveClosed }
              pins := { s.pins with hold := false } }
      ∧ (if inPhase s.turner .separate = true then
            exec (.separationTime 1) s
              = .next
                { s with
                    turner := { s.turner with state := .carry, purpose := none, lastCount := some 1 }
                    pins :=
                      { s.pins with
                          farEnd := if s.turner.direction = some .back then false else s.pins.farEnd } }
          else ∀ count, exec (.separationTime count) s = .next s)
      ∧ (if inPhase s.turner .carry = true ∧ s.turner.direction = some .back then
          exec (.homeSensor true) s = .next (enterLay { s with pins := { s.pins with home := true } })
        else
          inPhase s.turner .ret = false →
            exec (.homeSensor true) s = .next { s with pins := { s.pins with home := true } })
      ∧ (∀ slot v n d, openSlot? s.store.slots = some (slot, v) → s.tracker.n = some n →
          s.turner.direction = some d →
          let n' := match d with | .forward => n + 1 | .back => n - 1
          enterLay s
            = setPlatens
              { s with
                  turner :=
                    { s.turner with
                        state := .lay, step := .running, purpose := none, layEmpty := false }
                  pins := { s.pins with home := false } }
              { left := (n' - 1) * v.profile.thickness, right := (v.profile.leaves + 1 - n') * v.profile.thickness })
      ∧ (if inPhase s.turner .lay = true then
            let low : State :=
              { s with
                  turner := { s.turner with layEmpty := true, valveClosed := false }
                  pins := { s.pins with cupEmpty := true, hold := false } }
            Does (.cupEmptySensor true) s
              (aimRetest (if platensSettled s = true then enterReturn low .turn else low))
          else exec (.cupEmptySensor true) s = .next { s with pins := { s.pins with cupEmpty := true } })
      ∧ exec (.cupEmptySensor false) s = .next { s with pins := { s.pins with cupEmpty := false } }

/-- A failed attempt: NO_LIFT when the LIFT time-out expires (1) or no leaf is counted (2), the valve opening; with two
or more leaves the cup goes down again in RESTORE, the valve opens when it is at rest or the LIFT time-out has expired,
and 300 ms later the attempt ends as DOUBLE_LEAF with the air level raised by one to at most 4 unless plate-held. An
attempt below the limit is followed by the next one in the turn's first phase; at the limit the arm returns with no
leaf (R49 to R51, R55). What the valve and the arm's drives do to the sensors, and that a count above 3 is sampled as
3, is the model's reading (notes/assumptions/12.md, notes/assumptions/17.md). The step that an IDLE or HALTED turner
shows is the model's choice (notes/assumptions/27.md). -/
def Obligations.FailedAttempts : Prop :=
  ∀ s : State,
    let open_ : State :=
      { s with turner := { s.turner with valveClosed := false }, pins := { s.pins with hold := false } }
    (inPhase s.turner .lift = true → Does .liftTimeout s (aimRetest (attemptEnds open_ .noLift 1)))
      ∧ (inPhase s.turner .separate = true →
          Does (.separationTime 0) s
              (aimRetest (attemptEnds { open_ with turner := { open_.turner with lastCount := some 0 } } .noLift 2))
            ∧ ∀ count, 2 ≤ count →
                exec (.separationTime count) s
                  = .next
                    { s with
                        turner :=
                          { s.turner with state := .restore, purpose := none, lastCount := some (min count 3) } })
      ∧ (inPhase s.turner .restore = true → s.turner.restoreReleased = false →
          exec .restoreDescentEnd s
              = .next { open_ with turner := { open_.turner with restoreReleased := true } }
            ∧ exec .liftTimeout s = exec .restoreDescentEnd s)
      ∧ (inPhase s.turner .restore = true → s.turner.restoreReleased = true →
          ∀ level, s.turner.airLevel = some level →
            Does .restoreReleaseWait s
              (aimRetest (attemptEnds
                { s with
                    turner :=
                      { s.turner with
                          airLevel := some (if s.turner.plateHeld = some true then level else min 4 (level + 1))
                          restoreReleased := false } }
                .doubleLeaf level)))
      ∧ ∀ (kind : IncidentKind) (second a : Nat), s.turner.attempt = some a →
          let noted := appendIncident s kind a second
          if a < s.turner.settings.limit then
            attemptEnds s kind second
              = { noted with
                    turner :=
                      { s.turner with
                          attempt := some (a + 1), step := .running, purpose := none
                          state :=
                            if s.turner.direction = some .back ∧ s.pins.farEnd = false then .reach else .lift
                          valveClosed :=
                            if s.turner.direction = some .back ∧ s.pins.farEnd = false then s.turner.valveClosed
                            else true }
                    pins := { s.pins with home := false } }
          else attemptEnds s kind second = enterReturn noted .failureReturn

/-- RETURN: the arm leaves the left and swings home, and the home sensor ends it by its purpose: a turn is DONE and the
tracker moves to the next opening; a failure return appends TURN_FAILED with the attempts made; a park is PARKED. A
home sensor already set ends it when it begins (R16, R53, R55, R59). That the arm's leaving clears far-end, and that a
home sensor already set ends RETURN, is DEDUCED (notes/assumptions/12.md). The step that an IDLE or HALTED turner shows
is the model's choice (notes/assumptions/27.md). -/
def Obligations.ReturnEnds : Prop :=
  ∀ s : State,
    (∀ p, enterReturn s p
        = let going : State :=
            { s with
                turner := { s.turner with state := .ret, step := .running, purpose := some p }
                pins := { s.pins with farEnd := false } }
          if s.pins.home = true then endReturn going else going)
      ∧ (inPhase s.turner .ret = true →
          let read : State := { s with pins := { s.pins with home := true } }
          let idle (outcome : TurnOutcome) : State :=
            { read with
                turner := { s.turner with state := .idle, step := .running, purpose := none, lastOutcome := outcome } }
          (s.turner.purpose = some .park →
              Does (.homeSensor true) s (aimRetest (latch (idle .parked) (.turnDone (s.tracker.n.getD 0)))))
            ∧ (s.turner.purpose = some .failureReturn → ∀ a, s.turner.attempt = some a →
                Does (.homeSensor true) s
                  (aimRetest (latch (appendIncident (idle .failed) .turnFailed 1 a) (.turnFailed 1))))
            ∧ (s.turner.purpose = some .turn → ∀ n d, s.tracker.n = some n → s.turner.direction = some d →
                let n' := match d with | .forward => n + 1 | .back => n - 1
                Does (.homeSensor true) s (aimRetest (latch (visitStart (idle .done) n') (.turnDone n')))))
      ∧ exec (.homeSensor false) s = .next { s with pins := { s.pins with home := false } }

/-- A time-out of REACH (1), CARRY (2), LAY (3) or RETURN (4) halts the turner: the valve stays closed if the hold
sensor is set and opens if not, cup held records which, TURN_TIMEOUT is appended with the phase and the cup, and the
tracker leaves PLACED for UNCERTAIN. A park's time-out halts it with PARK_FAILED and changes nothing else (R17, R56,
R59). That the valve's state follows the hold sensor's reading, which the model keeps, is entry
notes/assumptions/12.md. The step that an IDLE or HALTED turner shows is the model's choice (notes/assumptions/27.md).
-/
def Obligations.TurnTimeoutHalts : Prop :=
  ∀ s : State, s.turner.step = .running →
    (∀ phase, (s.turner.state = .reach ∧ phase = 1) ∨ (s.turner.state = .carry ∧ phase = 2)
          ∨ (s.turner.state = .lay ∧ phase = 3)
          ∨ (s.turner.state = .ret ∧ s.turner.purpose ≠ some .park ∧ phase = 4) →
        let halted : State :=
          { s with
              turner :=
                { s.turner with
                    state := .halted, purpose := none, lastOutcome := .timeout
                    cupHeld := s.pins.hold, valveClosed := s.pins.hold } }
        let noted := appendIncident halted .turnTimeout phase (bit s.pins.hold)
        let left := if s.tracker.state = .placed then leavePlaced noted else noted
        Does .turnTimeout s
          (aimRetest (latch { left with tracker := { left.tracker with state := .uncertain } }
            (.uncertainTimeout phase))))
      ∧ (s.turner.state = .ret → s.turner.purpose = some .park →
          Does .turnTimeout s
            (aimRetest (latch
              { s with turner := { s.turner with state := .halted, purpose := none, lastOutcome := .parkFailed } }
              (.turnParkFailed 2))))

/-- SET_TURNER, SET_CHECKS and SET_CAPTURE: the state check and the ranges of R63, R102 and R137, the lowest-numbered
field out of range refused first; otherwise the settings are replaced together and nothing else changes, but for
SET_CHECKS' counter above the new K, and the reply carries them. The field index 0 of WRONG_STATE and BUSY, and that
SET_CHECKS judges its relation of two fields at the later one, is the model's reading (notes/assumptions/16.md). The
width of the counter in its reply is likewise the model's (notes/assumptions/15.md). That SET_CHECKS is judged BAD_VALUE
before BUSY, and the other two WRONG_STATE before BAD_VALUE, is the model's choice (notes/assumptions/31.md). -/
def Obligations.SettingsReplacedTogether : Prop :=
  (∀ (tag reach lift carry lay ret limit : Nat) (s : State), Ready s →
      let no (reason : Reason) (field : Nat) : Prop :=
        Refuses (.setTurner tag reach lift carry lay ret limit) s 0x14 tag reason field
      if s.turner.state ≠ .idle then no .wrongState 0
      else if reach < 100 ∨ 10000 < reach then no .badValue 1
      else if lift < 100 ∨ 10000 < lift then no .badValue 2
      else if carry < 100 ∨ 10000 < carry then no .badValue 3
      else if lay < 100 ∨ 10000 < lay then no .badValue 4
      else if ret < 100 ∨ 10000 < ret then no .badValue 5
      else if limit < 1 ∨ 5 < limit then no .badValue 6
      else
        Takes (.setTurner tag reach lift carry lay ret limit) s 0x14 tag
          (fun s =>
            { s with
                turner :=
                  { s.turner with
                      settings :=
                        { reach := reach, lift := lift, carry := carry, lay := lay, ret := ret, limit := limit } } })
          (taken [u 2 reach, u 2 lift, u 2 carry, u 2 lay, u 2 ret, u 1 limit]))
    ∧ (∀ (tag interval rotation tolerance failLimit : Nat) (s : State), Ready s →
        let no (reason : Reason) (field : Nat) : Prop :=
          Refuses (.setChecks tag interval rotation tolerance failLimit) s 0x26 tag reason field
        if interval < 1 ∨ 255 < interval then no .badValue 1
        else if 1 < rotation then no .badValue 2
        else if tolerance < 1 ∨ 500 < tolerance then no .badValue 3
        else if failLimit ≤ tolerance ∨ 900 < failLimit then no .badValue 4
        else if s.lamps.waitingCheck.isSome = true ∨ checkHolds s.lamps = true then no .busy 0
        else
          Takes (.setChecks tag interval rotation tolerance failLimit) s 0x26 tag
            (fun s =>
              { s with
                  lamps :=
                    { s.lamps with
                        interval := interval, rotation := decide (rotation = 1), tolerance := tolerance
                        failLimit := failLimit
                        counter := if interval < s.lamps.counter then interval else s.lamps.counter } })
            (taken [u 1 interval, u 1 rotation, u 2 tolerance, u 2 failLimit,
              u 1 (if interval < s.lamps.counter then interval else s.lamps.counter)]))
    ∧ ∀ (tag mode timeout delayL delayR pedal : Nat) (s : State), Ready s →
        let no (reason : Reason) (field : Nat) : Prop :=
          Refuses (.setCapture tag mode timeout delayL delayR pedal) s 0x34 tag reason field
        if s.capture.state ≠ .none ∧ s.capture.state ≠ .released then no .wrongState 0
        else if 1 < mode then no .badValue 1
        else if timeout < 50 ∨ 5000 < timeout then no .badValue 2
        else if 5000 < delayL then no .badValue 3
        else if 5000 < delayR then no .badValue 4
        else if 1 < pedal then no .badValue 5
        else
          Takes (.setCapture tag mode timeout delayL delayR pedal) s 0x34 tag
            (fun s =>
              { s with
                  capture :=
                    { s.capture with
                        releaseMode := if mode = 0 then .onReceipt else .onAccept
                        timeout := timeout, strobeDelay := { left := delayL, right := delayR }
                        pedalCapture := decide (pedal = 1) } })
            (taken [u 1 mode, u 2 timeout, u 2 delayL, u 2 delayR, u 1 pedal])

/-! ## Cradle Mechanics (chapter 4) -/

/-- SET_GLASS, RAISE_GLASS and SET_ANGLE: the checks of R70, R77 and R78 in their order; a force or an angle above the
profile's limit is taken clamped to it and the reply says so; a raise starts RAISING unless the glass is RAISED; an
angle moves the cradle. The code of the clamped item is the model's reading (notes/assumptions/15.md), the field index 0
of NO_VOLUME, BUSY and WRONG_STATE likewise (notes/assumptions/16.md). That SET_GLASS is judged NO_VOLUME before
BAD_VALUE is the model's choice (notes/assumptions/31.md). -/
def Obligations.GlassAndAngleRequests : Prop :=
  ∀ (tag : Nat) (s : State), Ready s →
    (∀ force, match openVolume? s with
      | none => Refuses (.setGlass tag force) s 0x18 tag .noVolume 0
      | some v =>
        if 2000 < force then Refuses (.setGlass tag force) s 0x18 tag .badValue 1
        else
          let limit := v.profile.forceLimit
          let held := if limit < force then limit else force
          Takes (.setGlass tag force) s 0x18 tag
            (fun s => { s with mech := { s.mech with glass := { s.mech.glass with requestedForce := held } } })
            (taken [u 2 held, u 1 (if limit < force then 1 else 0)]))
      ∧ (if s.mech.glass.claim = true then Refuses (.raiseGlass tag) s 0x19 tag .busy 0
          else if s.mech.glass.state = .raised then Takes (.raiseGlass tag) s 0x19 tag id (taken [u 1 0])
          else
            Takes (.raiseGlass tag) s 0x19 tag
              (fun s =>
                { s with
                    mech :=
                      { s.mech with
                          glass :=
                            { s.mech.glass with
                                state := .raising
                                keptRaise :=
                                  if s.mech.glass.state = .raising then s.mech.glass.keptRaise else false } } })
              (taken [u 1 3]))
      ∧ ∀ angle, match openVolume? s with
        | none => Refuses (.setAngle tag angle) s 0x1A tag .noVolume 0
        | some v =>
          let limit := v.profile.angleLimit
          let target := if limit < angle then limit else angle
          if angle < 80 ∨ 140 < angle then Refuses (.setAngle tag angle) s 0x1A tag .badValue 1
          else if s.turner.state ≠ .idle ∨ s.mech.glass.state ≠ .raised then
            Refuses (.setAngle tag angle) s 0x1A tag .wrongState 0
          else
            Takes (.setAngle tag angle) s 0x1A tag
              (fun s =>
                aimRetest (mechPump { s with mech := { s.mech with angleTarget := target, anglePending := false } }))
              (taken [u 1 target, u 1 (if limit < angle then 1 else 0)])

/-- A lowering's target is the requested force, halved and rounded down when a leaf shown carries PLATE; PRESSED stands
at 95 % of it rounded up, overforce above the profile's limit and a tenth of it, the limit being 0 with no volume OPEN
and no leaf shown with no opening; a target of 0 gf fails the press. A held press starts when the glass is RAISED and no
move runs or is pending, and in glass mode NONE it is dropped, with no lowering (R69, R71, R72). How a press fails and
is lost is said in StopSteps. A force reading in LOWERING above the overforce threshold raises the glass with a
GLASS_FAULT of cause 2, and one at or above the pressed threshold makes it PRESSED and answers the press; in PRESSED the
overforce alone acts; elsewhere the reading alone changes (R72, R74). That a held press outlives its claim, also where
no volume is OPEN any longer, and that no force is compared before a first lowering, is DEDUCED
(notes/assumptions/9.md). The raised-stop reading stands when the glass leaves its stop (notes/assumptions/25.md). -/
def Obligations.PressesAndForce : Prop :=
  (∀ s : State,
      let volume := (openSlot? s.store.slots).map Prod.snd
      let limit := (volume.map fun v => v.profile.forceLimit).getD 0
      let plate :=
        match volume, s.tracker.n with
        | some v, some n => v.marks.any fun m => (m.leaf + 1 = n || m.leaf = n) && m.kinds.plate
        | _, _ => false
      let target := if plate then s.mech.glass.requestedForce / 2 else s.mech.glass.requestedForce
      startLowering s
          = (if target = 0 then pressFailed s
            else
              { s with
                  mech :=
                    { s.mech with
                        glass :=
                          { s.mech.glass with
                              state := .lowering, heldPress := false
                              press := some
                                { target := target, pressedAt := (target * 95 + 99) / 100
                                  overforceAt := limit + limit / 10 } } } })
        ∧ heldPressGo s
          = (if s.mech.glass.state = .raised ∧ s.mech.glass.heldPress = true
                ∧ s.pins.position.left = s.mech.platens.left.setpoint ∧ s.mech.platens.left.pending = false
                ∧ s.pins.position.right = s.mech.platens.right.setpoint ∧ s.mech.platens.right.pending = false
                ∧ s.pins.angle = s.mech.angleTarget ∧ s.mech.anglePending = false then
              (if volume.map (fun v => v.profile.glassMode) = some .none then
                { s with mech := { s.mech with glass := { s.mech.glass with heldPress := false } } }
              else startLowering s)
            else s))
    ∧ (∀ (force : Nat) (s : State),
      let read : State := { s with pins := { s.pins with force := force } }
      match s.mech.glass.press with
      | none => exec (.glassForceReading force) s = .next read
      | some p =>
        let forced :=
          appendIncident
            { read with
                mech :=
                  { s.mech with
                      glass := { s.mech.glass with state := .raising, keptRaise := false, fault := .overforce force } } }
            .glassFault 2 force
        let acts := s.mech.glass.state = .lowering ∨ s.mech.glass.state = .pressed
        if acts ∧ p.overforceAt < force then
          Does (.glassForceReading force) s
            (aimRetest (if s.mech.glass.claim = true then pressLost forced else forced))
        else if s.mech.glass.state = .lowering ∧ p.pressedAt ≤ force then
          Does (.glassForceReading force) s
            (aimRetest (armPump
              { read with
                  mech := { s.mech with glass := { s.mech.glass with state := .pressed } }
                  capture :=
                    { s.capture with
                        press :=
                          if s.mech.glass.claim = true ∧ s.capture.state = .arming then .pressed
                          else s.capture.press } }))
        else Does (.glassForceReading force) s (aimRetest read))

/-- Moves and their ends. New setpoints, each clamped at the travel of 80000 µm, and a new angle target start their
drives at once with the glass RAISED; otherwise the move is pending and the glass is raised, but for a LOWERING or
PRESSED glass whose claim is held, where the raise is kept (R65, R66, R73, R79). A platen's or the angle's feedback may
start a held press, then a capture's claim; a platen's may also end LAY, once cup-empty has been taken and both platens
are SETTLED (R52, R66, R72, R78, R80). The held press is spelled in PressesAndForce, the claim in CaptureTaken. The
raised stop ends RAISING: the waiters are told, the list emptied and pending moves started; elsewhere its reading alone
changes. The move time-out in LOWERING is a fault of cause 1 with the force measured, PRESS_FAILED and a raise; in
RAISING the glass halts, the waiters hear RAISE_FAILED and a held press fails (R72, R73). An expiry asserts its moment,
and a reading is what the command carries (the model's choices, notes/assumptions/4.md, notes/assumptions/17.md). That
the raised stop ends a raise only by a new report is its choice too (notes/assumptions/25.md). -/
def Obligations.MechanicsMovesEnd : Prop :=
  ∀ s : State,
    (∀ side position,
        Does (.platenSettled side position) s
          (aimRetest (layPump (mechPump
            { s with pins := { s.pins with position := s.pins.position.set side position } }))))
      ∧ (mechPump s = armPump (heldPressGo s)
          ∧ layPump s
            = if s.turner.state = .lay ∧ s.turner.step = .running ∧ s.turner.layEmpty = true
                ∧ s.pins.position.left = s.mech.platens.left.setpoint ∧ s.mech.platens.left.pending = false
                ∧ s.pins.position.right = s.mech.platens.right.setpoint ∧ s.mech.platens.right.pending = false then
              enterReturn s .turn
            else s)
      ∧ (let g := s.mech.glass
          let waits := decide (g.state ≠ .raised)
          let moved : Glass :=
            match g.state with
            | .raised => g
            | .raising => g
            | .halted => { g with state := .raising, keptRaise := false }
            | _ => if g.claim then { g with keptRaise := true } else { g with state := .raising, keptRaise := false }
          (∀ targets : Sides Nat,
              setPlatens s targets
                = { s with
                      mech :=
                        { s.mech with
                            glass := moved
                            platens :=
                              { left :=
                                  { s.mech.platens.left with
                                      setpoint := if 80000 < targets.left then 80000 else targets.left, pending := waits }
                                right :=
                                  { s.mech.platens.right with
                                      setpoint := if 80000 < targets.right then 80000 else targets.right
                                      pending := waits } } } })
            ∧ ∀ angle, setAngleTarget s angle
                = { s with mech := { s.mech with glass := moved, angleTarget := angle, anglePending := waits } })
      ∧ (∀ angle, Does (.angleSettled angle) s (aimRetest (mechPump { s with pins := { s.pins with angle := angle } })))
      ∧ (if s.mech.glass.state = .raising then
            let up : State :=
              { s with
                  pins := { s.pins with raisedStop := true }
                  mech := { s.mech with glass := { s.mech.glass with state := .raised, waiters := [] } } }
            let told := if s.mech.glass.waiters = [] then up else turnerRaised up
            Does (.raisedStopSensor true) s
              (aimRetest (layPump (mechPump
                { told with
                    mech :=
                      { told.mech with
                          anglePending := false
                          platens :=
                            { left := { told.mech.platens.left with pending := false }
                              right := { told.mech.platens.right with pending := false } } } })))
          else exec (.raisedStopSensor true) s = .next { s with pins := { s.pins with raisedStop := true } })
      ∧ exec (.raisedStopSensor false) s = .next { s with pins := { s.pins with raisedStop := false } }
      ∧ (match s.mech.glass.state with
        | .lowering =>
          let failed := pressFailed (appendIncident
            { s with mech := { s.mech with glass := { s.mech.glass with fault := .timeout s.pins.force } } }
            .glassFault 1 s.pins.force)
          Does .glassMoveTimeout s
            (aimRetest
              { failed with
                  mech :=
                    { failed.mech with glass := { failed.mech.glass with state := .raising, keptRaise := false } } })
        | .raising =>
          let faulted := appendIncident
            { s with
                mech :=
                  { s.mech with
                      glass :=
                        { s.mech.glass with state := .halted, waiters := [], fault := .timeout s.pins.force } } }
            .glassFault 1 s.pins.force
          let told := if s.mech.glass.waiters = [] then faulted else turnerRaiseFailed faulted
          Does .glassMoveTimeout s
            (aimRetest (if s.mech.glass.heldPress = true then pressFailed told else told))
        | _ => exec .glassMoveTimeout s = .next s)

/-! ## The Lamp Controller (chapter 5) -/

/-- The supply and the idle timer. LAMPS_ON from OFF starts a settle, with the counter at K and the full-check flag
set, READY at once when the settle interval is 0; LAMPS_OFF is refused BUSY while the lighting is claimed, held or a
capture runs, and else empties the reservoir; the settle's end makes READY and latches LAMP SETTLED; the idle timer
reaching its next interval enters the stage that the interval gives, and at T_supply the supply goes OFF (R83, R84,
R90). An expiry asserts its moment (the model's choice, notes/assumptions/4.md); `settleRun` and the microsecond counts
are the model's own fields (notes/assumptions/5.md). The field index 0 of LAMPS_OFF's BUSY is its reading of R164
(notes/assumptions/16.md). -/
def Obligations.SupplyAndIdleTimer : Prop :=
  ∀ (tag : Nat) (s : State),
    (Ready s →
        (if s.lamps.supply = .ready then
            Takes (.lampsOn tag) s 0x20 tag (fun s => aimRetest (idleRestart s)) (taken [u 1 2])
          else if s.lamps.supply = .settling then
            Takes (.lampsOn tag) s 0x20 tag (fun s => aimRetest (idleRestart s)) (started [])
          else
            Takes (.lampsOn tag) s 0x20 tag
              (fun s =>
                let on (supply : Supply) : State :=
                  { s with
                      lamps :=
                        { s.lamps with
                            idleStage := .active, idleElapsed := 0, idleUs := 0, supply := supply
                            settleRun := s.lamps.settle, settleUs := 0, reservoirUs := 0
                            counter := s.lamps.interval, fullCheck := true } }
                aimRetest (if s.lamps.settle = 0 then latch (on .ready) .lampSettled else on .settling))
              (started []))
          ∧ if s.lamps.holder ≠ .free ∨ s.lamps.waitingCapture = true ∨ s.lamps.waitingCheck.isSome = true
                ∨ s.capture.state = .arming ∨ s.capture.state = .exposing then
              Refuses (.lampsOff tag) s 0x21 tag .busy 0
            else if s.lamps.supply = .off then Takes (.lampsOff tag) s 0x21 tag id (taken [u 1 0])
            else
              Takes (.lampsOff tag) s 0x21 tag
                (fun s =>
                  { s with
                      lamps := { s.lamps with supply := .off, reservoir := 0, reservoirUs := 0, settleUs := 0 }
                      dose := { s.dose with aiming := none } })
                (taken [u 1 0]))
      ∧ (if s.lamps.supply = .settling then
            Does .supplySettled s (aimRetest (latch { s with lamps := { s.lamps with supply := .ready } } .lampSettled))
          else exec .supplySettled s = .next s)
      ∧ if idleHeld s = true ∨ s.lamps.idleStage = .expired then exec .idleStageExpiry s = .next s
        else
          s.lamps.tRest ≤ s.lamps.tDark → s.lamps.tDark ≤ s.lamps.tSupply →
            let reached := match s.lamps.idleStage with
              | .active => s.lamps.tRest
              | .rest => s.lamps.tDark
              | _ => s.lamps.tSupply
            let stage : IdleStage :=
              if reached = s.lamps.tSupply then .expired
              else if reached = s.lamps.tDark then .dark
              else .rest
            let aged : Lamps := { s.lamps with idleStage := stage, idleElapsed := reached, idleUs := 0 }
            Does .idleStageExpiry s
              (aimRetest
                { s with
                    lamps :=
                      if stage = .expired then
                        { aged with supply := .off, reservoir := 0, reservoirUs := 0, settleUs := 0 }
                      else aged })

/-- SET_LIGHTING, SET_AIMING and SET_IDLE: the ranges of R87, R89 and R91, the lowest-numbered field out of range
refused first; otherwise the settings are replaced together. SET_LIGHTING is refused BUSY while the lighting is claimed,
held or a capture runs, and a new spill abandons the aiming interval; SET_AIMING clears the aiming cut flag and answers
whether the light is lit then, as AimingLight states; SET_AIMING and SET_IDLE restart the idle timer. A side's status,
and the banks of it that fire, are those of R86's table, the first case that applies. BUSY's field index 0, the order of
SET_IDLE's range checks and the codes of the side status are the model's reading (notes/assumptions/15.md,
notes/assumptions/16.md). That SET_LIGHTING is judged BAD_VALUE before BUSY is the model's choice
(notes/assumptions/31.md). -/
def Obligations.LightingSettings : Prop :=
  (∀ (l : Lamps) (side : Side),
      let banks : Bank × Bank := match side with | .left => (.la, .lb) | .right => (.ra, .rb)
      let a := banks.1
      let b := banks.2
      sideStatus l side
          = (if (l.health.get a ≠ .good ∧ l.health.get b ≠ .good) ∨ (l.drive.get a = 0 ∧ l.drive.get b = 0) then .noLight
            else if l.health.get a = .uncalibrated ∨ l.health.get b = .uncalibrated then .notCalibrated
            else if l.health.get a = .failed then (if l.drive.get b = 0 then .noLight else .usable true)
            else if l.health.get b = .failed then (if l.drive.get a = 0 then .noLight else .usable true)
            else .usable false)
        ∧ (∀ (sides : CaptureSides) (x : Bank), x = a ∨ x = b →
            ((firingBanks l sides).get x = true ↔
              sides.has side = true ∧ (sideStatus l side = .usable true ∨ sideStatus l side = .usable false)
                ∧ l.health.get x = .good ∧ l.drive.get x ≠ 0))
        ∧ ∀ sides : CaptureSides,
            (anySingle l sides = true ↔ ∃ x, sides.has x = true ∧ sideStatus l x = .usable true)
              ∧ ((sideStatus l side).isUsable = true ↔
                  sideStatus l side = .usable true ∨ sideStatus l side = .usable false))
    ∧ ∀ (tag : Nat) (s : State), Ready s →
      (∀ la lb ra rb tl tr spill : Nat,
          let no (reason : Reason) (field : Nat) : Prop :=
            Refuses (.setLighting tag la lb ra rb tl tr spill) s 0x22 tag reason field
          if 1000 < la then no .badValue 1
          else if 1000 < lb then no .badValue 2
          else if 1000 < ra then no .badValue 3
          else if 1000 < rb then no .badValue 4
          else if tl < 100 ∨ 20000 < tl then no .badValue 5
          else if tr < 100 ∨ 20000 < tr then no .badValue 6
          else if 250 < spill then no .badValue 7
          else if s.lamps.holder ≠ .free ∨ s.lamps.waitingCapture = true ∨ s.lamps.waitingCheck.isSome = true
              ∨ s.capture.state = .arming ∨ s.capture.state = .exposing then
            no .busy 0
          else
            let lamps : Lamps :=
              { s.lamps with
                  drive := { la := la, lb := lb, ra := ra, rb := rb }
                  duration := { left := tl, right := tr }, spill := spill }
            Takes (.setLighting tag la lb ra rb tl tr spill) s 0x22 tag
              (fun s =>
                if spill = s.lamps.spill then { s with lamps := lamps }
                else aimRetest { s with lamps := lamps, dose := { s.dose with aiming := none } })
              (taken [u 2 la, u 2 lb, u 2 ra, u 2 rb, u 2 tl, u 2 tr, u 2 spill,
                u 1 (sideStatus lamps .left).code, u 1 (sideStatus lamps .right).code]))
        ∧ (∀ level rest : Nat,
            if 100 < level then Refuses (.setAiming tag level rest) s 0x23 tag .badValue 1
            else if level < rest then Refuses (.setAiming tag level rest) s 0x23 tag .badValue 2
            else
              let set (s : State) : State :=
                { s with
                    lamps :=
                      { s.lamps with
                          aimingLevel := level, restLevel := rest, aimingCut := false
                          idleStage := .active, idleElapsed := 0, idleUs := 0 } }
              let lit := (aimRetest (set s)).dose.aiming.isSome
              Takes (.setAiming tag level rest) s 0x23 tag (fun s => aimRetest (set s))
                  (taken [u 1 level, u 1 rest, u 1 (if lit then 1 else 0)])
                ∧ ∀ t, exec (.setAiming tag level rest) s = .next t → t.dose.aiming.isSome = lit)
        ∧ ∀ rest dark supply settle : Nat,
            if rest < 1 ∨ 3600 < rest then Refuses (.setIdle tag rest dark supply settle) s 0x24 tag .badValue 1
            else if dark < rest ∨ 3600 < dark then Refuses (.setIdle tag rest dark supply settle) s 0x24 tag .badValue 2
            else if supply < dark ∨ 3600 < supply then
              Refuses (.setIdle tag rest dark supply settle) s 0x24 tag .badValue 3
            else if 10000 < settle then Refuses (.setIdle tag rest dark supply settle) s 0x24 tag .badValue 4
            else
              Takes (.setIdle tag rest dark supply settle) s 0x24 tag
                (fun s =>
                  aimRetest
                    { s with
                        lamps :=
                          { s.lamps with
                              tRest := rest, tDark := dark, tSupply := supply, settle := settle
                              idleStage := .active, idleElapsed := 0, idleUs := 0 } })
                (taken [u 2 rest, u 2 dark, u 2 supply, u 2 settle])

/-- The aiming light. It is lit exactly under the conditions of R88: with the tracker not PLACED it is dark and
AIMING_INTERVAL changes nothing (R17, R88); an interval starts when it lights or when its level changes, charged in full
on both faces of the opening when its prediction passes; when it fails, the light is cut: the cut flag, DOSE_LIMIT once
in the visit, DOSE AIM_CUT, and no interval. AIMING_INTERVAL starts the next interval of a lit light (R18, R88, R116 to
R118). AIMING_INTERVAL asserts its moment, and the light is judged at a command's end (the model's choices,
notes/assumptions/4.md, notes/assumptions/6.md). -/
def Obligations.AimingLight : Prop :=
  (∀ s : State, s.tracker.state ≠ .placed →
      aimRetest s = { s with dose := { s.dose with aiming := none } } ∧ exec .aimingInterval s = .next s)
    ∧ ∀ (s : State) (slot : SlotId) (v : Volume) (n : Nat), openSlot? s.store.slots = some (slot, v) →
    s.tracker.n = some n →
    let level := match s.lamps.idleStage with
      | .active => s.lamps.aimingLevel
      | .rest => s.lamps.restLevel
      | _ => 0
    let wanted := s.tracker.state = .placed ∧ s.pause.hoodOpen = false ∧ s.lamps.supply = .ready ∧ level ≠ 0
      ∧ (s.lamps.health.la = .good ∨ s.lamps.health.lb = .good ∨ s.lamps.health.ra = .good
          ∨ s.lamps.health.rb = .good)
      ∧ s.lamps.aimingCut = false ∧ s.lamps.holder = .free
    let lit (b : Bank) : Nat :=
      if s.lamps.health.get b = .good then ((s.lamps.fullScale.get b).getD 0 * level + 999) / 1000 else 0
    let own : Side → Nat := fun side => match side with | .left => lit .la + lit .lb | .right => lit .ra + lit .rb
    let lux : Sides Nat :=
      { left := own .left + (own .right * s.lamps.spill + 999) / 1000
        right := own .right + (own .left * s.lamps.spill + 999) / 1000 }
    let dose : Sides Nat := { left := lux.left * 100, right := lux.right * 100 }
    let faces : Sides Nat := { left := 2 * n - 2, right := 2 * n - 1 }
    let starts :=
      match predict v faces dose with
      | none =>
        charge { s with dose := { s.dose with aiming := some { elapsedUs := 0, level := level, lux := lux } } }
          faces dose none
      | some named =>
        let dark : State :=
          { s with lamps := { s.lamps with aimingCut := true }, dose := { s.dose with aiming := none } }
        let noted := if s.tracker.doseLogged = true then dark else appendIncident dark .doseLimit 3 named
        latch { noted with tracker := { s.tracker with doseLogged := true } } (.doseAimCut named)
    aimRetest s
        = (if wanted then
            if s.dose.aiming.map AimInterval.level = some level then s else starts
          else { s with dose := { s.dose with aiming := none } })
      ∧ if s.dose.aiming.isSome = true ∧ wanted then Does .aimingInterval s starts
        else exec .aimingInterval s = .next s

/-- REFERENCE_CHECK: the checks of R97 in their order, a failing prediction refused with its reason after DOSE LIMIT is
latched, and DOSE_LIMIT once in the visit; otherwise the check waits and the supply is asked for (R18, R97, R109).
LIGHTING_GRANT passes the free resource, with the supply READY and the hood closed, to a waiting check before a waiting
capture (R93). A requested check ends ENDED_UNCERTAIN in UNCERTAIN and REFUSED_DOSE when its prediction fails; with no
opening it holds with no bound faces, else with those of the opening; a FULL check ahead of a capture is predicted with
the capture's doses and deferred when that fails (R98, R100). A capture that waits is then granted: it ends ENDED_LIGHT
with a requested side not USABLE, or its firing banks and its cost are fixed (R92, R94). A grant abandons the aiming
interval that runs, even where it ends at once (R117). The grant by LIGHTING_GRANT and the field index 0 of the
refusals are the model's reading (notes/assumptions/7.md, notes/assumptions/16.md). How a check ends is said in
ReferencePulses, how a capture enters NONE in StopSteps. -/
def Obligations.ChecksAndGrants : Prop :=
  (∀ (tag banks : Nat) (s : State), Ready s →
      if banks = 0 ∨ 16 ≤ banks then Refuses (.referenceCheck tag banks) s 0x25 tag .badValue 1
      else if s.lamps.waitingCheck.isSome = true ∨ checkHolds s.lamps = true then
        Refuses (.referenceCheck tag banks) s 0x25 tag .busy 0
      else if s.pause.hoodOpen = true then Refuses (.referenceCheck tag banks) s 0x25 tag .hoodOpen 0
      else if s.tracker.state = .uncertain then Refuses (.referenceCheck tag banks) s 0x25 tag .uncertain 0
      else
        let set : BankSet :=
          { la := banks.testBit 0, lb := banks.testBit 1, ra := banks.testBit 2, rb := banks.testBit 3 }
        let check : Check :=
          { kind := .requested, banks := set, remaining := Bank.all.filter fun b => set.get b
            results := Banks.all none, bound := none, lit := false, hoodEnded := false }
        match predictCheck s check (boundNow s) (Sides.both 0) with
        | some named =>
          Takes (.referenceCheck tag banks) s 0x25 tag (fun s => doseRefused s named)
            (.refused (if named = 65535 then .doseVolume else .doseFace) 0)
        | none =>
          Takes (.referenceCheck tag banks) s 0x25 tag
            (fun s => aimRetest (supplyOn { s with lamps := { s.lamps with waitingCheck := some check } }))
            (started []))
    ∧ (∀ (s : State) (named : Nat),
      doseRefused s named
        = (let noted : State := { s with dose := { s.dose with lastRefusal := some named } }
          let logged :=
            if s.tracker.doseLogged = true then noted
            else appendIncident noted .doseLimit (if named = 65535 then 2 else 1) named
          latch { logged with tracker := { s.tracker with doseLogged := true } } (.doseLimit named)))
    ∧ (∀ s : State, Does .lightingGrant s (aimRetest (grantNext s)))
    ∧ ∀ s : State,
        let free (u : State) := u.lamps.holder = .free ∧ u.lamps.supply = .ready ∧ u.pause.hoodOpen = false
        let dark (u : State) : State := { u with dose := { u.dose with aiming := none } }
        let captured (u : State) : State :=
          let sides := u.capture.sides.getD .both
          if (sides.has .left = true ∧ (sideStatus u.lamps .left).isUsable = false)
              ∨ (sides.has .right = true ∧ (sideStatus u.lamps .right).isUsable = false) then
            captureToNone (dark { u with lamps := { u.lamps with waitingCapture := false } }) .endedLight
          else
            let banks : BankSet := firingBanks u.lamps sides
            let cost (b : Bank) (side : Side) :=
              if banks.get b = true then (u.lamps.drive.get b * u.lamps.duration.get side + 999) / 1000 else 0
            dark
              { u with
                  lamps :=
                    { u.lamps with
                        waitingCapture := false, holder := .capture, fixedBanks := banks
                        captureCost := cost .la .left + cost .lb .left + (cost .ra .right + cost .rb .right) }
                  capture :=
                    { u.capture with
                        flags :=
                          { u.capture.flags with
                              singleBank := u.capture.flags.singleBank || anySingle u.lamps sides } } }
        let checked (c : Check) : State :=
          let taken := dark { s with lamps := { s.lamps with waitingCheck := none } }
          let bound : Option BoundFaces :=
            match s.tracker.state, s.tracker.slot, s.tracker.n with
            | .placed, some slot, some n => some { slot := slot, faces := { left := 2 * n - 2, right := 2 * n - 1 } }
            | _, _, _ => none
          let fails (more : Sides Nat) : Option Nat :=
            match bound with
            | none => none
            | some b =>
              match s.store.slots.get b.slot with
              | .opened v =>
                let pulses := checkDose s.lamps c.banks
                predict v b.faces { left := pulses.left + more.left, right := pulses.right + more.right }
              | _ => none
          let holds : State :=
            { taken with lamps := { taken.lamps with holder := .check { c with bound := bound } } }
          if c.kind = .requested then
            if s.tracker.state = .uncertain then finishCheck taken c .endedUncertain
            else
              match fails { left := 0, right := 0 } with
              | some named => finishCheck (doseRefused taken named) { c with bound := bound } .refusedDose
              | none => holds
          else
            match fails (if s.lamps.waitingCapture = true then s.capture.admitted else { left := 0, right := 0 }) with
            | some _ =>
              { taken with lamps := { taken.lamps with deferrals := min (s.lamps.deferrals + 1) 65535 } }
            | none => holds
        let u := match s.lamps.waitingCheck with
          | some c => if free s then checked c else s
          | none => s
        grantNext s = if free u ∧ u.lamps.waitingCapture = true then captured u else u

/-- A reference pulse. It starts when the reservoir covers 200 units, which it draws, and its bound faces are charged
at 60000 lux. Its end settles them to the reading, at most 60000 lux, and judges the bank by R96: below 1000 lux
FAILED; UNCALIBRATED taken as GOOD; else by the change against F_b in ‰ rounded down, within the tolerance GOOD, up to
the fail limit GOOD with LAMP_DRIFT, above it FAILED with LAMP_FAILED and F_b kept (R92, R95, R96, R115). A check's end
writes the last check record; complete, it sets the counter and the deferrals to 0, clears the full-check flag if it
held all four banks, and advances the pointer if it was PERIODIC at the pointer's bank; a requested one latches
CHECK_DONE; the idle timer restarts when nothing else holds it; and the resource becomes FREE or passes on (R90, R93,
R98, R99). That the start asserts that the reservoir covers the pulse is the model's choice (notes/assumptions/4.md).
That a waiting claimant is granted in the step that frees the resource is DEDUCED (notes/assumptions/7.md). -/
def Obligations.ReferencePulses : Prop :=
  (∀ (s : State) (c : Check) (outcome : CheckOutcome),
      let only : BankSet :=
        { la := decide (s.lamps.pointer = .la), lb := decide (s.lamps.pointer = .lb)
          ra := decide (s.lamps.pointer = .ra), rb := decide (s.lamps.pointer = .rb) }
      let after : Bank := match s.lamps.pointer with | .la => .lb | .lb => .ra | .ra => .rb | .rb => .la
      let counted : Lamps :=
        if outcome = .complete then
          { s.lamps with
              counter := 0, deferrals := 0
              fullCheck :=
                if c.banks = { la := true, lb := true, ra := true, rb := true } then false else s.lamps.fullCheck
              pointer := if c.kind = .periodic ∧ c.banks = only then after else s.lamps.pointer }
        else s.lamps
      let ended : State :=
        { s with
            lamps :=
              { counted with
                  lastCheck := some
                    { kind := c.kind, banks := c.banks, results := c.results, bound := c.bound, outcome := outcome } } }
      let told := if c.kind = .requested then latch ended (.lampCheckDone outcome) else ended
      finishCheck s c outcome
          = (if s.capture.state = .arming ∨ s.capture.state = .exposing ∨ s.lamps.waitingCheck.isSome = true
                ∨ checkHolds s.lamps = true then told
            else { told with lamps := { told.lamps with idleStage := .active, idleElapsed := 0, idleUs := 0 } })
        ∧ endCheck s c outcome
          = grantNext (finishCheck { s with lamps := { s.lamps with holder := .free } } c outcome))
    ∧ ∀ (s : State) (c : Check) (b : Bank) (rest : List Bank), s.lamps.holder = .check c → c.remaining = b :: rest →
        (if c.lit = true then exec .referencePulseStart s = .next s
          else
            let drawn : State :=
              { s with
                  lamps :=
                    { s.lamps with
                        reservoir := max s.lamps.reservoir 200 - 200, holder := .check { c with lit := true }
                        idleStage := .active, idleElapsed := 0, idleUs := 0 } }
            Does .referencePulseStart s
              (match c.bound with
                | some bound => chargePulse drawn bound b
                | none => drawn))
          ∧ ∀ reading : Nat,
              if c.lit = false then exec (.referencePulseEnd reading) s = .next s
              else
                let r := if 60000 < reading then 60000 else reading
                let read := settlePulse
                  { s with lamps := { s.lamps with lastReading := s.lamps.lastReading.set b (some r) } } r
                let old := if s.lamps.health.get b = .uncalibrated then none else s.lamps.fullScale.get b
                let verdict : Verdict :=
                  if r < 1000 then .failed
                  else
                    match old with
                    | none => .accepted
                    | some f =>
                      let change := (if r < f then f - r else r - f) * 1000 / f
                      if change ≤ s.lamps.tolerance then .accepted
                      else if change ≤ s.lamps.failLimit then .drift
                      else .failed
                let bad := verdict = .failed
                let judged : State :=
                  { read with
                      lamps :=
                        { read.lamps with
                            health := s.lamps.health.set b (if bad then .failed else .good)
                            fullScale := s.lamps.fullScale.set b (if bad then old else some r) } }
                let told :=
                  match verdict with
                  | .accepted => judged
                  | .drift => latch (appendIncident judged .lampDrift b.number r) (.lampDrift b)
                  | .failed => latch (appendIncident judged .lampFailed b.number r) (.lampFailed b)
                let next : Check :=
                  { c with
                      remaining := rest, lit := false
                      results := c.results.set b (some { reading := r, verdict := verdict }) }
                Does (.referencePulseEnd reading) s
                  (aimRetest
                    (if c.hoodEnded = true then endCheck told next .endedHood
                      else if rest = [] then endCheck told next .complete
                      else { told with lamps := { told.lamps with holder := .check next } }))

/-! ## The Capture Unit (chapter 7) -/

/-- CAPTURE: every CAPTURE restarts the idle timer; then the checks of R122 in their order, a failing prediction
reported as R109 says. With the pause RUNNING it is taken: the record of R123, its take one more than the number of
capture entries of any status with opening field n, of which 255 refuse the request, ARMING, the supply and the press
asked for; with PAUSED it waits in the deferred slot, or is refused BUSY when the slot is held. The supply asked for
settles from OFF (R83). The press asked for takes the claim and lowers, joins, waits or is answered by the glass state,
and is NO_GLASS in glass mode NONE (R69, R72). Once it is answered and the gate is open, the capture claims the
lighting, with a FULL check ahead of it while the full-check flag is set and no check waits or holds (R80, R93, R100,
R124). The code of the hold value is the model's reading of R171 (notes/assumptions/15.md). The predicted doses kept in
`admitted` are the model's own field (notes/assumptions/5.md); the field index 0 of the refusals is its reading of R164
(notes/assumptions/16.md). That the aiming light is judged, and its interval charged, only at the command's end, after
the admission's prediction, is the model's choice (notes/assumptions/6.md). The status table of R86 is in
LightingSettings, the dose formulas in PredictedChargesKeepTheAllowances. -/
def Obligations.CaptureTaken : Prop :=
  (∀ (log : List Entry) (n : Nat),
      takesAt log n
        = log.countP fun e =>
          match e.body with
          | .capture _ => decide (e.opening = n)
          | .incident _ _ _ => false)
    ∧ (∀ (tag code : Nat) (s : State), Ready s →
      let tells (f : State → State) (reason : Reason) (field : Nat) : Prop :=
        Takes (.capture tag code) s 0x30 tag (fun s => aimRetest (f (idleRestart s))) (.refused reason field)
      let no := tells id
      if code = 0 ∨ 3 < code then no .badValue 1
      else
        let sides : CaptureSides := if code = 1 then .both else if code = 2 then .left else .right
        match openSlot? s.store.slots with
        | none => no .noVolume 0
        | some (_, v) =>
          if s.tracker.state = .uncertain then no .uncertain 0
          else if s.tracker.state ≠ .placed then no .wrongState 0
          else if (s.turner.state ≠ .idle ∧ s.turner.state ≠ .halted)
              ∨ (s.turner.state = .halted ∧ s.turner.parkWaiting = true) then no .busy 0
          else if s.capture.state ≠ .none ∧ s.capture.state ≠ .released then no .busy 0
          else if s.pause.state = .pausedBroken then no .uncertain 0
          else if s.pause.hoodOpen = true then no .hoodOpen 0
          else if code ≠ 3 ∧ sideStatus s.lamps .left = .noLight then no .noLight 1
          else if code ≠ 3 ∧ sideStatus s.lamps .left = .notCalibrated then no .notCalibrated 1
          else if code ≠ 2 ∧ sideStatus s.lamps .right = .noLight then no .noLight 1
          else if code ≠ 2 ∧ sideStatus s.lamps .right = .notCalibrated then no .notCalibrated 1
          else
            ∀ n, s.tracker.n = some n →
              let dose := captureDose s.lamps (firingBanks s.lamps sides) sides
              match predict v { left := 2 * n - 2, right := 2 * n - 1 } dose with
              | some named => tells (fun s => doseRefused s named) (if named = 65535 then .doseVolume else .doseFace) 1
              | none =>
                if freeEntries s ≤ 8 ∨ 255 ≤ takesAt v.log n then no .storeFull 0
                else if s.pause.state = .paused then
                  if s.pause.deferred.isSome = true then no .busy 0
                  else
                    Takes (.capture tag code) s 0x30 tag
                      (fun s =>
                        aimRetest { idleRestart s with pause := { s.pause with deferred := some (.capture code) } })
                      (.own .deferred 4 [])
                else
                  let hold := v.marks.any fun m => (m.leaf + 1 = n || m.leaf = n) && m.kinds.hold
                  let release := if hold then .onAccept else s.capture.releaseMode
                  let record : Capture :=
                    { Capture.restarted s.capture.releaseMode with
                        state := .arming, sides := some sides, opening := some n, take := some (takesAt v.log n + 1)
                        hold := some hold, release := some release, manual := some false
                        progress :=
                          { left := if code = 3 then .notRequested else .triggered
                            right := if code = 2 then .notRequested else .triggered }
                        counter := s.capture.counter, timeout := s.capture.timeout
                        strobeDelay := s.capture.strobeDelay, pedalCapture := s.capture.pedalCapture
                        admitted := dose }
                  Takes (.capture tag code) s 0x30 tag
                    (fun s => aimRetest (armPump (pressRequest (supplyOn { idleRestart s with capture := record }))))
                    (started [u 1 code, u 2 n, u 1 (takesAt v.log n + 1), u 1 (if hold then 0 else 1), u 1 release.code]))
    ∧ (∀ s : State,
      supplyOn s
        = (if s.lamps.supply = .off then
            let on (supply : Supply) : State :=
              { s with
                  lamps :=
                    { s.lamps with
                        supply := supply, settleRun := s.lamps.settle, settleUs := 0, reservoirUs := 0
                        counter := s.lamps.interval, fullCheck := true } }
            if s.lamps.settle = 0 then latch (on .ready) .lampSettled else on .settling
          else s))
    ∧ (∀ (s : State) (slot : SlotId) (v : Volume), openSlot? s.store.slots = some (slot, v) →
      let platenRests (side : Side) :=
        s.pins.position.get side = (s.mech.platens.get side).setpoint ∧ (s.mech.platens.get side).pending = false
      let rests := platenRests .left ∧ platenRests .right ∧ s.pins.angle = s.mech.angleTarget
        ∧ s.mech.anglePending = false
      let waits := s.mech.platens.left.pending = true ∨ s.mech.platens.right.pending = true
        ∨ s.mech.anglePending = true
      let claimed : State := { s with mech := { s.mech with glass := { s.mech.glass with claim := true } } }
      let held : State :=
        { s with mech := { s.mech with glass := { s.mech.glass with claim := true, heldPress := true } } }
      pressRequest s
        = (if v.profile.glassMode = .none then
            { s with
                capture := { s.capture with press := .noGlass, flags := { s.capture.flags with noGlass := true } } }
          else
            match s.mech.glass.state with
            | .raised => if rests then startLowering claimed else held
            | .raising => held
            | .lowering => claimed
            | .pressed =>
              { claimed with
                  capture :=
                    { s.capture with press := if s.capture.state = .arming then .pressed else s.capture.press } }
            | .halted =>
              if waits then
                { held with
                    mech := { held.mech with glass := { held.mech.glass with state := .raising, keptRaise := false } } }
              else startLowering claimed))
    ∧ ∀ s : State,
      let platenRests (side : Side) :=
        s.pins.position.get side = (s.mech.platens.get side).setpoint ∧ (s.mech.platens.get side).pending = false
      armPump s
        = (if s.capture.state = .arming ∧ s.capture.press ≠ .none ∧ platenRests .left ∧ platenRests .right
              ∧ s.pins.angle = s.mech.angleTarget ∧ s.mech.anglePending = false
              ∧ s.mech.glass.state ≠ .lowering ∧ s.mech.glass.state ≠ .raising
              ∧ s.lamps.waitingCapture = false ∧ s.lamps.holder ≠ .capture then
            { s with
                lamps :=
                  { s.lamps with
                      waitingCapture := true
                      waitingCheck :=
                        if s.lamps.fullCheck = true ∧ s.lamps.waitingCheck = none ∧ checkHolds s.lamps = false then
                          some
                            { kind := .full, banks := { la := true, lb := true, ra := true, rb := true }
                              remaining := [.la, .lb, .ra, .rb]
                              results := { la := none, lb := none, ra := none, rb := none }
                              bound := none, lit := false, hoodEnded := false }
                        else s.lamps.waitingCheck } }
          else s)

/-- LIGHTING_READY: the granted capture is predicted again with its fixed banks. It fails: ENDED_DOSE, reported as R109
says. No log entry is free: ENDED_STORE, the log-complete flag clear and STORE INCIDENT_LOST latched. Otherwise its
entry stands PENDING at the end of the log and it is EXPOSING, each requested camera triggered (R94, R110, R125, R126).
That the command asserts that the reservoir covers the cost is the model's choice (notes/assumptions/4.md). -/
def Obligations.LightingReady : Prop :=
  ∀ (s : State) (slot : SlotId) (v : Volume) (n : Nat) (sides : CaptureSides),
    openSlot? s.store.slots = some (slot, v) → s.capture.opening = some n → s.capture.sides = some sides →
    if s.lamps.holder = .capture ∧ s.capture.state = .arming then
      let full : State := { s with lamps := { s.lamps with reservoir := max s.lamps.reservoir s.lamps.captureCost } }
      match predict v { left := 2 * n - 2, right := 2 * n - 1 } (captureDose s.lamps s.lamps.fixedBanks sides) with
      | some named => Does .lightingReady s (aimRetest (captureEndArming (doseRefused full named) .endedDose))
      | none =>
        if freeEntries s = 0 then
          let lost := latch (setSlot full slot (.opened { v with logComplete := false })) (.storeLost 0)
          Does .lightingReady s (aimRetest (captureEndArming lost .endedStore))
        else
          let entry : Entry :=
            { opening := s.tracker.n.getD 0, timestamp := v.clock
              body := .capture
                { take := s.capture.take.getD 0, sides := sides, frames := Sides.both none, doses := Sides.both 0
                  durations := Sides.both 0, banks := Banks.all false, flags := EntryFlags.empty, status := .pending } }
          let stored := setSlot full slot (.opened
            { v with captureCount := v.captureCount + 1, log := v.log ++ [entry] })
          let exposing : State :=
            { stored with
                capture :=
                  { s.capture with
                      state := .exposing, entry := some v.log.length, faceDoses := Sides.both 0
                      trigger := { left := sides.has .left, right := sides.has .right } } }
          Does .lightingReady s
            (aimRetest (if freeEntries s ≤ 257 then latch exposing (.storeLow (freeEntries s - 1)) else exposing))
    else exec .lightingReady s = .next s

/-- The exposure. A rise counts a frame; with no trigger outstanding it is stray, and otherwise the frame's number is
kept, the trigger withdrawn and the strobe delay runs, a delay of 0 starting the strobe at once. A strobe draws its cost
and is charged at its set duration. Its end settles it and awaits the fall; a fall in the delay is UNDER with no strobe,
a fall in the strobe cuts it and is UNDER, a fall after it is the normal one (R92, R111, R112, R121, R126, R127). A cut
strobe's duration is the microseconds of `litUs`, at least 1 (the model's choice, notes/assumptions/5.md); an expiry
asserts its moment (notes/assumptions/4.md); the record takes a strobe's duration at the strobe's end
(notes/assumptions/32.md); UNDER is set by a fall alone (DEDUCED, notes/assumptions/22.md). -/
def Obligations.ExposureEvents : Prop :=
  ∀ (s : State) (side : Side),
    let c := s.capture
    let number := c.counter.get side + 1
    let risen : State :=
      { s with
          capture := { c with counter := c.counter.set side number }
          pins := { s.pins with exposureActive := s.pins.exposureActive.set side true } }
    let fallen : State := { s with pins := { s.pins with exposureActive := s.pins.exposureActive.set side false } }
    (if c.trigger.get side = false then
        Does (.exposureActiveRise side) s (appendIncident risen .strayFrame (sideCode side) number.toNat)
      else
        let delayed : State :=
          { risen with
              capture :=
                { risen.capture with
                    frame := c.frame.set side (some number), trigger := c.trigger.set side false
                    progress := c.progress.set side .delay } }
        Does (.exposureActiveRise side) s
          (if c.strobeDelay.get side = 0 then startStrobe delayed side else delayed))
      ∧ (if c.state = .exposing ∧ c.voiding = false ∧ c.progress.get side = .delay then
            Does (.strobeDelayExpiry side) s (startStrobe s side)
          else exec (.strobeDelayExpiry side) s = .next s)
      ∧ (∀ slot v n, openSlot? s.store.slots = some (slot, v) → c.opening = some n →
          let faces : Sides Nat := { left := 2 * n - 2, right := 2 * n - 1 }
          let dose := strobeDose s.lamps s.lamps.fixedBanks side (s.lamps.duration.get side)
          let drawn (b : Bank) : Nat :=
            if s.lamps.fixedBanks.get b = true then
              (s.lamps.drive.get b * s.lamps.duration.get side + 999) / 1000
            else 0
          let cost := match side with | .left => drawn .la + drawn .lb | .right => drawn .ra + drawn .rb
          let record : CaptureSettle := s.dose.captureSettle.getD
            { slot := slot, faces := faces
              before :=
                { left := (facesGet v.faces (2 * n - 2)).dose.total, right := (facesGet v.faces (2 * n - 1)).dose.total }
              volumeBefore := v.dose.total, predicted := Sides.both none, actual := Sides.both none }
          startStrobe s side
            = charge
              { s with
                  capture := { c with progress := c.progress.set side .lit, litUs := c.litUs.set side 0 }
                  lamps :=
                    { s.lamps with
                        reservoir := s.lamps.reservoir - cost
                        idleStage := .active, idleElapsed := 0, idleUs := 0 }
                  dose :=
                    { s.dose with
                        captureSettle := some { record with predicted := record.predicted.set side (some dose) } } }
              faces dose (some side))
      ∧ (if c.state = .exposing ∧ c.progress.get side = .lit then
            Does (.strobeEnd side) s
              (aimRetest (exposurePump (endStrobe s side (s.lamps.duration.get side) .awaitFall)))
          else exec (.strobeEnd side) s = .next s)
      ∧ if c.state ≠ .exposing then exec (.exposureActiveFall side) s = .next fallen
        else
          let under : State := { fallen with capture := { c with flags := { c.flags with under := true } } }
          let done (u : State) : State :=
            { u with capture := { u.capture with progress := u.capture.progress.set side .done } }
          Does (.exposureActiveFall side) s
            (aimRetest
              (match c.progress.get side with
                | .delay => exposurePump (closeSettle (done under))
                | .lit =>
                  exposurePump (endStrobe under side (max 1 (min (c.litUs.get side) (s.lamps.duration.get side))) .done)
                | .awaitFall => exposurePump (done fallen)
                | _ => fallen))

/-- A completed exposure: the results are written in one write, FOCUS_LIMIT among the flags when a requested side's
target is above the travel (R67), the reference counter rises and, at K or with the full-check flag set, forms the due
check that takes the lighting over unless its prediction fails, the claim on the glass is freed, and the capture awaits
its receipts, or is released or awaits acceptance when they have all come (R99, R129, R131). A camera time-out that runs
voids the capture: the voiding flag, every trigger withdrawn, CAPTURE TIMEOUT with the camera, and a lit strobe of that
side cut and settled at once, the side awaiting its fall; the void ends once no strobe is lit, with results and VOID in
one write, and NONE (R128). Until every requested side is DONE, or, while voiding, as long as a strobe is lit, the
exposure goes on. A CAMERA_TIMEOUT with no such time-out running changes nothing (the model's choice,
notes/assumptions/4.md). That the lighting passes on in the same step, what the record holds in NONE, that a cut side
awaits its fall and a time-out adds no UNDER, that the full check is tried below K, and that FOCUS_LIMIT joins the entry
alone is the model's reading (notes/assumptions/7.md, notes/assumptions/13.md, notes/assumptions/22.md,
notes/assumptions/24.md, notes/assumptions/26.md, notes/assumptions/28.md). How the capture enters NONE is said in
StopSteps. -/
def Obligations.ExposureEnds : Prop :=
  (∀ (s : State) (b x : Bank),
      releaseLighting s = grantNext { s with lamps := { s.lamps with holder := .free } }
        ∧ (oneBank b).get x = decide (x = b))
    ∧ (∀ (s : State) (sides : CaptureSides), s.capture.state = .exposing → s.capture.sides = some sides →
      s.dose.captureSettle = none →
      let c := s.capture
      let fired (set : Bool) (side : Side) : Bool := set && c.duration.get side != 0
      let clamped (side : Side) : Bool :=
        sides.has side && match s.mech.targets with
          | some w => decide (80000 < w.get side)
          | none => false
      let wrote (status : EntryStatus) := onPendingEntry s fun e =>
        { e with
            frames := c.frame, doses := c.faceDoses, durations := c.duration, status := status
            banks :=
              { la := fired s.lamps.fixedBanks.la .left, lb := fired s.lamps.fixedBanks.lb .left
                ra := fired s.lamps.fixedBanks.ra .right, rb := fired s.lamps.fixedBanks.rb .right }
            flags := { c.flags with focusLimit := c.flags.focusLimit || clamped .left || clamped .right } }
      (c.voiding = false → (∀ side, sides.has side = true → c.progress.get side = .done) →
          let counter := min (s.lamps.counter + 1) s.lamps.interval
          let counted : State := { wrote .pending with lamps := { s.lamps with counter := counter } }
          let due :=
            if s.lamps.fullCheck = true then newCheck .full (Banks.all true)
            else newCheck .periodic (if s.lamps.rotation then oneBank s.lamps.pointer else Banks.all true)
          let served :=
            if (counter < s.lamps.interval ∧ s.lamps.fullCheck = false) ∨ s.lamps.waitingCheck.isSome = true then
              releaseLighting counted
            else
              match predictCheck counted due (boundNow counted) (Sides.both 0) with
              | some _ =>
                releaseLighting
                  { counted with
                      lamps := { counted.lamps with deferrals := min (s.lamps.deferrals + 1) 65535 } }
              | none =>
                { counted with
                    lamps := { counted.lamps with holder := .check { due with bound := boundNow counted } } }
          let freed := freeClaim served
          let waiting : State := { freed with capture := { freed.capture with state := .receiptWait } }
          exposurePump s
            = idleRestart
              (if (sides.has .left = true → freed.capture.receipt.left = true)
                  ∧ (sides.has .right = true → freed.capture.receipt.right = true) then
                releaseDecision waiting
                else waiting))
        ∧ (c.voiding = true → c.progress.left ≠ .lit → c.progress.right ≠ .lit →
            exposurePump s = captureToNone (releaseLighting (freeClaim (wrote .void))) .voidTimeout))
    ∧ (∀ s : State,
      (s.capture.state ≠ .exposing → exposurePump s = s)
        ∧ (∀ sides side, s.capture.voiding = false → s.capture.sides = some sides → sides.has side = true →
            s.capture.progress.get side ≠ .done → exposurePump s = s)
        ∧ ∀ side, s.capture.voiding = true → s.capture.progress.get side = .lit → exposurePump s = s)
    ∧ (∀ (s : State) (side : Side),
      let p := s.capture.progress.get side
      if s.capture.state = .exposing ∧ s.capture.voiding = false
          ∧ (p = .triggered ∧ s.capture.trigger.get side = true ∨ p = .delay ∨ p = .lit ∨ p = .awaitFall) then
        let told := latch s (.captureTimeout side)
        let marked : State :=
          { told with
              capture :=
                { s.capture with voiding := true, lastOutcome := .voidTimeout, trigger := Sides.both false } }
        let actual := max 1 (min (s.capture.litUs.get side) (s.lamps.duration.get side))
        Does (.cameraTimeout side) s
          (aimRetest (exposurePump (closeSettle (if p = .lit then endStrobe marked side actual .awaitFall else marked))))
      else exec (.cameraTimeout side) s = .next s)

/-- FRAME_RECEIVED, ACCEPT and REJECT. A receipt is judged by the table of R130 in its order: a wrong camera, a state
that takes none, a number that is not the frame's, a duplicate that changes nothing, or the receipt taken, the last one
of a completed exposure making the release decision. ACCEPT and REJECT write the entry's status (R130 to R133): a write
to the capture entry reaches the entries of the OPEN volume's log whose status is PENDING and no other entry and no
incident (R39). What the record holds in NONE and RELEASED is the model's choice (notes/assumptions/13.md). A record
with no sides, as right after a restart, is refused with its state; outside NONE no run has one, and the model counts it
as BOTH. The codes and the width of the receipts still missing in its reply are the model's reading
(notes/assumptions/15.md), the field index 0 of its refusals likewise (notes/assumptions/16.md). -/
def Obligations.ReceiptsAndRelease : Prop :=
  (∀ (f : CaptureEntry → CaptureEntry) (e : Entry),
      e.onPending f
        = match e.body with
          | .capture c => if c.status = .pending then { e with body := .capture (f c) } else e
          | .incident _ _ _ => e)
    ∧ (∀ (s : State) (f : CaptureEntry → CaptureEntry),
      onPendingEntry s f
        = match openSlot? s.store.slots with
          | none => s
          | some (slot, v) =>
            { s with
                store :=
                  { s.store with slots := s.store.slots.set slot (.opened { v with log := v.log.map (Entry.onPending f) }) } })
    ∧ (∀ (s : State) (status : EntryStatus),
      setPendingStatus s status = onPendingEntry s fun c => { c with status := status })
    ∧ ∀ (tag : Nat) (s : State), Ready s →
    let c := s.capture
    let sides := c.sides.getD .both
    let reply : List Item := [u 2 (c.opening.getD 0), u 1 (c.take.getD 0), u 2 (c.entry.getD 0)]
    (∀ camera number : Nat,
        let no (reason : Reason) (field : Nat) : Prop :=
          Refuses (.frameReceived tag camera number) s 0x31 tag reason field
        if camera = 0 ∨ 2 < camera then no .badValue 1
        else
          let side : Side := if camera = 1 then .left else .right
          let same := c.frame.get side = some (BitVec.ofNat 32 number) ∧ number < 2 ^ 32
          let missing (got : Sides Bool) : Nat :=
            bit (sides.has .left && !got.left) + bit (sides.has .right && !got.right)
          let again := Takes (.frameReceived tag camera number) s 0x31 tag id
            (taken [u 1 camera, u 4 number, u 1 1, u 1 (missing c.receipt)])
          if c.state = .none ∨ c.state = .arming then no .wrongState 0
          else if c.state = .acceptWait ∨ c.state = .released then
            if c.receipt.get side = true ∧ same then again else no .wrongState 0
          else if sides.has side = false then no .wrongFrame 1
          else if c.state = .exposing ∧ c.voiding = true ∨ c.progress.get side ≠ .done then no .wrongState 0
          else if ¬ same then no .wrongFrame 2
          else if c.receipt.get side = true then again
          else
            let got := c.receipt.set side true
            Takes (.frameReceived tag camera number) s 0x31 tag
              (fun s =>
                let noted : State := { s with capture := { c with receipt := got } }
                if c.state = .receiptWait ∧ missing got = 0 then releaseDecision noted else noted)
              (taken [u 1 camera, u 4 number, u 1 0, u 1 (missing got)]))
      ∧ (if c.state ≠ .acceptWait then Refuses (.accept tag) s 0x32 tag .wrongState 0
          else
            Takes (.accept tag) s 0x32 tag
              (fun s =>
                { setPendingStatus s .accepted with
                    capture := { c with state := .released, entry := none, lastOutcome := .released } })
              (taken reply))
      ∧ (if c.state ≠ .receiptWait ∧ c.state ≠ .acceptWait then Refuses (.reject tag) s 0x33 tag .wrongState 0
          else
            Takes (.reject tag) s 0x33 tag
              (fun s =>
                { setPendingStatus s .rejected with
                    capture :=
                      { c with
                          state := .none, progress := Sides.both .notRequested, entry := none
                          lastOutcome := .rejected } })
              (taken reply))
      ∧ releaseDecision s
        = (if c.release = some .onReceipt then
            let accepted := setPendingStatus s .accepted
            latch
              { accepted with
                  capture := { c with state := .released, entry := none, lastOutcome := .released } }
              (.captureReady (c.take.getD 0))
          else latch { s with capture := { c with state := .acceptWait } } (.captureReady (c.take.getD 0)))

/-! ## The Pause Logic (chapter 8) -/

/-- The auxiliary lines. A sampled level that differs from the debounced one opens a window, a return abandons it; the
window's end is an edge, which acts by the line's function: a falling STOP edge is a stop, a falling PEDAL edge a
press, a HOOD edge judges the hood, and a SIGNAL edge of the selected kind is counted and latches AUX (R140 to R142).
That AUX_EDGE with no window open does nothing, and that the aiming light is judged once, at the command's end, are the
model's choices (notes/assumptions/4.md, notes/assumptions/6.md). -/
def Obligations.AuxiliaryLines : Prop :=
  ∀ (line : AuxLine) (s : State),
    let a := s.pause.lines.get line
    (∀ high, exec (.auxLevelChange line high) s
        = .next
          { s with
              pins := { s.pins with aux := s.pins.aux.set line high }
              pause :=
                { s.pause with lines := s.pause.lines.set line { a with window := decide (high ≠ a.debounced) } } })
      ∧ (a.window = false → exec (.auxEdge line) s = .next s)
      ∧ (a.window = true →
          let b : Aux := { a with debounced := !a.debounced, window := false }
          let read : State := { s with pause := { s.pause with lines := s.pause.lines.set line b } }
          let edge : EdgeKind := if a.debounced = true then .falling else .rising
          Does (.auxEdge line) s
            (aimRetest
              (match a.func with
                | .stop => if a.debounced = true then stopTaken read .stop else read
                | .pedal => if a.debounced = true then pedalPress read else read
                | .hood => judgeHood read
                | .signal =>
                  if a.edge = .both ∨ a.edge = (if a.debounced = true then .falling else .rising) then
                    latch
                      { s with
                          pause :=
                            { s.pause with
                                lines := s.pause.lines.set line
                                  { b with edges := { count := min (a.edges.count + 1) 65535, last := some edge } } } }
                      (.auxSignal line edge)
                  else read
                | .none => read)))

/-- A pedal press takes the first of the four meanings of R149 that applies, and records which. A hood state that has
not changed acts no further; a closing changes the state alone; an opening ends the reference checks and is a stop
(R101, R141, R149). The pedal's CAPTURE of BOTH is judged as the request is, and refused it does the same; taken, it is
the same but for the manual item and the flag MANUAL (R122, R123, R149; PauseRequests says that CAPTURE does what
captureArrives does). The hood's opening ends a waiting check ENDED_HOOD, a check that holds the resource at once, or,
while its pulse is lit, when that has been judged (R101). That an acceptance leaves the record RELEASED without its
entry index is the model's choice (notes/assumptions/13.md); that the check ends before the steps of the stop is
DEDUCED (notes/assumptions/30.md); the doses kept in `admitted` are the model's own field (notes/assumptions/5.md). -/
def Obligations.PedalAndHood : Prop :=
  ∀ s : State,
    let record (p : PedalAction) : State := { s with pause := { s.pause with lastPedal := p } }
    pedalPress s
        = (if s.turner.state = .manualWait then
            if s.turner.step = .running then manualCompletes (record .manualDone) else record .ignored
          else if s.capture.state = .acceptWait then
            { setPendingStatus (record .accept) .accepted with
                capture := { s.capture with state := .released, entry := none, lastOutcome := .released } }
          else if s.capture.pedalCapture = true ∧ s.pause.state = .running
              ∧ (s.capture.state = .none ∨ s.capture.state = .released) then
            let out := captureArrives 1 true (record .capture)
            match out.2 with
            | .refused reason _ => { out.1 with capture := { out.1.capture with lastOutcome := .refused reason } }
            | .own _ _ _ => out.1
          else record .ignored)
      ∧ judgeHood s
        = (let q := s.pause.lines
          let opened := q.aux0.func = .hood ∧ q.aux0.debounced = true ∨ q.aux1.func = .hood ∧ q.aux1.debounced = true
            ∨ q.aux2.func = .hood ∧ q.aux2.debounced = true ∨ q.aux3.func = .hood ∧ q.aux3.debounced = true
          if opened then
            if s.pause.hoodOpen = true then s
            else stopTaken (hoodEndsCheck { s with pause := { s.pause with hoodOpen := true } }) .hood
          else { s with pause := { s.pause with hoodOpen := false } })
      ∧ (∀ code, (captureArrives code true s).2 = (captureArrives code false s).2
        ∧ ((∀ items, (captureArrives code false s).2 ≠ .own .started 4 items) →
            captureArrives code true s = captureArrives code false s))
      ∧ (∀ slot v n, openSlot? s.store.slots = some (slot, v) → s.tracker.n = some n → s.pause.state = .running →
          (captureArrives 1 true s).2.isOwn = true →
          let hold := v.marks.any fun m => (m.leaf + 1 = n || m.leaf = n) && m.kinds.hold
          let armed : Capture :=
            { Capture.restarted s.capture.releaseMode with
                state := .arming, sides := some .both, opening := some n, take := some (takesAt v.log n + 1)
                hold := some hold, release := some (if hold then .onAccept else s.capture.releaseMode)
                manual := some true
                flags := { under := false, singleBank := false, focusLimit := false, noGlass := false, manual := true }
                progress := { left := .triggered, right := .triggered }
                counter := s.capture.counter, timeout := s.capture.timeout, strobeDelay := s.capture.strobeDelay
                pedalCapture := s.capture.pedalCapture
                admitted := captureDose s.lamps (firingBanks s.lamps .both) .both }
          (captureArrives 1 true s).1
            = armPump (pressRequest (supplyOn
              { s with
                  capture := armed
                  lamps := { s.lamps with idleStage := .active, idleElapsed := 0, idleUs := 0 } })))
      ∧ (hoodEndsCheck s
          = (let waited := match s.lamps.waitingCheck with
              | some c => finishCheck { s with lamps := { s.lamps with waitingCheck := none } } c .endedHood
              | none => s
            match s.lamps.holder with
            | .check c =>
              if c.lit = true then
                { waited with lamps := { waited.lamps with holder := .check { c with hoodEnded := true } } }
              else endCheck waited c .endedHood
            | _ => waited))

/-- A stop in a pause does nothing (R146). In RUNNING it takes the eight steps of R145 in order: a turner in a motion
phase is HALTED, BROKEN, with the valve by the hold sensor; the pause is PAUSED, or PAUSED_BROKEN with the phase; a
broken pause with a volume OPEN appends PAUSE_BROKEN and makes the tracker UNCERTAIN; a moving glass halts; a capture
under way is voided; the idle timer stands at T_dark; HALT is latched with the cause. The void order ends an ARMING
capture VOID_STOP: its claims are given up, with a FULL check formed ahead of it; it cuts an EXPOSING one: triggers
withdrawn, lit strobes ended and settled, results and VOID in one write, the claim freed, the lighting passed on (R101,
R125, R134). A lost press does the same as ENDED_GLASS or VOID_GLASS and latches CAPTURE GLASS, a failed press ends an
ARMING capture so (R69, R125, R134). A capture that enters NONE loses its receipts and restarts the idle timer (R90,
R130). What else the record holds then is the model's choice (notes/assumptions/13.md), the progress at a cut DEDUCED
(notes/assumptions/28.md). The results carry FOCUS_LIMIT when a requested side's target is above the travel (R67, R129).
A stop with T_dark equal to T_supply leaves the stage DARK (the model's choice, notes/assumptions/8.md); the hold
sensor's reading is that of notes/assumptions/12.md. The step that a HALTED turner shows is that of
notes/assumptions/27.md. Which flags the entry gets (notes/assumptions/22.md, notes/assumptions/26.md) and that a
waiting claimant is granted in the releasing step (notes/assumptions/7.md) is the model's reading. -/
def Obligations.StopSteps : Prop :=
  (∀ (s : State) (cause : PauseCause),
      let condition : Condition := match cause with | .stop => .haltStop | .hood => .haltHood
      let rest (u : State) : State :=
        let glass := if u.mech.glass.state = .lowering ∨ u.mech.glass.state = .raising then .halted else u.mech.glass.state
        let voided := voidOrder { u with mech := { u.mech with glass := { u.mech.glass with state := glass } } }
        latch
          (if voided.lamps.tDark ≤ voided.lamps.idleElapsed then voided
            else
              { voided with
                  lamps :=
                    { voided.lamps with idleStage := .dark, idleElapsed := voided.lamps.tDark, idleUs := 0 } })
          condition
      (s.pause.state ≠ .running → stopTaken s cause = s)
        ∧ (s.pause.state = .running → s.turner.step = .glassWait ∨ s.turner.state = .idle
              ∨ s.turner.state = .manualWait ∨ s.turner.state = .halted →
            stopTaken s cause
              = rest { s with pause := { s.pause with state := .paused, cause := some cause, brokenPhase := none } })
        ∧ (s.pause.state = .running → s.turner.step = .running → ∀ phase,
            (match s.turner.state with
              | .reach => phase = 1
              | .lift => phase = 2
              | .separate => phase = 3
              | .restore => phase = 4
              | .carry => phase = 5
              | .lay => phase = 6
              | .ret => phase = if s.turner.purpose = some .park then 8 else 7
              | _ => False) →
            let halted : State :=
              { s with
                  turner :=
                    { s.turner with
                        state := .halted, purpose := none, lastOutcome := .broken
                        cupHeld := s.pins.hold, valveClosed := s.pins.hold }
                  pause :=
                    { s.pause with state := .pausedBroken, cause := some cause, brokenPhase := some phase } }
            stopTaken s cause
              = rest
                (if openSlot? s.store.slots = none then halted
                  else
                    let noted := appendIncident halted .pauseBroken cause.code phase
                    let left := if s.tracker.state = .placed then leavePlaced noted else noted
                    latch { left with tracker := { left.tracker with state := .uncertain } } (.uncertainBroken phase))))
    ∧ (∀ (s : State) (outcome : CaptureOutcome),
      let glass := s.mech.glass
      let rises := glass.keptRaise = true ∧ (glass.state = .lowering ∨ glass.state = .pressed)
      let left : State :=
        { s with
            lamps :=
              { s.lamps with
                  waitingCapture := false
                  waitingCheck :=
                    if s.lamps.waitingCheck.map Check.kind = some .full then none else s.lamps.waitingCheck } }
      freeClaim s
          = { s with
                mech :=
                  { s.mech with
                      glass :=
                        { glass with
                            claim := false, state := if rises then .raising else glass.state
                            keptRaise := if rises then false else glass.keptRaise } } }
        ∧ captureToNone s outcome
          = { freeClaim s with
                capture :=
                  { s.capture with
                      state := .none, voiding := false, progress := { left := .notRequested, right := .notRequested }
                      trigger := { left := false, right := false }, receipt := { left := false, right := false }
                      press := .none, entry := none, lastOutcome := outcome, litUs := { left := 0, right := 0 } }
                lamps := { s.lamps with idleStage := .active, idleElapsed := 0, idleUs := 0 } }
        ∧ captureEndArming s outcome
          = captureToNone
            (if s.lamps.holder = .capture then
              grantNext { left with lamps := { left.lamps with holder := .free } }
            else left) outcome)
    ∧ (∀ (s : State) (outcome : CaptureOutcome),
      let marked : State :=
        { s with capture := { s.capture with voiding := true, trigger := { left := false, right := false } } }
      let cut (side : Side) (u : State) : State :=
        if u.capture.progress.get side = .lit then
          endStrobe u side (max 1 (min (u.capture.litUs.get side) (u.lamps.duration.get side))) .awaitFall
        else u
      let dark := closeSettle (cut .right (cut .left marked))
      let freed := freeClaim (writeResults dark .void)
      voidExposing s outcome
        = captureToNone (grantNext { freed with lamps := { freed.lamps with holder := .free } })
          (if s.capture.voiding = true then .voidTimeout else outcome))
    ∧ ∀ s : State,
      let answered : State :=
        { s with mech := { s.mech with glass := { s.mech.glass with heldPress := false } } }
      voidOrder s
          = (match s.capture.state with
            | .arming => captureEndArming s .voidStop
            | .exposing => voidExposing s .voidStop
            | _ => s)
        ∧ pressLost s
          = (match s.capture.state with
            | .arming => latch (captureEndArming (freeClaim s) .endedGlass) .captureGlass
            | .exposing => latch (voidExposing (freeClaim s) .voidGlass) .captureGlass
            | _ => freeClaim s)
        ∧ pressFailed s
          = (if s.mech.glass.claim = true then
              if s.capture.state = .arming then
                latch (captureEndArming (freeClaim answered) .endedGlass) .captureGlass
              else freeClaim answered
            else answered)
        ∧ ∀ status : EntryStatus,
          writeResults s status
            = (let c := s.capture
              let fired (set : Bool) (side : Side) : Bool := set && c.duration.get side != 0
              let clamped (side : Side) : Bool :=
                (c.sides.getD .both).has side && match s.mech.targets with
                  | some w => decide (80000 < w.get side)
                  | none => false
              onPendingEntry s fun e =>
                { e with
                    frames := c.frame, doses := c.faceDoses, durations := c.duration, status := status
                    banks :=
                      { la := fired s.lamps.fixedBanks.la .left, lb := fired s.lamps.fixedBanks.lb .left
                        ra := fired s.lamps.fixedBanks.ra .right, rb := fired s.lamps.fixedBanks.rb .right }
                    flags := { c.flags with focusLimit := c.flags.focusLimit || clamped .left || clamped .right } })

/-- RESUME, SET_AUX and READ_AUX. RESUME is refused WRONG_STATE in RUNNING and HOOD_OPEN with the hood open; otherwise
the pause is RUNNING, a HALTED glass rises, and a deferred request starts as if it had just arrived, its outcome
recorded and carried by the reply, a refusal latched. SET_AUX makes the range checks of R143, and replaces all settings,
a changed line losing its pending edges, before the hood is judged. READ_AUX carries the record of R139 item by item and
clears the pending edges it reports (R143, R144, R148). A TURN or a CAPTURE arrives as turnArrives or captureArrives
says, whose effects TurnTaken and CaptureTaken write out. The layouts of RESUME's and READ_AUX's replies, and the codes
of the outcome in RESUME's (0 NONE, 1 STARTED, 2 REFUSED with the reason), are the model's choice
(notes/assumptions/15.md), the field index 0 of WRONG_STATE and HOOD_OPEN its reading of R164 (notes/assumptions/16.md);
the aiming light is judged at the command's end, after a deferred request's prediction (notes/assumptions/6.md). That
SET_AUX is judged WRONG_STATE before BAD_VALUE is the model's choice (notes/assumptions/31.md). -/
def Obligations.PauseRequests : Prop :=
  (∀ (tag a b : Nat) (s : State), Ready s →
      Takes (.turn tag a b) s 0x10 tag (fun s => aimRetest (turnArrives a b s).1)
          (turnArrives a b (enqueue s 0x10 tag)).2
        ∧ Takes (.capture tag a) s 0x30 tag (fun s => aimRetest (captureArrives a false s).1)
          (captureArrives a false (enqueue s 0x30 tag)).2)
    ∧ (∀ p : Pause,
      let line (a : Aux) : List Item :=
        [ u 1 (match a.func with | .none => 0 | .stop => 1 | .pedal => 2 | .hood => 3 | .signal => 4),
          u 1 (match a.edge with | .rising => 0 | .falling => 1 | .both => 2),
          u 1 (if a.debounced = true then 0 else 1), u 2 a.edges.count,
          ou 1 (a.edges.last.map fun e => match e with | .rising => 0 | .falling => 1) ]
      auxItems p
        = [ u 1 p.state.code, ou 1 (p.cause.map fun c => match c with | .stop => 0 | .hood => 1), ou 1 p.brokenPhase ]
          ++ line p.lines.aux0 ++ line p.lines.aux1 ++ line p.lines.aux2 ++ line p.lines.aux3
          ++ [ u 1 (if p.hoodOpen = true then 1 else 0),
               ou 1 (p.deferred.map fun d => match d with | .turn _ _ => 0x10 | .capture _ => 0x30),
               .opt 2 (match p.deferred with | some (.turn direction flags) => some (le 1 direction ++ le 1 flags) | _ => none),
               .opt 1 (match p.deferred with | some (.capture sides) => some (le 1 sides) | _ => none),
               .bytes (match p.lastDeferred with
                 | .none => [0, 0]
                 | .started => [1, 0]
                 | .refused r => [2, BitVec.ofNat 8 r.number]),
               u 1 (match p.lastPedal with
                 | .none => 0
                 | .manualDone => 1
                 | .accept => 2
                 | .capture => 3
                 | .ignored => 4) ])
    ∧ [DeferredOutcome.none, .started].map DeferredOutcome.codes = [[0, 0], [1, 0]]
    ∧ (∀ r : Reason, (DeferredOutcome.refused r).codes = [2, BitVec.ofNat 8 r.number])
    ∧ ∀ (tag : Nat) (s : State), Ready s →
      (if s.pause.state = .running then Refuses (.resume tag) s 0x38 tag .wrongState 0
        else if s.pause.hoodOpen = true then Refuses (.resume tag) s 0x38 tag .hoodOpen 0
        else
          let resumed (s : State) : State :=
            { s with
                pause := { s.pause with state := .running, cause := none, brokenPhase := none, deferred := none }
                mech :=
                  if s.mech.glass.state = .halted then
                    { s.mech with glass := { s.mech.glass with state := .raising, keptRaise := false } }
                  else s.mech }
          let was := u 1 s.pause.state.code
          match s.pause.deferred with
          | none =>
            Takes (.resume tag) s 0x38 tag (fun s => aimRetest (resumed s)) (taken [was, ou 1 none, .opt 2 none])
          | some d =>
            let kind := match d with | .turn _ _ => 0x10 | .capture _ => 0x30
            let starts (s : State) : State × Answer :=
              match d with
              | .turn direction flags => turnArrives direction flags (resumed s)
              | .capture sides => captureArrives sides false (resumed s)
            ∃ o : DeferredOutcome,
              (∀ t, exec (.resume tag) s = .next t → t.pause.lastDeferred = o)
              ∧ Takes (.resume tag) s 0x38 tag
              (fun s =>
                let out := starts s
                aimRetest
                  (match out.2 with
                    | .refused reason _ =>
                      latch { out.1 with pause := { out.1.pause with lastDeferred := .refused reason } }
                        (.haltDeferredRefused reason)
                    | .own _ _ _ => { out.1 with pause := { out.1.pause with lastDeferred := .started } }))
              (taken [was, ou 1 (some kind), .opt 2 (some o.codes)]))
        ∧ (∀ f0 e0 f1 e1 f2 e2 f3 e3 : Nat,
            let no (reason : Reason) (field : Nat) : Prop :=
              Refuses (.setAux tag f0 e0 f1 e1 f2 e2 f3 e3) s 0x39 tag reason field
            if s.pause.state = .pausedBroken then no .wrongState 0
            else if 4 < f0 then no .badValue 1
            else if 2 < e0 then no .badValue 2
            else if 4 < f1 then no .badValue 3
            else if 2 < e1 then no .badValue 4
            else if 4 < f2 then no .badValue 5
            else if 2 < e2 then no .badValue 6
            else if 4 < f3 then no .badValue 7
            else if 2 < e3 then no .badValue 8
            else
              let func (k : Nat) : LineFunction :=
                match k with | 0 => .none | 1 => .stop | 2 => .pedal | 3 => .hood | _ => .signal
              let edge (k : Nat) : EdgeSelection := match k with | 0 => .rising | 1 => .falling | _ => .both
              let line (a : Aux) (f e : Nat) : Aux :=
                { a with
                    func := func f, edge := edge e
                    edges := if a.func = func f ∧ a.edge = edge e then a.edges else { count := 0, last := none } }
              let lines : Lines Aux :=
                { aux0 := line s.pause.lines.aux0 f0 e0, aux1 := line s.pause.lines.aux1 f1 e1
                  aux2 := line s.pause.lines.aux2 f2 e2, aux3 := line s.pause.lines.aux3 f3 e3 }
              let pause :=
                if hoodFrom lines = true ∧ s.pause.hoodOpen = false ∧ s.pause.state = .running then
                  if inMotion s.turner = true then 2 else 1
                else s.pause.state.code
              Takes (.setAux tag f0 e0 f1 e1 f2 e2 f3 e3) s 0x39 tag
                (fun s => aimRetest (judgeHood { s with pause := { s.pause with lines := lines } }))
                (taken [u 1 f0, u 1 e0, u 1 f1, u 1 e1, u 1 f2, u 1 e2, u 1 f3, u 1 e3,
                  u 1 (bit (hoodFrom lines)), u 1 pause]))
        ∧ Takes (.readAux tag) s 0x3A tag
          (fun s =>
            let clear (a : Aux) : Aux := { a with edges := { count := 0, last := none } }
            { s with
                pause :=
                  { s.pause with
                      lines :=
                        { aux0 := clear s.pause.lines.aux0, aux1 := clear s.pause.lines.aux1
                          aux2 := clear s.pause.lines.aux2, aux3 := clear s.pause.lines.aux3 } } })
          (taken (auxItems s.pause))

/-! ## The Condition Summary (chapter 9) -/

/-- Every condition has the class, the detail number and the argument of R152's table. A report latches its class: the
first one is kept, a further one sets the repeated flag; and asks for an attention frame when the class is enabled and
none is outstanding. STATUS clears every class and the outstanding flag. Its reply carries the classes that were
latched, in class-number order, the mask, the elevated class, whether attention was outstanding, and the live states
(R156). SET_ATTENTION makes the checks of R157, replaces mask and elevated class, and asks when a class of the new mask
is latched with nothing outstanding (R153, R154, R156, R157). Which frame the free transmitter takes at the command's
end is notes/assumptions/6.md. The code of the last item of SET_ATTENTION's reply is the model's reading
(notes/assumptions/15.md). -/
def Obligations.AttentionRaised : Prop :=
  (let row (k : Condition) (c : CondClass) (detail arg : Nat) : Prop := k.cls = c ∧ k.detail = detail ∧ k.arg = arg;
    [CondClass.halt, .uncertain, .dose, .lamp, .turn, .capture, .store, .aux, .link].map CondClass.number
        = [1, 2, 3, 4, 5, 6, 7, 8, 9]
      ∧ row .haltStop .halt 1 0 ∧ row .haltHood .halt 2 0
      ∧ (∀ reason, row (.haltDeferredRefused reason) .halt 3 reason.number)
      ∧ (∀ phase, row (.uncertainBroken phase) .uncertain 1 phase ∧ row (.uncertainTimeout phase) .uncertain 2 phase)
      ∧ (∀ cause, row (.uncertainRestart cause) .uncertain 3 cause)
      ∧ (∀ face, row (.doseWarn face) .dose 1 face ∧ row (.doseLimit face) .dose 2 face
          ∧ row (.doseAimCut face) .dose 3 face)
      ∧ (∀ bank : Bank,
        let number := match bank with | .la => 1 | .lb => 2 | .ra => 3 | .rb => 4
        row (.lampDrift bank) .lamp 1 number ∧ row (.lampFailed bank) .lamp 2 number)
      ∧ row .lampSettled .lamp 3 0
      ∧ row (.lampCheckDone .complete) .lamp 4 1 ∧ row (.lampCheckDone .endedHood) .lamp 4 2
      ∧ row (.lampCheckDone .endedUncertain) .lamp 4 3 ∧ row (.lampCheckDone .refusedDose) .lamp 4 4
      ∧ (∀ n, row (.turnDone n) .turn 1 n)
      ∧ (∀ cause, row (.turnFailed cause) .turn 2 cause ∧ row (.turnParkFailed cause) .turn 3 cause)
      ∧ (∀ take, row (.captureReady take) .capture 1 take)
      ∧ row (.captureTimeout .left) .capture 2 1 ∧ row (.captureTimeout .right) .capture 2 2
      ∧ row .captureGlass .capture 3 0
      ∧ (∀ free, row (.storeLow free) .store 1 free) ∧ (∀ kind, row (.storeLost kind) .store 2 kind)
      ∧ (∀ (line : AuxLine) (edge : EdgeKind),
        row (.auxSignal line edge) .aux (match line with | .aux0 => 0 | .aux1 => 1 | .aux2 => 2 | .aux3 => 3)
          (match edge with | .rising => 1 | .falling => 2))
      ∧ ∀ length, row (.linkBadCrc length) .link 1 length ∧ row (.linkGap length) .link 2 length
          ∧ row (.linkOverlength length) .link 3 length)
    ∧ (∀ (s : State) (k : Condition),
      let held := match s.summary.latches.get k.cls with
        | none => { detail := k.detail, arg := k.arg, repeated := false }
        | some x => { x with repeated := true }
      let latches := s.summary.latches.set k.cls (some held)
      latch s k
        = if s.summary.mask.getLsbD (k.cls.number - 1) = true ∧ s.summary.outstanding = false then
            { s with
                summary := { s.summary with latches := latches, outstanding := true }
                link := { s.link with attentionQueued := true } }
          else { s with summary := { s.summary with latches := latches } })
    ∧ (∀ s : State,
      let m := s.summary
      let n (b : Bool) : Nat := if b = true then 1 else 0
      let record (number : Nat) (x : Option Latched) : List Byte :=
        match x with
        | some x => le 1 number ++ le 1 x.detail ++ le 2 x.arg ++ le 1 (n x.repeated)
        | none => []
      let q := m.latches
      statusItems s
        = [ u 1 (n q.halt.isSome + n q.uncertain.isSome + n q.dose.isSome + n q.lamp.isSome + n q.turn.isSome
              + n q.capture.isSome + n q.store.isSome + n q.aux.isSome + n q.link.isSome),
            u 2 m.mask.toNat,
            u 1 (match m.elevated with
              | none => 0
              | some .halt => 1
              | some .uncertain => 2
              | some .dose => 3
              | some .lamp => 4
              | some .turn => 5
              | some .capture => 6
              | some .store => 7
              | some .aux => 8
              | some .link => 9),
            u 1 (n m.outstanding + 2 * n s.tracker.n.isSome), u 1 s.pause.state.code, u 1 s.tracker.state.code,
            u 2 (s.tracker.n.getD 0), u 1 s.capture.state.code, u 1 s.turner.state.code, u 1 s.lamps.supply.code,
            u 1 (n s.pause.hoodOpen),
            .bytes (record 1 q.halt ++ record 2 q.uncertain ++ record 3 q.dose ++ record 4 q.lamp ++ record 5 q.turn
              ++ record 6 q.capture ++ record 7 q.store ++ record 8 q.aux ++ record 9 q.link) ])
    ∧ ∀ (tag : Nat) (s : State), Ready s →
        (Takes (.status tag) s 0x40 tag (fun s => { s with summary := { s.summary with latches := Latches.empty } })
              (taken (statusItems s))
            ∧ ∀ t, exec (.status tag) s = .next t → t.summary.outstanding = false)
          ∧ ∀ mask elevated : Nat,
              if 512 ≤ mask then Refuses (.setAttention tag mask elevated) s 0x41 tag .badValue 1
              else if elevated ≠ 0 ∧ (9 < elevated ∨ mask.testBit (elevated - 1) = false) then
                Refuses (.setAttention tag mask elevated) s 0x41 tag .badValue 2
              else
                let asks := s.summary.outstanding = false
                  ∧ ∃ c, mask.testBit (c.number - 1) = true ∧ (s.summary.latches.get c).isSome = true
                ∃ asked : Bool, (asked = true ↔ asks)
                  ∧ Takes (.setAttention tag mask elevated) s 0x41 tag
                    (fun s =>
                      { s with
                          summary :=
                            { s.summary with mask := BitVec.ofNat 9 mask, elevated := CondClass.ofNumber? elevated } })
                    (taken [u 2 mask, u 1 elevated, u 1 (bit asked)])
                  ∧ (asks → ∀ t, exec (.setAttention tag mask elevated) s = .next t → t.summary.outstanding = true)

/-! ## What every step keeps -/

/-- Whatever command runs, the records of the store stay within their widths: the face records in canonical form, the
log entries and the face records of all slots within the two pools, marks in leaf order and at most 64 (R7, R21 to
R23). -/
def Obligations.StepsKeepTheStore : Prop := ∀ s t : State, StoreSound s → step s = .next t → StoreSound t

/-- Whatever command runs, at most one slot is OPEN, the tracker stands at it and has an opening in PLACED only,
between 1 and L+1, and a turn runs in PLACED only, between openings that exist (R3, R11, R12, R20, R46). -/
def Obligations.StepsKeepTheTracker : Prop := ∀ s t : State, TrackerSound s → step s = .next t → TrackerSound t

/-- Whatever command runs, the settings and counts of the Lamp Controller stay in their ranges, the reservoir and a
capture's cost within the reservoir's capacity (R82, R92). -/
def Obligations.StepsKeepTheLamps : Prop :=
  ∀ s t : State, LampsInRange s.lamps → step s = .next t → LampsInRange t.lamps

/-- Whatever command runs, the cause of a pause is absent in RUNNING only, the broken phase present in PAUSED_BROKEN
only, a request deferred in PAUSED only, and the hood state the one the debounced levels give (R139, R141, R147). -/
def Obligations.StepsKeepThePause : Prop :=
  ∀ s t : State, PauseSound s.pause → step s = .next t → PauseSound t.pause

/-- Whatever command runs, the request queue holds exactly the requests whose replies are not yet sent whole, at most
four of them, at most four QUEUE_FULL refusals wait, and the aging count is at most 4 (R163, R165). -/
def Obligations.StepsKeepTheLink : Prop := ∀ s t : State, LinkSound s.link → step s = .next t → LinkSound t.link

/-- The law of R108: whatever command runs, no face record of any volume comes to hold more dose than its volume's page
allowance, and no volume's dose exceeds its volume allowance. It is kept together with what makes it so (DoseSound):
every flash that may still come without a further prediction fits (the strobes of an EXPOSING capture, the pulses of a
bound check), and no settle raises a total (R107, R110, R111, R114, R115). The premises are the laws that
StepsKeepTheStore, StepsKeepTheTracker and StepsKeepTheLamps say every step keeps, and FirstPowerOnIsSound that the
first power-on gives; a waiting check with all its banks before it and a trigger standing on a waiting side alone, both
part of DoseSound, are the model's own record of R95, R123 and R126. -/
def Obligations.StepsKeepTheAllowances : Prop :=
  ∀ s t : State, StoreSound s → TrackerSound s → LampsInRange s.lamps → DoseSound s → step s = .next t →
    DoseSound t
      ∧ ∀ (i : SlotId) (v : Volume), (t.store.slots.get i).volume? = some v →
          (∀ f, (facesGet v.faces f).dose.whole * 1000 + (facesGet v.faces f).dose.rem ≤ v.profile.pageAllowance * 1000)
            ∧ v.dose.whole * 1000 + v.dose.rem ≤ v.profile.volumeAllowance * 1000
end

