-- ==== Sys2Proof/Laws/State.lean ====
section
/-! SUPPORT. What each record update writes and what it leaves: one lemma for each update, true by `rfl`, so that no
proof unfolds a record update. -/

namespace Sys2Proof.Machine

/-! ## The small containers -/

@[simp] theorem Sides.get_set {α : Type} (p : Sides α) (a b : Side) (v : α) :
    (p.set a v).get b = if a = b then v else p.get b := by
  cases a <;> cases b <;> rfl
@[simp] theorem Banks.get_set {α : Type} (q : Banks α) (a b : Bank) (v : α) :
    (q.set a v).get b = if a = b then v else q.get b := by
  cases a <;> cases b <;> rfl
@[simp] theorem Lines.get_set {α : Type} (q : Lines α) (a b : AuxLine) (v : α) :
    (q.set a v).get b = if a = b then v else q.get b := by
  cases a <;> cases b <;> rfl
@[simp] theorem Slots.get_set (q : Slots) (i j : SlotId) (v : Slot) :
    (q.set i v).get j = if i = j then v else q.get j := by
  cases i <;> cases j <;> rfl
@[simp] theorem Latches.get_set (l : Latches) (a b : CondClass) (v : Option Latched) :
    (l.set a v).get b = if a = b then v else l.get b := by
  cases a <;> cases b <;> rfl

/-! ## What an update writes -/

@[simp] theorem setGlass_glass (s : State) (g : Glass) : (setGlass s g).mech.glass = g := rfl
@[simp] theorem setGlass_rest (s : State) (g : Glass) :
    (setGlass s g).mech.platens = s.mech.platens ∧ (setGlass s g).mech.angleTarget = s.mech.angleTarget
      ∧ (setGlass s g).mech.anglePending = s.mech.anglePending := ⟨rfl, rfl, rfl⟩
@[simp] theorem setCapture_capture (s : State) (c : Capture) : (setCapture s c).capture = c := rfl
@[simp] theorem setLamps_lamps (s : State) (l : Lamps) : (setLamps s l).lamps = l := rfl
@[simp] theorem setTurner_turner (s : State) (t : Turner) : (setTurner s t).turner = t := rfl
@[simp] theorem setTracker_tracker (s : State) (t : Tracker) : (setTracker s t).tracker = t := rfl
@[simp] theorem setPause_pause (s : State) (p : Pause) : (setPause s p).pause = p := rfl
@[simp] theorem setFramer_framer (s : State) (f : Framer) : (setFramer s f).link.framer = f := rfl
@[simp] theorem setSlot_slots (s : State) (i : SlotId) (v : Slot) :
    (setSlot s i v).store.slots = s.store.slots.set i v := rfl
@[simp] theorem enqueue_queue (s : State) (kind tag : Nat) :
    (enqueue s kind tag).link.queue = s.link.queue ++ [{ kind := kind, tag := tag }] := rfl
@[simp] theorem makeReply_replies (s : State) (r : Reply) :
    (makeReply s r).link.replies = s.link.replies ++ [r] := rfl
@[simp] theorem aimDark_aiming (s : State) : (aimDark s).dose.aiming = none := rfl
@[simp] theorem idleRestart_timer (s : State) :
    (idleRestart s).lamps.idleStage = .active ∧ (idleRestart s).lamps.idleElapsed = 0 := ⟨rfl, rfl⟩
@[simp] theorem supplyOff_supply (s : State) :
    (supplyOff s).lamps.supply = .off ∧ (supplyOff s).lamps.reservoir = 0 := ⟨rfl, rfl⟩
@[simp] theorem askAttention_asks (s : State) :
    (askAttention s).summary.outstanding = true ∧ (askAttention s).link.attentionQueued = true := ⟨rfl, rfl⟩

/-! ## What an update leaves -/

@[simp] theorem askAttention_frame (s : State) :
    (askAttention s).pending = s.pending ∧ (askAttention s).pins = s.pins ∧ (askAttention s).store = s.store
      ∧ (askAttention s).tracker = s.tracker ∧ (askAttention s).turner = s.turner
      ∧ (askAttention s).mech = s.mech ∧ (askAttention s).lamps = s.lamps ∧ (askAttention s).dose = s.dose
      ∧ (askAttention s).capture = s.capture ∧ (askAttention s).pause = s.pause
      ∧ (askAttention s).summary.mask = s.summary.mask ∧ (askAttention s).summary.elevated = s.summary.elevated
      ∧ (askAttention s).link.framer = s.link.framer ∧ (askAttention s).link.queue = s.link.queue
      ∧ (askAttention s).link.replies = s.link.replies ∧ (askAttention s).link.resetting = s.link.resetting
      ∧ (askAttention s).link.rate = s.link.rate :=
  ⟨rfl, rfl, rfl, rfl, rfl, rfl, rfl, rfl, rfl, rfl, rfl, rfl, rfl, rfl, rfl, rfl, rfl⟩

@[simp] theorem setSlot_frame (s : State) (i : SlotId) (v : Slot) :
    (setSlot s i v).pending = s.pending ∧ (setSlot s i v).pins = s.pins
      ∧ (setSlot s i v).store.stream = s.store.stream ∧ (setSlot s i v).tracker = s.tracker
      ∧ (setSlot s i v).turner = s.turner ∧ (setSlot s i v).mech = s.mech ∧ (setSlot s i v).lamps = s.lamps
      ∧ (setSlot s i v).dose = s.dose ∧ (setSlot s i v).capture = s.capture ∧ (setSlot s i v).pause = s.pause
      ∧ (setSlot s i v).summary = s.summary ∧ (setSlot s i v).link = s.link :=
  ⟨rfl, rfl, rfl, rfl, rfl, rfl, rfl, rfl, rfl, rfl, rfl, rfl⟩

@[simp] theorem makeReply_frame (s : State) (r : Reply) :
    (makeReply s r).pending = s.pending ∧ (makeReply s r).pins = s.pins ∧ (makeReply s r).store = s.store
      ∧ (makeReply s r).tracker = s.tracker ∧ (makeReply s r).turner = s.turner ∧ (makeReply s r).mech = s.mech
      ∧ (makeReply s r).lamps = s.lamps ∧ (makeReply s r).dose = s.dose ∧ (makeReply s r).capture = s.capture
      ∧ (makeReply s r).pause = s.pause ∧ (makeReply s r).summary = s.summary
      ∧ (makeReply s r).link.framer = s.link.framer ∧ (makeReply s r).link.queue = s.link.queue
      ∧ (makeReply s r).link.resetting = s.link.resetting ∧ (makeReply s r).link.rate = s.link.rate :=
  ⟨rfl, rfl, rfl, rfl, rfl, rfl, rfl, rfl, rfl, rfl, rfl, rfl, rfl, rfl, rfl⟩

@[simp] theorem enqueue_frame (s : State) (kind tag : Nat) :
    (enqueue s kind tag).pending = s.pending ∧ (enqueue s kind tag).pins = s.pins
      ∧ (enqueue s kind tag).store = s.store ∧ (enqueue s kind tag).tracker = s.tracker
      ∧ (enqueue s kind tag).turner = s.turner ∧ (enqueue s kind tag).mech = s.mech
      ∧ (enqueue s kind tag).lamps = s.lamps ∧ (enqueue s kind tag).dose = s.dose
      ∧ (enqueue s kind tag).capture = s.capture ∧ (enqueue s kind tag).pause = s.pause
      ∧ (enqueue s kind tag).summary = s.summary ∧ (enqueue s kind tag).link.framer = s.link.framer
      ∧ (enqueue s kind tag).link.replies = s.link.replies
      ∧ (enqueue s kind tag).link.resetting = s.link.resetting ∧ (enqueue s kind tag).link.rate = s.link.rate :=
  ⟨rfl, rfl, rfl, rfl, rfl, rfl, rfl, rfl, rfl, rfl, rfl, rfl, rfl, rfl, rfl⟩

@[simp] theorem idleRestart_frame (s : State) :
    (idleRestart s).pending = s.pending ∧ (idleRestart s).pins = s.pins ∧ (idleRestart s).store = s.store
      ∧ (idleRestart s).tracker = s.tracker ∧ (idleRestart s).turner = s.turner ∧ (idleRestart s).mech = s.mech
      ∧ (idleRestart s).dose = s.dose ∧ (idleRestart s).capture = s.capture ∧ (idleRestart s).pause = s.pause
      ∧ (idleRestart s).summary = s.summary ∧ (idleRestart s).link = s.link :=
  ⟨rfl, rfl, rfl, rfl, rfl, rfl, rfl, rfl, rfl, rfl, rfl⟩

@[simp] theorem supplyOff_frame (s : State) :
    (supplyOff s).pending = s.pending ∧ (supplyOff s).pins = s.pins ∧ (supplyOff s).store = s.store
      ∧ (supplyOff s).tracker = s.tracker ∧ (supplyOff s).turner = s.turner ∧ (supplyOff s).mech = s.mech
      ∧ (supplyOff s).dose = s.dose ∧ (supplyOff s).capture = s.capture ∧ (supplyOff s).pause = s.pause
      ∧ (supplyOff s).summary = s.summary ∧ (supplyOff s).link = s.link :=
  ⟨rfl, rfl, rfl, rfl, rfl, rfl, rfl, rfl, rfl, rfl, rfl⟩

@[simp] theorem aimDark_frame (s : State) :
    (aimDark s).pending = s.pending ∧ (aimDark s).pins = s.pins ∧ (aimDark s).store = s.store
      ∧ (aimDark s).tracker = s.tracker ∧ (aimDark s).turner = s.turner ∧ (aimDark s).mech = s.mech
      ∧ (aimDark s).lamps = s.lamps ∧ (aimDark s).capture = s.capture ∧ (aimDark s).pause = s.pause
      ∧ (aimDark s).summary = s.summary ∧ (aimDark s).link = s.link
      ∧ (aimDark s).dose.captureSettle = s.dose.captureSettle
      ∧ (aimDark s).dose.pulseSettle = s.dose.pulseSettle
      ∧ (aimDark s).dose.lastRefusal = s.dose.lastRefusal :=
  ⟨rfl, rfl, rfl, rfl, rfl, rfl, rfl, rfl, rfl, rfl, rfl, rfl, rfl, rfl⟩

@[simp] theorem setGlass_frame (s : State) (g : Glass) :
    (setGlass s g).pending = s.pending ∧ (setGlass s g).pins = s.pins ∧ (setGlass s g).store = s.store
      ∧ (setGlass s g).tracker = s.tracker ∧ (setGlass s g).turner = s.turner
      ∧ (setGlass s g).mech.targets = s.mech.targets ∧ (setGlass s g).lamps = s.lamps
      ∧ (setGlass s g).dose = s.dose ∧ (setGlass s g).capture = s.capture ∧ (setGlass s g).pause = s.pause
      ∧ (setGlass s g).summary = s.summary ∧ (setGlass s g).link = s.link :=
  ⟨rfl, rfl, rfl, rfl, rfl, rfl, rfl, rfl, rfl, rfl, rfl, rfl⟩

@[simp] theorem setCapture_frame (s : State) (c : Capture) :
    (setCapture s c).pending = s.pending ∧ (setCapture s c).pins = s.pins ∧ (setCapture s c).store = s.store
      ∧ (setCapture s c).tracker = s.tracker ∧ (setCapture s c).turner = s.turner
      ∧ (setCapture s c).mech = s.mech ∧ (setCapture s c).lamps = s.lamps ∧ (setCapture s c).dose = s.dose
      ∧ (setCapture s c).pause = s.pause ∧ (setCapture s c).summary = s.summary
      ∧ (setCapture s c).link = s.link :=
  ⟨rfl, rfl, rfl, rfl, rfl, rfl, rfl, rfl, rfl, rfl, rfl⟩

@[simp] theorem setLamps_frame (s : State) (l : Lamps) :
    (setLamps s l).pending = s.pending ∧ (setLamps s l).pins = s.pins ∧ (setLamps s l).store = s.store
      ∧ (setLamps s l).tracker = s.tracker ∧ (setLamps s l).turner = s.turner ∧ (setLamps s l).mech = s.mech
      ∧ (setLamps s l).dose = s.dose ∧ (setLamps s l).capture = s.capture ∧ (setLamps s l).pause = s.pause
      ∧ (setLamps s l).summary = s.summary ∧ (setLamps s l).link = s.link :=
  ⟨rfl, rfl, rfl, rfl, rfl, rfl, rfl, rfl, rfl, rfl, rfl⟩

@[simp] theorem setTurner_frame (s : State) (t : Turner) :
    (setTurner s t).pending = s.pending ∧ (setTurner s t).pins = s.pins ∧ (setTurner s t).store = s.store
      ∧ (setTurner s t).tracker = s.tracker ∧ (setTurner s t).mech = s.mech ∧ (setTurner s t).lamps = s.lamps
      ∧ (setTurner s t).dose = s.dose ∧ (setTurner s t).capture = s.capture ∧ (setTurner s t).pause = s.pause
      ∧ (setTurner s t).summary = s.summary ∧ (setTurner s t).link = s.link :=
  ⟨rfl, rfl, rfl, rfl, rfl, rfl, rfl, rfl, rfl, rfl, rfl⟩

@[simp] theorem setTracker_frame (s : State) (t : Tracker) :
    (setTracker s t).pending = s.pending ∧ (setTracker s t).pins = s.pins ∧ (setTracker s t).store = s.store
      ∧ (setTracker s t).turner = s.turner ∧ (setTracker s t).mech = s.mech ∧ (setTracker s t).lamps = s.lamps
      ∧ (setTracker s t).dose = s.dose ∧ (setTracker s t).capture = s.capture
      ∧ (setTracker s t).pause = s.pause ∧ (setTracker s t).summary = s.summary
      ∧ (setTracker s t).link = s.link :=
  ⟨rfl, rfl, rfl, rfl, rfl, rfl, rfl, rfl, rfl, rfl, rfl⟩

@[simp] theorem covered_frame (s : State) (cost : Nat) :
    (covered s cost).pending = s.pending ∧ (covered s cost).pins = s.pins ∧ (covered s cost).store = s.store
      ∧ (covered s cost).tracker = s.tracker ∧ (covered s cost).turner = s.turner
      ∧ (covered s cost).mech = s.mech ∧ (covered s cost).dose = s.dose ∧ (covered s cost).capture = s.capture
      ∧ (covered s cost).pause = s.pause ∧ (covered s cost).summary = s.summary
      ∧ (covered s cost).link = s.link :=
  ⟨rfl, rfl, rfl, rfl, rfl, rfl, rfl, rfl, rfl, rfl, rfl⟩

@[simp] theorem countRise_frame (s : State) (side : Side) :
    (countRise s side).pending = s.pending ∧ (countRise s side).store = s.store
      ∧ (countRise s side).tracker = s.tracker ∧ (countRise s side).turner = s.turner
      ∧ (countRise s side).mech = s.mech ∧ (countRise s side).lamps = s.lamps
      ∧ (countRise s side).dose = s.dose ∧ (countRise s side).pause = s.pause
      ∧ (countRise s side).summary = s.summary ∧ (countRise s side).link = s.link :=
  ⟨rfl, rfl, rfl, rfl, rfl, rfl, rfl, rfl, rfl, rfl⟩

@[simp] theorem setPause_frame (s : State) (p : Pause) :
    (setPause s p).pending = s.pending ∧ (setPause s p).pins = s.pins ∧ (setPause s p).store = s.store
      ∧ (setPause s p).tracker = s.tracker ∧ (setPause s p).turner = s.turner ∧ (setPause s p).mech = s.mech
      ∧ (setPause s p).lamps = s.lamps ∧ (setPause s p).dose = s.dose ∧ (setPause s p).capture = s.capture
      ∧ (setPause s p).summary = s.summary ∧ (setPause s p).link = s.link :=
  ⟨rfl, rfl, rfl, rfl, rfl, rfl, rfl, rfl, rfl, rfl, rfl⟩

@[simp] theorem setMask_frame (s : State) (mask : BitVec 9) (elevated : Option CondClass) :
    (setMask s mask elevated).pending = s.pending ∧ (setMask s mask elevated).pins = s.pins
      ∧ (setMask s mask elevated).store = s.store ∧ (setMask s mask elevated).tracker = s.tracker
      ∧ (setMask s mask elevated).turner = s.turner ∧ (setMask s mask elevated).mech = s.mech
      ∧ (setMask s mask elevated).lamps = s.lamps ∧ (setMask s mask elevated).dose = s.dose
      ∧ (setMask s mask elevated).capture = s.capture ∧ (setMask s mask elevated).pause = s.pause
      ∧ (setMask s mask elevated).link = s.link :=
  ⟨rfl, rfl, rfl, rfl, rfl, rfl, rfl, rfl, rfl, rfl, rfl⟩

@[simp] theorem setFramer_frame (s : State) (f : Framer) :
    (setFramer s f).pending = s.pending ∧ (setFramer s f).pins = s.pins ∧ (setFramer s f).store = s.store
      ∧ (setFramer s f).tracker = s.tracker ∧ (setFramer s f).turner = s.turner ∧ (setFramer s f).mech = s.mech
      ∧ (setFramer s f).lamps = s.lamps ∧ (setFramer s f).dose = s.dose ∧ (setFramer s f).capture = s.capture
      ∧ (setFramer s f).pause = s.pause ∧ (setFramer s f).summary = s.summary
      ∧ (setFramer s f).link.queue = s.link.queue ∧ (setFramer s f).link.replies = s.link.replies
      ∧ (setFramer s f).link.resetting = s.link.resetting ∧ (setFramer s f).link.rate = s.link.rate :=
  ⟨rfl, rfl, rfl, rfl, rfl, rfl, rfl, rfl, rfl, rfl, rfl, rfl, rfl, rfl, rfl⟩

@[simp] theorem replyLeaves_frame (s : State) (r : Reply) (rest : List Reply) :
    (replyLeaves s r rest).pending = s.pending ∧ (replyLeaves s r rest).pins = s.pins
      ∧ (replyLeaves s r rest).store = s.store ∧ (replyLeaves s r rest).tracker = s.tracker
      ∧ (replyLeaves s r rest).turner = s.turner ∧ (replyLeaves s r rest).mech = s.mech
      ∧ (replyLeaves s r rest).lamps = s.lamps ∧ (replyLeaves s r rest).dose = s.dose
      ∧ (replyLeaves s r rest).capture = s.capture ∧ (replyLeaves s r rest).pause = s.pause
      ∧ (replyLeaves s r rest).summary = s.summary ∧ (replyLeaves s r rest).link.framer = s.link.framer
      ∧ (replyLeaves s r rest).link.resetting = s.link.resetting
      ∧ (replyLeaves s r rest).link.rate = s.link.rate :=
  ⟨rfl, rfl, rfl, rfl, rfl, rfl, rfl, rfl, rfl, rfl, rfl, rfl, rfl, rfl⟩

@[simp] theorem chunkWaits_frame (s : State) :
    (chunkWaits s).pending = s.pending ∧ (chunkWaits s).pins = s.pins ∧ (chunkWaits s).store = s.store
      ∧ (chunkWaits s).tracker = s.tracker ∧ (chunkWaits s).turner = s.turner ∧ (chunkWaits s).mech = s.mech
      ∧ (chunkWaits s).lamps = s.lamps ∧ (chunkWaits s).dose = s.dose ∧ (chunkWaits s).capture = s.capture
      ∧ (chunkWaits s).pause = s.pause ∧ (chunkWaits s).summary = s.summary
      ∧ (chunkWaits s).link.framer = s.link.framer ∧ (chunkWaits s).link.queue = s.link.queue
      ∧ (chunkWaits s).link.replies = s.link.replies ∧ (chunkWaits s).link.resetting = s.link.resetting
      ∧ (chunkWaits s).link.rate = s.link.rate :=
  ⟨rfl, rfl, rfl, rfl, rfl, rfl, rfl, rfl, rfl, rfl, rfl, rfl, rfl, rfl, rfl, rfl⟩

end Sys2Proof.Machine
end

