-- ==== Sys2Proof/Laws/Frames.lean ====
section
/-! SUPPORT. The frame of each shared operation and of what each request does: the blocks, and the parts of blocks,
that it leaves as they were. A frame is one conjunction, which `simp` takes apart. -/

namespace Sys2Proof.Machine

@[simp] theorem latch_frame (s : State) (k : Condition) :
    (latch s k).pending = s.pending ∧ (latch s k).pins = s.pins ∧ (latch s k).store = s.store
      ∧ (latch s k).tracker = s.tracker ∧ (latch s k).turner = s.turner ∧ (latch s k).mech = s.mech
      ∧ (latch s k).lamps = s.lamps ∧ (latch s k).dose = s.dose ∧ (latch s k).capture = s.capture
      ∧ (latch s k).pause = s.pause ∧ (latch s k).summary.mask = s.summary.mask
      ∧ (latch s k).summary.elevated = s.summary.elevated ∧ (latch s k).link.framer = s.link.framer
      ∧ (latch s k).link.queue = s.link.queue ∧ (latch s k).link.replies = s.link.replies
      ∧ (latch s k).link.resetting = s.link.resetting ∧ (latch s k).link.rate = s.link.rate := by
  unfold latch; (repeat' split) <;> simp

@[simp] theorem onOpen_frame (s : State) (f : Volume → Volume) :
    (onOpen s f).pending = s.pending ∧ (onOpen s f).pins = s.pins ∧ (onOpen s f).store.stream = s.store.stream
      ∧ (onOpen s f).tracker = s.tracker ∧ (onOpen s f).turner = s.turner ∧ (onOpen s f).mech = s.mech
      ∧ (onOpen s f).lamps = s.lamps ∧ (onOpen s f).dose = s.dose ∧ (onOpen s f).capture = s.capture
      ∧ (onOpen s f).pause = s.pause ∧ (onOpen s f).summary = s.summary ∧ (onOpen s f).link = s.link := by
  unfold onOpen; (repeat' split) <;> simp

@[simp] theorem onOpenSlot_frame (s : State) (i : SlotId) (f : Volume → Volume) :
    (onOpenSlot s i f).pending = s.pending ∧ (onOpenSlot s i f).pins = s.pins
      ∧ (onOpenSlot s i f).store.stream = s.store.stream ∧ (onOpenSlot s i f).tracker = s.tracker
      ∧ (onOpenSlot s i f).turner = s.turner ∧ (onOpenSlot s i f).mech = s.mech
      ∧ (onOpenSlot s i f).lamps = s.lamps ∧ (onOpenSlot s i f).dose = s.dose
      ∧ (onOpenSlot s i f).capture = s.capture ∧ (onOpenSlot s i f).pause = s.pause
      ∧ (onOpenSlot s i f).summary = s.summary ∧ (onOpenSlot s i f).link = s.link := by
  unfold onOpenSlot; (repeat' split) <;> simp

@[simp] theorem latchLow_frame (s : State) :
    (latchLow s).pending = s.pending ∧ (latchLow s).pins = s.pins ∧ (latchLow s).store = s.store
      ∧ (latchLow s).tracker = s.tracker ∧ (latchLow s).turner = s.turner ∧ (latchLow s).mech = s.mech
      ∧ (latchLow s).lamps = s.lamps ∧ (latchLow s).dose = s.dose ∧ (latchLow s).capture = s.capture
      ∧ (latchLow s).pause = s.pause ∧ (latchLow s).summary.mask = s.summary.mask
      ∧ (latchLow s).summary.elevated = s.summary.elevated ∧ (latchLow s).link.framer = s.link.framer
      ∧ (latchLow s).link.queue = s.link.queue ∧ (latchLow s).link.replies = s.link.replies
      ∧ (latchLow s).link.resetting = s.link.resetting ∧ (latchLow s).link.rate = s.link.rate := by
  unfold latchLow; (repeat' split) <;> simp

@[simp] theorem loseEntry_frame (s : State) (code : Nat) :
    (loseEntry s code).pending = s.pending ∧ (loseEntry s code).pins = s.pins
      ∧ (loseEntry s code).store.stream = s.store.stream ∧ (loseEntry s code).tracker = s.tracker
      ∧ (loseEntry s code).turner = s.turner ∧ (loseEntry s code).mech = s.mech
      ∧ (loseEntry s code).lamps = s.lamps ∧ (loseEntry s code).dose = s.dose
      ∧ (loseEntry s code).capture = s.capture ∧ (loseEntry s code).pause = s.pause
      ∧ (loseEntry s code).summary.mask = s.summary.mask
      ∧ (loseEntry s code).summary.elevated = s.summary.elevated
      ∧ (loseEntry s code).link.framer = s.link.framer ∧ (loseEntry s code).link.queue = s.link.queue
      ∧ (loseEntry s code).link.replies = s.link.replies ∧ (loseEntry s code).link.resetting = s.link.resetting
      ∧ (loseEntry s code).link.rate = s.link.rate := by
  simp [loseEntry]

@[simp] theorem storeEntry_frame (s : State) (body : EntryBody) :
    (storeEntry s body).pending = s.pending ∧ (storeEntry s body).pins = s.pins
      ∧ (storeEntry s body).store.stream = s.store.stream ∧ (storeEntry s body).tracker = s.tracker
      ∧ (storeEntry s body).turner = s.turner ∧ (storeEntry s body).mech = s.mech
      ∧ (storeEntry s body).lamps = s.lamps ∧ (storeEntry s body).dose = s.dose
      ∧ (storeEntry s body).capture = s.capture ∧ (storeEntry s body).pause = s.pause
      ∧ (storeEntry s body).summary = s.summary ∧ (storeEntry s body).link = s.link := by
  simp [storeEntry]

@[simp] theorem appendIncident_frame (s : State) (kind : IncidentKind) (detail second : Nat) :
    (appendIncident s kind detail second).pending = s.pending
      ∧ (appendIncident s kind detail second).pins = s.pins
      ∧ (appendIncident s kind detail second).store.stream = s.store.stream
      ∧ (appendIncident s kind detail second).tracker = s.tracker
      ∧ (appendIncident s kind detail second).turner = s.turner
      ∧ (appendIncident s kind detail second).mech = s.mech
      ∧ (appendIncident s kind detail second).lamps = s.lamps
      ∧ (appendIncident s kind detail second).dose = s.dose
      ∧ (appendIncident s kind detail second).capture = s.capture
      ∧ (appendIncident s kind detail second).pause = s.pause
      ∧ (appendIncident s kind detail second).summary.mask = s.summary.mask
      ∧ (appendIncident s kind detail second).summary.elevated = s.summary.elevated
      ∧ (appendIncident s kind detail second).link.framer = s.link.framer
      ∧ (appendIncident s kind detail second).link.queue = s.link.queue
      ∧ (appendIncident s kind detail second).link.replies = s.link.replies
      ∧ (appendIncident s kind detail second).link.resetting = s.link.resetting
      ∧ (appendIncident s kind detail second).link.rate = s.link.rate := by
  unfold appendIncident; (repeat' split) <;> simp

@[simp] theorem onPendingEntry_frame (s : State) (f : CaptureEntry → CaptureEntry) :
    (onPendingEntry s f).pending = s.pending ∧ (onPendingEntry s f).pins = s.pins
      ∧ (onPendingEntry s f).store.stream = s.store.stream ∧ (onPendingEntry s f).tracker = s.tracker
      ∧ (onPendingEntry s f).turner = s.turner ∧ (onPendingEntry s f).mech = s.mech
      ∧ (onPendingEntry s f).lamps = s.lamps ∧ (onPendingEntry s f).dose = s.dose
      ∧ (onPendingEntry s f).capture = s.capture ∧ (onPendingEntry s f).pause = s.pause
      ∧ (onPendingEntry s f).summary = s.summary ∧ (onPendingEntry s f).link = s.link := by
  simp [onPendingEntry]

@[simp] theorem setPendingStatus_frame (s : State) (status : EntryStatus) :
    (setPendingStatus s status).pending = s.pending ∧ (setPendingStatus s status).pins = s.pins
      ∧ (setPendingStatus s status).store.stream = s.store.stream
      ∧ (setPendingStatus s status).tracker = s.tracker ∧ (setPendingStatus s status).turner = s.turner
      ∧ (setPendingStatus s status).mech = s.mech ∧ (setPendingStatus s status).lamps = s.lamps
      ∧ (setPendingStatus s status).dose = s.dose ∧ (setPendingStatus s status).capture = s.capture
      ∧ (setPendingStatus s status).pause = s.pause ∧ (setPendingStatus s status).summary = s.summary
      ∧ (setPendingStatus s status).link = s.link := by
  simp [setPendingStatus]

@[simp] theorem sendReply_frame (s : State) :
    (sendReply s).pending = s.pending ∧ (sendReply s).pins = s.pins ∧ (sendReply s).store = s.store
      ∧ (sendReply s).tracker = s.tracker ∧ (sendReply s).turner = s.turner ∧ (sendReply s).mech = s.mech
      ∧ (sendReply s).lamps = s.lamps ∧ (sendReply s).dose = s.dose ∧ (sendReply s).capture = s.capture
      ∧ (sendReply s).pause = s.pause ∧ (sendReply s).summary = s.summary
      ∧ (sendReply s).link.framer = s.link.framer ∧ (sendReply s).link.queue = s.link.queue
      ∧ (sendReply s).link.replies = s.link.replies ∧ (sendReply s).link.resetting = s.link.resetting
      ∧ (sendReply s).link.rate = s.link.rate := by
  unfold sendReply; (repeat' split) <;> simp

@[simp] theorem sendChunk_frame (s : State) :
    (sendChunk s).pending = s.pending ∧ (sendChunk s).pins = s.pins ∧ (sendChunk s).store = s.store
      ∧ (sendChunk s).tracker = s.tracker ∧ (sendChunk s).turner = s.turner ∧ (sendChunk s).mech = s.mech
      ∧ (sendChunk s).lamps = s.lamps ∧ (sendChunk s).dose = s.dose ∧ (sendChunk s).capture = s.capture
      ∧ (sendChunk s).pause = s.pause ∧ (sendChunk s).summary = s.summary
      ∧ (sendChunk s).link.framer = s.link.framer ∧ (sendChunk s).link.queue = s.link.queue
      ∧ (sendChunk s).link.replies = s.link.replies ∧ (sendChunk s).link.resetting = s.link.resetting
      ∧ (sendChunk s).link.rate = s.link.rate := by
  unfold sendChunk; (repeat' split) <;> simp

@[simp] theorem sendReplyOrChunk_frame (s : State) :
    (sendReplyOrChunk s).pending = s.pending ∧ (sendReplyOrChunk s).pins = s.pins
      ∧ (sendReplyOrChunk s).store = s.store ∧ (sendReplyOrChunk s).tracker = s.tracker
      ∧ (sendReplyOrChunk s).turner = s.turner ∧ (sendReplyOrChunk s).mech = s.mech
      ∧ (sendReplyOrChunk s).lamps = s.lamps ∧ (sendReplyOrChunk s).dose = s.dose
      ∧ (sendReplyOrChunk s).capture = s.capture ∧ (sendReplyOrChunk s).pause = s.pause
      ∧ (sendReplyOrChunk s).summary = s.summary ∧ (sendReplyOrChunk s).link.framer = s.link.framer
      ∧ (sendReplyOrChunk s).link.queue = s.link.queue ∧ (sendReplyOrChunk s).link.replies = s.link.replies
      ∧ (sendReplyOrChunk s).link.resetting = s.link.resetting ∧ (sendReplyOrChunk s).link.rate = s.link.rate := by
  unfold sendReplyOrChunk; (repeat' split) <;> simp

@[simp] theorem sendAttention_frame (s : State) :
    (sendAttention s).pending = s.pending ∧ (sendAttention s).pins = s.pins ∧ (sendAttention s).store = s.store
      ∧ (sendAttention s).tracker = s.tracker ∧ (sendAttention s).turner = s.turner
      ∧ (sendAttention s).mech = s.mech ∧ (sendAttention s).lamps = s.lamps ∧ (sendAttention s).dose = s.dose
      ∧ (sendAttention s).capture = s.capture ∧ (sendAttention s).pause = s.pause
      ∧ (sendAttention s).summary.mask = s.summary.mask
      ∧ (sendAttention s).summary.elevated = s.summary.elevated ∧ (sendAttention s).link.framer = s.link.framer
      ∧ (sendAttention s).link.queue = s.link.queue ∧ (sendAttention s).link.replies = s.link.replies
      ∧ (sendAttention s).link.resetting = s.link.resetting ∧ (sendAttention s).link.rate = s.link.rate := by
  unfold sendAttention; (repeat' split) <;> simp

@[simp] theorem transmit_frame (s : State) :
    (transmit s).pending = s.pending ∧ (transmit s).pins = s.pins ∧ (transmit s).store = s.store
      ∧ (transmit s).tracker = s.tracker ∧ (transmit s).turner = s.turner ∧ (transmit s).mech = s.mech
      ∧ (transmit s).lamps = s.lamps ∧ (transmit s).dose = s.dose ∧ (transmit s).capture = s.capture
      ∧ (transmit s).pause = s.pause ∧ (transmit s).summary.mask = s.summary.mask
      ∧ (transmit s).summary.elevated = s.summary.elevated ∧ (transmit s).link.framer = s.link.framer
      ∧ (transmit s).link.queue = s.link.queue ∧ (transmit s).link.replies = s.link.replies
      ∧ (transmit s).link.resetting = s.link.resetting ∧ (transmit s).link.rate = s.link.rate := by
  unfold transmit; (repeat' split) <;> simp

@[simp] theorem logDoseLimit_frame (s : State) (cause named : Nat) :
    (logDoseLimit s cause named).pending = s.pending ∧ (logDoseLimit s cause named).pins = s.pins
      ∧ (logDoseLimit s cause named).store.stream = s.store.stream
      ∧ (logDoseLimit s cause named).tracker.state = s.tracker.state
      ∧ (logDoseLimit s cause named).tracker.slot = s.tracker.slot
      ∧ (logDoseLimit s cause named).tracker.n = s.tracker.n ∧ (logDoseLimit s cause named).turner = s.turner
      ∧ (logDoseLimit s cause named).mech = s.mech ∧ (logDoseLimit s cause named).lamps = s.lamps
      ∧ (logDoseLimit s cause named).dose = s.dose ∧ (logDoseLimit s cause named).capture = s.capture
      ∧ (logDoseLimit s cause named).pause = s.pause
      ∧ (logDoseLimit s cause named).summary.mask = s.summary.mask
      ∧ (logDoseLimit s cause named).summary.elevated = s.summary.elevated
      ∧ (logDoseLimit s cause named).link.framer = s.link.framer
      ∧ (logDoseLimit s cause named).link.queue = s.link.queue
      ∧ (logDoseLimit s cause named).link.replies = s.link.replies
      ∧ (logDoseLimit s cause named).link.resetting = s.link.resetting
      ∧ (logDoseLimit s cause named).link.rate = s.link.rate := by
  unfold logDoseLimit; (repeat' split) <;> simp

@[simp] theorem doseRefused_frame (s : State) (named : Nat) :
    (doseRefused s named).pending = s.pending ∧ (doseRefused s named).pins = s.pins
      ∧ (doseRefused s named).store.stream = s.store.stream
      ∧ (doseRefused s named).tracker.state = s.tracker.state
      ∧ (doseRefused s named).tracker.slot = s.tracker.slot ∧ (doseRefused s named).tracker.n = s.tracker.n
      ∧ (doseRefused s named).turner = s.turner ∧ (doseRefused s named).mech = s.mech
      ∧ (doseRefused s named).lamps = s.lamps ∧ (doseRefused s named).capture = s.capture
      ∧ (doseRefused s named).pause = s.pause ∧ (doseRefused s named).summary.mask = s.summary.mask
      ∧ (doseRefused s named).summary.elevated = s.summary.elevated
      ∧ (doseRefused s named).link.framer = s.link.framer ∧ (doseRefused s named).link.queue = s.link.queue
      ∧ (doseRefused s named).link.replies = s.link.replies
      ∧ (doseRefused s named).link.resetting = s.link.resetting ∧ (doseRefused s named).link.rate = s.link.rate := by
  simp [doseRefused]

@[simp] theorem warnOne_frame (s : State) (level before after named : Nat) :
    (warnOne s level before after named).pending = s.pending
      ∧ (warnOne s level before after named).pins = s.pins
      ∧ (warnOne s level before after named).store = s.store
      ∧ (warnOne s level before after named).tracker = s.tracker
      ∧ (warnOne s level before after named).turner = s.turner
      ∧ (warnOne s level before after named).mech = s.mech
      ∧ (warnOne s level before after named).lamps = s.lamps
      ∧ (warnOne s level before after named).dose = s.dose
      ∧ (warnOne s level before after named).capture = s.capture
      ∧ (warnOne s level before after named).pause = s.pause
      ∧ (warnOne s level before after named).summary.mask = s.summary.mask
      ∧ (warnOne s level before after named).summary.elevated = s.summary.elevated
      ∧ (warnOne s level before after named).link.framer = s.link.framer
      ∧ (warnOne s level before after named).link.queue = s.link.queue
      ∧ (warnOne s level before after named).link.replies = s.link.replies
      ∧ (warnOne s level before after named).link.resetting = s.link.resetting
      ∧ (warnOne s level before after named).link.rate = s.link.rate := by
  unfold warnOne; (repeat' split) <;> simp

@[simp] theorem charge_frame (s : State) (faces dose : Sides Nat) (own : Option Side) :
    (charge s faces dose own).pending = s.pending ∧ (charge s faces dose own).pins = s.pins
      ∧ (charge s faces dose own).store.stream = s.store.stream ∧ (charge s faces dose own).tracker = s.tracker
      ∧ (charge s faces dose own).turner = s.turner ∧ (charge s faces dose own).mech = s.mech
      ∧ (charge s faces dose own).lamps = s.lamps ∧ (charge s faces dose own).dose = s.dose
      ∧ (charge s faces dose own).capture = s.capture ∧ (charge s faces dose own).pause = s.pause
      ∧ (charge s faces dose own).summary.mask = s.summary.mask
      ∧ (charge s faces dose own).summary.elevated = s.summary.elevated
      ∧ (charge s faces dose own).link.framer = s.link.framer
      ∧ (charge s faces dose own).link.queue = s.link.queue
      ∧ (charge s faces dose own).link.replies = s.link.replies
      ∧ (charge s faces dose own).link.resetting = s.link.resetting
      ∧ (charge s faces dose own).link.rate = s.link.rate := by
  unfold charge; (repeat' split) <;> simp

@[simp] theorem chargeStrobe_frame (s : State) (side : Side) :
    (chargeStrobe s side).pending = s.pending ∧ (chargeStrobe s side).pins = s.pins
      ∧ (chargeStrobe s side).store.stream = s.store.stream ∧ (chargeStrobe s side).tracker = s.tracker
      ∧ (chargeStrobe s side).turner = s.turner ∧ (chargeStrobe s side).mech = s.mech
      ∧ (chargeStrobe s side).lamps = s.lamps ∧ (chargeStrobe s side).capture = s.capture
      ∧ (chargeStrobe s side).pause = s.pause ∧ (chargeStrobe s side).summary.mask = s.summary.mask
      ∧ (chargeStrobe s side).summary.elevated = s.summary.elevated
      ∧ (chargeStrobe s side).link.framer = s.link.framer ∧ (chargeStrobe s side).link.queue = s.link.queue
      ∧ (chargeStrobe s side).link.replies = s.link.replies
      ∧ (chargeStrobe s side).link.resetting = s.link.resetting ∧ (chargeStrobe s side).link.rate = s.link.rate := by
  unfold chargeStrobe; (repeat' split) <;> simp

@[simp] theorem closeSettle_frame (s : State) :
    (closeSettle s).pending = s.pending ∧ (closeSettle s).pins = s.pins ∧ (closeSettle s).store = s.store
      ∧ (closeSettle s).tracker = s.tracker ∧ (closeSettle s).turner = s.turner ∧ (closeSettle s).mech = s.mech
      ∧ (closeSettle s).lamps = s.lamps ∧ (closeSettle s).pause = s.pause ∧ (closeSettle s).summary = s.summary
      ∧ (closeSettle s).link = s.link := by
  unfold closeSettle; (repeat' split) <;> simp

@[simp] theorem settleStrobe_frame (s : State) (side : Side) (actual : Nat) :
    (settleStrobe s side actual).pending = s.pending ∧ (settleStrobe s side actual).pins = s.pins
      ∧ (settleStrobe s side actual).store.stream = s.store.stream
      ∧ (settleStrobe s side actual).tracker = s.tracker ∧ (settleStrobe s side actual).turner = s.turner
      ∧ (settleStrobe s side actual).mech = s.mech ∧ (settleStrobe s side actual).lamps = s.lamps
      ∧ (settleStrobe s side actual).capture = s.capture ∧ (settleStrobe s side actual).pause = s.pause
      ∧ (settleStrobe s side actual).summary = s.summary ∧ (settleStrobe s side actual).link = s.link := by
  unfold settleStrobe; (repeat' split) <;> simp

@[simp] theorem chargePulse_frame (s : State) (bound : BoundFaces) (b : Bank) :
    (chargePulse s bound b).pending = s.pending ∧ (chargePulse s bound b).pins = s.pins
      ∧ (chargePulse s bound b).store.stream = s.store.stream ∧ (chargePulse s bound b).tracker = s.tracker
      ∧ (chargePulse s bound b).turner = s.turner ∧ (chargePulse s bound b).mech = s.mech
      ∧ (chargePulse s bound b).lamps = s.lamps ∧ (chargePulse s bound b).capture = s.capture
      ∧ (chargePulse s bound b).pause = s.pause ∧ (chargePulse s bound b).summary.mask = s.summary.mask
      ∧ (chargePulse s bound b).summary.elevated = s.summary.elevated
      ∧ (chargePulse s bound b).link.framer = s.link.framer ∧ (chargePulse s bound b).link.queue = s.link.queue
      ∧ (chargePulse s bound b).link.replies = s.link.replies
      ∧ (chargePulse s bound b).link.resetting = s.link.resetting
      ∧ (chargePulse s bound b).link.rate = s.link.rate := by
  unfold chargePulse; (repeat' split) <;> simp

@[simp] theorem settlePulse_frame (s : State) (reading : Nat) :
    (settlePulse s reading).pending = s.pending ∧ (settlePulse s reading).pins = s.pins
      ∧ (settlePulse s reading).store.stream = s.store.stream ∧ (settlePulse s reading).tracker = s.tracker
      ∧ (settlePulse s reading).turner = s.turner ∧ (settlePulse s reading).mech = s.mech
      ∧ (settlePulse s reading).lamps = s.lamps ∧ (settlePulse s reading).capture = s.capture
      ∧ (settlePulse s reading).pause = s.pause ∧ (settlePulse s reading).summary = s.summary
      ∧ (settlePulse s reading).link = s.link := by
  unfold settlePulse; (repeat' split) <;> simp

@[simp] theorem idleReleased_frame (s : State) :
    (idleReleased s).pending = s.pending ∧ (idleReleased s).pins = s.pins ∧ (idleReleased s).store = s.store
      ∧ (idleReleased s).tracker = s.tracker ∧ (idleReleased s).turner = s.turner
      ∧ (idleReleased s).mech = s.mech ∧ (idleReleased s).dose = s.dose ∧ (idleReleased s).capture = s.capture
      ∧ (idleReleased s).pause = s.pause ∧ (idleReleased s).summary = s.summary
      ∧ (idleReleased s).link = s.link := by
  unfold idleReleased; (repeat' split) <;> simp

@[simp] theorem idleDark_frame (s : State) :
    (idleDark s).pending = s.pending ∧ (idleDark s).pins = s.pins ∧ (idleDark s).store = s.store
      ∧ (idleDark s).tracker = s.tracker ∧ (idleDark s).turner = s.turner ∧ (idleDark s).mech = s.mech
      ∧ (idleDark s).dose = s.dose ∧ (idleDark s).capture = s.capture ∧ (idleDark s).pause = s.pause
      ∧ (idleDark s).summary = s.summary ∧ (idleDark s).link = s.link := by
  unfold idleDark; (repeat' split) <;> simp

@[simp] theorem supplyReady_frame (s : State) :
    (supplyReady s).pending = s.pending ∧ (supplyReady s).pins = s.pins ∧ (supplyReady s).store = s.store
      ∧ (supplyReady s).tracker = s.tracker ∧ (supplyReady s).turner = s.turner ∧ (supplyReady s).mech = s.mech
      ∧ (supplyReady s).dose = s.dose ∧ (supplyReady s).capture = s.capture ∧ (supplyReady s).pause = s.pause
      ∧ (supplyReady s).summary.mask = s.summary.mask ∧ (supplyReady s).summary.elevated = s.summary.elevated
      ∧ (supplyReady s).link.framer = s.link.framer ∧ (supplyReady s).link.queue = s.link.queue
      ∧ (supplyReady s).link.replies = s.link.replies ∧ (supplyReady s).link.resetting = s.link.resetting
      ∧ (supplyReady s).link.rate = s.link.rate := by
  simp [supplyReady]

@[simp] theorem supplyOn_frame (s : State) :
    (supplyOn s).pending = s.pending ∧ (supplyOn s).pins = s.pins ∧ (supplyOn s).store = s.store
      ∧ (supplyOn s).tracker = s.tracker ∧ (supplyOn s).turner = s.turner ∧ (supplyOn s).mech = s.mech
      ∧ (supplyOn s).dose = s.dose ∧ (supplyOn s).capture = s.capture ∧ (supplyOn s).pause = s.pause
      ∧ (supplyOn s).summary.mask = s.summary.mask ∧ (supplyOn s).summary.elevated = s.summary.elevated
      ∧ (supplyOn s).link.framer = s.link.framer ∧ (supplyOn s).link.queue = s.link.queue
      ∧ (supplyOn s).link.replies = s.link.replies ∧ (supplyOn s).link.resetting = s.link.resetting
      ∧ (supplyOn s).link.rate = s.link.rate := by
  unfold supplyOn; (repeat' split) <;> simp

@[simp] theorem aimCut_frame (s : State) (named : Nat) :
    (aimCut s named).pending = s.pending ∧ (aimCut s named).pins = s.pins
      ∧ (aimCut s named).store.stream = s.store.stream ∧ (aimCut s named).tracker.state = s.tracker.state
      ∧ (aimCut s named).tracker.slot = s.tracker.slot ∧ (aimCut s named).tracker.n = s.tracker.n
      ∧ (aimCut s named).turner = s.turner ∧ (aimCut s named).mech = s.mech
      ∧ (aimCut s named).capture = s.capture ∧ (aimCut s named).pause = s.pause
      ∧ (aimCut s named).summary.mask = s.summary.mask ∧ (aimCut s named).summary.elevated = s.summary.elevated
      ∧ (aimCut s named).link.framer = s.link.framer ∧ (aimCut s named).link.queue = s.link.queue
      ∧ (aimCut s named).link.replies = s.link.replies ∧ (aimCut s named).link.resetting = s.link.resetting
      ∧ (aimCut s named).link.rate = s.link.rate := by
  simp [aimCut]

@[simp] theorem aimStart_frame (s : State) :
    (aimStart s).pending = s.pending ∧ (aimStart s).pins = s.pins ∧ (aimStart s).store.stream = s.store.stream
      ∧ (aimStart s).tracker.state = s.tracker.state ∧ (aimStart s).tracker.slot = s.tracker.slot
      ∧ (aimStart s).tracker.n = s.tracker.n ∧ (aimStart s).turner = s.turner ∧ (aimStart s).mech = s.mech
      ∧ (aimStart s).capture = s.capture ∧ (aimStart s).pause = s.pause
      ∧ (aimStart s).summary.mask = s.summary.mask ∧ (aimStart s).summary.elevated = s.summary.elevated
      ∧ (aimStart s).link.framer = s.link.framer ∧ (aimStart s).link.queue = s.link.queue
      ∧ (aimStart s).link.replies = s.link.replies ∧ (aimStart s).link.resetting = s.link.resetting
      ∧ (aimStart s).link.rate = s.link.rate := by
  unfold aimStart; dsimp only; (repeat' split) <;> simp

@[simp] theorem aimRetest_frame (s : State) :
    (aimRetest s).pending = s.pending ∧ (aimRetest s).pins = s.pins
      ∧ (aimRetest s).store.stream = s.store.stream ∧ (aimRetest s).tracker.state = s.tracker.state
      ∧ (aimRetest s).tracker.slot = s.tracker.slot ∧ (aimRetest s).tracker.n = s.tracker.n
      ∧ (aimRetest s).turner = s.turner ∧ (aimRetest s).mech = s.mech ∧ (aimRetest s).capture = s.capture
      ∧ (aimRetest s).pause = s.pause ∧ (aimRetest s).summary.mask = s.summary.mask
      ∧ (aimRetest s).summary.elevated = s.summary.elevated ∧ (aimRetest s).link.framer = s.link.framer
      ∧ (aimRetest s).link.queue = s.link.queue ∧ (aimRetest s).link.replies = s.link.replies
      ∧ (aimRetest s).link.resetting = s.link.resetting ∧ (aimRetest s).link.rate = s.link.rate := by
  unfold aimRetest; (repeat' split) <;> simp

@[simp] theorem glassRaise_frame (s : State) :
    (glassRaise s).pending = s.pending ∧ (glassRaise s).pins = s.pins ∧ (glassRaise s).store = s.store
      ∧ (glassRaise s).tracker = s.tracker ∧ (glassRaise s).turner = s.turner
      ∧ (glassRaise s).mech.targets = s.mech.targets ∧ (glassRaise s).lamps = s.lamps
      ∧ (glassRaise s).dose = s.dose ∧ (glassRaise s).capture = s.capture ∧ (glassRaise s).pause = s.pause
      ∧ (glassRaise s).summary = s.summary ∧ (glassRaise s).link = s.link :=
  ⟨rfl, rfl, rfl, rfl, rfl, rfl, rfl, rfl, rfl, rfl, rfl, rfl⟩

@[simp] theorem askRaise_frame (s : State) :
    (askRaise s).pending = s.pending ∧ (askRaise s).pins = s.pins ∧ (askRaise s).store = s.store
      ∧ (askRaise s).tracker = s.tracker ∧ (askRaise s).turner = s.turner
      ∧ (askRaise s).mech.targets = s.mech.targets ∧ (askRaise s).lamps = s.lamps ∧ (askRaise s).dose = s.dose
      ∧ (askRaise s).capture = s.capture ∧ (askRaise s).pause = s.pause ∧ (askRaise s).summary = s.summary
      ∧ (askRaise s).link = s.link := by
  unfold askRaise; (repeat' split) <;> simp

@[simp] theorem askRaiseWaiting_frame (s : State) (w : RaiseWaiter) :
    (askRaiseWaiting s w).pending = s.pending ∧ (askRaiseWaiting s w).pins = s.pins
      ∧ (askRaiseWaiting s w).store = s.store ∧ (askRaiseWaiting s w).tracker = s.tracker
      ∧ (askRaiseWaiting s w).turner = s.turner ∧ (askRaiseWaiting s w).mech.targets = s.mech.targets
      ∧ (askRaiseWaiting s w).lamps = s.lamps ∧ (askRaiseWaiting s w).dose = s.dose
      ∧ (askRaiseWaiting s w).capture = s.capture ∧ (askRaiseWaiting s w).pause = s.pause
      ∧ (askRaiseWaiting s w).summary = s.summary ∧ (askRaiseWaiting s w).link = s.link := by
  simp [askRaiseWaiting]

@[simp] theorem dropWaiter_frame (s : State) (w : RaiseWaiter) :
    (dropWaiter s w).pending = s.pending ∧ (dropWaiter s w).pins = s.pins ∧ (dropWaiter s w).store = s.store
      ∧ (dropWaiter s w).tracker = s.tracker ∧ (dropWaiter s w).turner = s.turner
      ∧ (dropWaiter s w).mech.targets = s.mech.targets ∧ (dropWaiter s w).lamps = s.lamps
      ∧ (dropWaiter s w).dose = s.dose ∧ (dropWaiter s w).capture = s.capture
      ∧ (dropWaiter s w).pause = s.pause ∧ (dropWaiter s w).summary = s.summary
      ∧ (dropWaiter s w).link = s.link :=
  ⟨rfl, rfl, rfl, rfl, rfl, rfl, rfl, rfl, rfl, rfl, rfl, rfl⟩

@[simp] theorem freeClaim_frame (s : State) :
    (freeClaim s).pending = s.pending ∧ (freeClaim s).pins = s.pins ∧ (freeClaim s).store = s.store
      ∧ (freeClaim s).tracker = s.tracker ∧ (freeClaim s).turner = s.turner
      ∧ (freeClaim s).mech.targets = s.mech.targets ∧ (freeClaim s).lamps = s.lamps
      ∧ (freeClaim s).dose = s.dose ∧ (freeClaim s).capture = s.capture ∧ (freeClaim s).pause = s.pause
      ∧ (freeClaim s).summary = s.summary ∧ (freeClaim s).link = s.link := by
  unfold freeClaim; (repeat' split) <;> simp

@[simp] theorem setPlatens_frame (s : State) (targets : Sides Nat) :
    (setPlatens s targets).pending = s.pending ∧ (setPlatens s targets).pins = s.pins
      ∧ (setPlatens s targets).store = s.store ∧ (setPlatens s targets).tracker = s.tracker
      ∧ (setPlatens s targets).turner = s.turner ∧ (setPlatens s targets).mech.targets = s.mech.targets
      ∧ (setPlatens s targets).lamps = s.lamps ∧ (setPlatens s targets).dose = s.dose
      ∧ (setPlatens s targets).capture = s.capture ∧ (setPlatens s targets).pause = s.pause
      ∧ (setPlatens s targets).summary = s.summary ∧ (setPlatens s targets).link = s.link := by
  unfold setPlatens; dsimp only; (repeat' split) <;> simp

@[simp] theorem setAngleTarget_frame (s : State) (angle : Nat) :
    (setAngleTarget s angle).pending = s.pending ∧ (setAngleTarget s angle).pins = s.pins
      ∧ (setAngleTarget s angle).store = s.store ∧ (setAngleTarget s angle).tracker = s.tracker
      ∧ (setAngleTarget s angle).turner = s.turner ∧ (setAngleTarget s angle).mech.targets = s.mech.targets
      ∧ (setAngleTarget s angle).lamps = s.lamps ∧ (setAngleTarget s angle).dose = s.dose
      ∧ (setAngleTarget s angle).capture = s.capture ∧ (setAngleTarget s angle).pause = s.pause
      ∧ (setAngleTarget s angle).summary = s.summary ∧ (setAngleTarget s angle).link = s.link := by
  unfold setAngleTarget; dsimp only; (repeat' split) <;> simp

@[simp] theorem startMoves_frame (s : State) :
    (startMoves s).pending = s.pending ∧ (startMoves s).pins = s.pins ∧ (startMoves s).store = s.store
      ∧ (startMoves s).tracker = s.tracker ∧ (startMoves s).turner = s.turner
      ∧ (startMoves s).mech.targets = s.mech.targets ∧ (startMoves s).lamps = s.lamps
      ∧ (startMoves s).dose = s.dose ∧ (startMoves s).capture = s.capture ∧ (startMoves s).pause = s.pause
      ∧ (startMoves s).summary = s.summary ∧ (startMoves s).link = s.link :=
  ⟨rfl, rfl, rfl, rfl, rfl, rfl, rfl, rfl, rfl, rfl, rfl, rfl⟩

@[simp] theorem logPlaten_frame (s : State) (side : Side) :
    (logPlaten s side).pending = s.pending ∧ (logPlaten s side).pins = s.pins
      ∧ (logPlaten s side).store.stream = s.store.stream ∧ (logPlaten s side).tracker = s.tracker
      ∧ (logPlaten s side).turner = s.turner ∧ (logPlaten s side).mech.targets = s.mech.targets
      ∧ (logPlaten s side).lamps = s.lamps ∧ (logPlaten s side).dose = s.dose
      ∧ (logPlaten s side).capture = s.capture ∧ (logPlaten s side).pause = s.pause
      ∧ (logPlaten s side).summary.mask = s.summary.mask
      ∧ (logPlaten s side).summary.elevated = s.summary.elevated
      ∧ (logPlaten s side).link.framer = s.link.framer ∧ (logPlaten s side).link.queue = s.link.queue
      ∧ (logPlaten s side).link.replies = s.link.replies ∧ (logPlaten s side).link.resetting = s.link.resetting
      ∧ (logPlaten s side).link.rate = s.link.rate := by
  unfold logPlaten; (repeat' split) <;> simp

@[simp] theorem computeTargets_frame (s : State) (n : Nat) :
    (computeTargets s n).pending = s.pending ∧ (computeTargets s n).pins = s.pins
      ∧ (computeTargets s n).store.stream = s.store.stream ∧ (computeTargets s n).tracker = s.tracker
      ∧ (computeTargets s n).turner = s.turner ∧ (computeTargets s n).lamps = s.lamps
      ∧ (computeTargets s n).dose = s.dose ∧ (computeTargets s n).capture = s.capture
      ∧ (computeTargets s n).pause = s.pause ∧ (computeTargets s n).summary.mask = s.summary.mask
      ∧ (computeTargets s n).summary.elevated = s.summary.elevated
      ∧ (computeTargets s n).link.framer = s.link.framer ∧ (computeTargets s n).link.queue = s.link.queue
      ∧ (computeTargets s n).link.replies = s.link.replies
      ∧ (computeTargets s n).link.resetting = s.link.resetting ∧ (computeTargets s n).link.rate = s.link.rate := by
  unfold computeTargets; (repeat' split) <;> simp

@[simp] theorem clearPlatenLogs_frame (s : State) :
    (clearPlatenLogs s).pending = s.pending ∧ (clearPlatenLogs s).pins = s.pins
      ∧ (clearPlatenLogs s).store = s.store ∧ (clearPlatenLogs s).tracker = s.tracker
      ∧ (clearPlatenLogs s).turner = s.turner ∧ (clearPlatenLogs s).mech.targets = s.mech.targets
      ∧ (clearPlatenLogs s).lamps = s.lamps ∧ (clearPlatenLogs s).dose = s.dose
      ∧ (clearPlatenLogs s).capture = s.capture ∧ (clearPlatenLogs s).pause = s.pause
      ∧ (clearPlatenLogs s).summary = s.summary ∧ (clearPlatenLogs s).link = s.link :=
  ⟨rfl, rfl, rfl, rfl, rfl, rfl, rfl, rfl, rfl, rfl, rfl, rfl⟩

@[simp] theorem dropTargets_frame (s : State) :
    (dropTargets s).pending = s.pending ∧ (dropTargets s).pins = s.pins ∧ (dropTargets s).store = s.store
      ∧ (dropTargets s).tracker = s.tracker ∧ (dropTargets s).turner = s.turner
      ∧ (dropTargets s).lamps = s.lamps ∧ (dropTargets s).dose = s.dose ∧ (dropTargets s).capture = s.capture
      ∧ (dropTargets s).pause = s.pause ∧ (dropTargets s).summary = s.summary ∧ (dropTargets s).link = s.link :=
  ⟨rfl, rfl, rfl, rfl, rfl, rfl, rfl, rfl, rfl, rfl, rfl⟩

@[simp] theorem glassFault_frame (s : State) (fault : GlassFault) :
    (glassFault s fault).pending = s.pending ∧ (glassFault s fault).pins = s.pins
      ∧ (glassFault s fault).store.stream = s.store.stream ∧ (glassFault s fault).tracker = s.tracker
      ∧ (glassFault s fault).turner = s.turner ∧ (glassFault s fault).mech.targets = s.mech.targets
      ∧ (glassFault s fault).lamps = s.lamps ∧ (glassFault s fault).dose = s.dose
      ∧ (glassFault s fault).capture = s.capture ∧ (glassFault s fault).pause = s.pause
      ∧ (glassFault s fault).summary.mask = s.summary.mask
      ∧ (glassFault s fault).summary.elevated = s.summary.elevated
      ∧ (glassFault s fault).link.framer = s.link.framer ∧ (glassFault s fault).link.queue = s.link.queue
      ∧ (glassFault s fault).link.replies = s.link.replies
      ∧ (glassFault s fault).link.resetting = s.link.resetting ∧ (glassFault s fault).link.rate = s.link.rate := by
  simp [glassFault]

@[simp] theorem captureToNone_frame (s : State) (outcome : CaptureOutcome) :
    (captureToNone s outcome).pending = s.pending ∧ (captureToNone s outcome).pins = s.pins
      ∧ (captureToNone s outcome).store = s.store ∧ (captureToNone s outcome).tracker = s.tracker
      ∧ (captureToNone s outcome).turner = s.turner ∧ (captureToNone s outcome).mech.targets = s.mech.targets
      ∧ (captureToNone s outcome).dose = s.dose ∧ (captureToNone s outcome).pause = s.pause
      ∧ (captureToNone s outcome).summary = s.summary ∧ (captureToNone s outcome).link = s.link := by
  simp [captureToNone]

@[simp] theorem finishCheck_frame (s : State) (c : Check) (outcome : CheckOutcome) :
    (finishCheck s c outcome).pending = s.pending ∧ (finishCheck s c outcome).pins = s.pins
      ∧ (finishCheck s c outcome).store = s.store ∧ (finishCheck s c outcome).tracker = s.tracker
      ∧ (finishCheck s c outcome).turner = s.turner ∧ (finishCheck s c outcome).mech = s.mech
      ∧ (finishCheck s c outcome).dose = s.dose ∧ (finishCheck s c outcome).capture = s.capture
      ∧ (finishCheck s c outcome).pause = s.pause ∧ (finishCheck s c outcome).summary.mask = s.summary.mask
      ∧ (finishCheck s c outcome).summary.elevated = s.summary.elevated
      ∧ (finishCheck s c outcome).link.framer = s.link.framer
      ∧ (finishCheck s c outcome).link.queue = s.link.queue
      ∧ (finishCheck s c outcome).link.replies = s.link.replies
      ∧ (finishCheck s c outcome).link.resetting = s.link.resetting
      ∧ (finishCheck s c outcome).link.rate = s.link.rate := by
  unfold finishCheck; (repeat' split) <;> simp

@[simp] theorem deferCheck_frame (s : State) :
    (deferCheck s).pending = s.pending ∧ (deferCheck s).pins = s.pins ∧ (deferCheck s).store = s.store
      ∧ (deferCheck s).tracker = s.tracker ∧ (deferCheck s).turner = s.turner ∧ (deferCheck s).mech = s.mech
      ∧ (deferCheck s).dose = s.dose ∧ (deferCheck s).capture = s.capture ∧ (deferCheck s).pause = s.pause
      ∧ (deferCheck s).summary = s.summary ∧ (deferCheck s).link = s.link :=
  ⟨rfl, rfl, rfl, rfl, rfl, rfl, rfl, rfl, rfl, rfl, rfl⟩

@[simp] theorem grantCheck_frame (s : State) (c : Check) :
    (grantCheck s c).pending = s.pending ∧ (grantCheck s c).pins = s.pins
      ∧ (grantCheck s c).store.stream = s.store.stream ∧ (grantCheck s c).tracker.state = s.tracker.state
      ∧ (grantCheck s c).tracker.slot = s.tracker.slot ∧ (grantCheck s c).tracker.n = s.tracker.n
      ∧ (grantCheck s c).turner = s.turner ∧ (grantCheck s c).mech = s.mech
      ∧ (grantCheck s c).capture = s.capture ∧ (grantCheck s c).pause = s.pause
      ∧ (grantCheck s c).summary.mask = s.summary.mask ∧ (grantCheck s c).summary.elevated = s.summary.elevated
      ∧ (grantCheck s c).link.framer = s.link.framer ∧ (grantCheck s c).link.queue = s.link.queue
      ∧ (grantCheck s c).link.replies = s.link.replies ∧ (grantCheck s c).link.resetting = s.link.resetting
      ∧ (grantCheck s c).link.rate = s.link.rate := by
  unfold grantCheck; dsimp only; (repeat' split) <;> simp

@[simp] theorem grantCapture_frame (s : State) :
    (grantCapture s).pending = s.pending ∧ (grantCapture s).pins = s.pins ∧ (grantCapture s).store = s.store
      ∧ (grantCapture s).tracker = s.tracker ∧ (grantCapture s).turner = s.turner
      ∧ (grantCapture s).mech.targets = s.mech.targets
      ∧ (grantCapture s).dose.captureSettle = s.dose.captureSettle
      ∧ (grantCapture s).dose.pulseSettle = s.dose.pulseSettle
      ∧ (grantCapture s).dose.lastRefusal = s.dose.lastRefusal
      ∧ (grantCapture s).pause = s.pause ∧ (grantCapture s).summary = s.summary
      ∧ (grantCapture s).link = s.link := by
  unfold grantCapture; dsimp only; (repeat' split) <;> simp

@[simp] theorem grantNext_frame (s : State) :
    (grantNext s).pending = s.pending ∧ (grantNext s).pins = s.pins
      ∧ (grantNext s).store.stream = s.store.stream ∧ (grantNext s).tracker.state = s.tracker.state
      ∧ (grantNext s).tracker.slot = s.tracker.slot ∧ (grantNext s).tracker.n = s.tracker.n
      ∧ (grantNext s).turner = s.turner ∧ (grantNext s).mech.targets = s.mech.targets
      ∧ (grantNext s).pause = s.pause ∧ (grantNext s).summary.mask = s.summary.mask
      ∧ (grantNext s).summary.elevated = s.summary.elevated ∧ (grantNext s).link.framer = s.link.framer
      ∧ (grantNext s).link.queue = s.link.queue ∧ (grantNext s).link.replies = s.link.replies
      ∧ (grantNext s).link.resetting = s.link.resetting ∧ (grantNext s).link.rate = s.link.rate := by
  unfold grantNext; dsimp only; (repeat' split) <;> simp

@[simp] theorem releaseLighting_frame (s : State) :
    (releaseLighting s).pending = s.pending ∧ (releaseLighting s).pins = s.pins
      ∧ (releaseLighting s).store.stream = s.store.stream ∧ (releaseLighting s).tracker.state = s.tracker.state
      ∧ (releaseLighting s).tracker.slot = s.tracker.slot ∧ (releaseLighting s).tracker.n = s.tracker.n
      ∧ (releaseLighting s).turner = s.turner ∧ (releaseLighting s).mech.targets = s.mech.targets
      ∧ (releaseLighting s).pause = s.pause ∧ (releaseLighting s).summary.mask = s.summary.mask
      ∧ (releaseLighting s).summary.elevated = s.summary.elevated
      ∧ (releaseLighting s).link.framer = s.link.framer ∧ (releaseLighting s).link.queue = s.link.queue
      ∧ (releaseLighting s).link.replies = s.link.replies
      ∧ (releaseLighting s).link.resetting = s.link.resetting ∧ (releaseLighting s).link.rate = s.link.rate := by
  simp [releaseLighting]

@[simp] theorem withdrawLighting_frame (s : State) :
    (withdrawLighting s).pending = s.pending ∧ (withdrawLighting s).pins = s.pins
      ∧ (withdrawLighting s).store.stream = s.store.stream
      ∧ (withdrawLighting s).tracker.state = s.tracker.state
      ∧ (withdrawLighting s).tracker.slot = s.tracker.slot ∧ (withdrawLighting s).tracker.n = s.tracker.n
      ∧ (withdrawLighting s).turner = s.turner ∧ (withdrawLighting s).mech.targets = s.mech.targets
      ∧ (withdrawLighting s).pause = s.pause ∧ (withdrawLighting s).summary.mask = s.summary.mask
      ∧ (withdrawLighting s).summary.elevated = s.summary.elevated
      ∧ (withdrawLighting s).link.framer = s.link.framer ∧ (withdrawLighting s).link.queue = s.link.queue
      ∧ (withdrawLighting s).link.replies = s.link.replies
      ∧ (withdrawLighting s).link.resetting = s.link.resetting ∧ (withdrawLighting s).link.rate = s.link.rate := by
  unfold withdrawLighting; (repeat' split) <;> simp

@[simp] theorem claimLighting_frame (s : State) :
    (claimLighting s).pending = s.pending ∧ (claimLighting s).pins = s.pins ∧ (claimLighting s).store = s.store
      ∧ (claimLighting s).tracker = s.tracker ∧ (claimLighting s).turner = s.turner
      ∧ (claimLighting s).mech = s.mech ∧ (claimLighting s).dose = s.dose
      ∧ (claimLighting s).capture = s.capture ∧ (claimLighting s).pause = s.pause
      ∧ (claimLighting s).summary = s.summary ∧ (claimLighting s).link = s.link :=
  ⟨rfl, rfl, rfl, rfl, rfl, rfl, rfl, rfl, rfl, rfl, rfl⟩

@[simp] theorem serveCounter_frame (s : State) :
    (serveCounter s).pending = s.pending ∧ (serveCounter s).pins = s.pins
      ∧ (serveCounter s).store.stream = s.store.stream ∧ (serveCounter s).tracker.state = s.tracker.state
      ∧ (serveCounter s).tracker.slot = s.tracker.slot ∧ (serveCounter s).tracker.n = s.tracker.n
      ∧ (serveCounter s).turner = s.turner ∧ (serveCounter s).mech.targets = s.mech.targets
      ∧ (serveCounter s).pause = s.pause ∧ (serveCounter s).summary.mask = s.summary.mask
      ∧ (serveCounter s).summary.elevated = s.summary.elevated ∧ (serveCounter s).link.framer = s.link.framer
      ∧ (serveCounter s).link.queue = s.link.queue ∧ (serveCounter s).link.replies = s.link.replies
      ∧ (serveCounter s).link.resetting = s.link.resetting ∧ (serveCounter s).link.rate = s.link.rate := by
  unfold serveCounter; dsimp only; (repeat' split) <;> simp

@[simp] theorem captureEndArming_frame (s : State) (outcome : CaptureOutcome) :
    (captureEndArming s outcome).pending = s.pending ∧ (captureEndArming s outcome).pins = s.pins
      ∧ (captureEndArming s outcome).store.stream = s.store.stream
      ∧ (captureEndArming s outcome).tracker.state = s.tracker.state
      ∧ (captureEndArming s outcome).tracker.slot = s.tracker.slot
      ∧ (captureEndArming s outcome).tracker.n = s.tracker.n ∧ (captureEndArming s outcome).turner = s.turner
      ∧ (captureEndArming s outcome).mech.targets = s.mech.targets
      ∧ (captureEndArming s outcome).pause = s.pause
      ∧ (captureEndArming s outcome).summary.mask = s.summary.mask
      ∧ (captureEndArming s outcome).summary.elevated = s.summary.elevated
      ∧ (captureEndArming s outcome).link.framer = s.link.framer
      ∧ (captureEndArming s outcome).link.queue = s.link.queue
      ∧ (captureEndArming s outcome).link.replies = s.link.replies
      ∧ (captureEndArming s outcome).link.resetting = s.link.resetting
      ∧ (captureEndArming s outcome).link.rate = s.link.rate := by
  simp [captureEndArming]

@[simp] theorem pressFailed_frame (s : State) :
    (pressFailed s).pending = s.pending ∧ (pressFailed s).pins = s.pins
      ∧ (pressFailed s).store.stream = s.store.stream ∧ (pressFailed s).tracker.state = s.tracker.state
      ∧ (pressFailed s).tracker.slot = s.tracker.slot ∧ (pressFailed s).tracker.n = s.tracker.n
      ∧ (pressFailed s).turner = s.turner ∧ (pressFailed s).mech.targets = s.mech.targets
      ∧ (pressFailed s).pause = s.pause ∧ (pressFailed s).summary.mask = s.summary.mask
      ∧ (pressFailed s).summary.elevated = s.summary.elevated ∧ (pressFailed s).link.framer = s.link.framer
      ∧ (pressFailed s).link.queue = s.link.queue ∧ (pressFailed s).link.replies = s.link.replies
      ∧ (pressFailed s).link.resetting = s.link.resetting ∧ (pressFailed s).link.rate = s.link.rate := by
  unfold pressFailed; (repeat' split) <;> simp

@[simp] theorem startLowering_frame (s : State) :
    (startLowering s).pending = s.pending ∧ (startLowering s).pins = s.pins
      ∧ (startLowering s).store.stream = s.store.stream ∧ (startLowering s).tracker.state = s.tracker.state
      ∧ (startLowering s).tracker.slot = s.tracker.slot ∧ (startLowering s).tracker.n = s.tracker.n
      ∧ (startLowering s).turner = s.turner ∧ (startLowering s).mech.targets = s.mech.targets
      ∧ (startLowering s).pause = s.pause ∧ (startLowering s).summary.mask = s.summary.mask
      ∧ (startLowering s).summary.elevated = s.summary.elevated ∧ (startLowering s).link.framer = s.link.framer
      ∧ (startLowering s).link.queue = s.link.queue ∧ (startLowering s).link.replies = s.link.replies
      ∧ (startLowering s).link.resetting = s.link.resetting ∧ (startLowering s).link.rate = s.link.rate := by
  unfold startLowering; (repeat' split) <;> simp

@[simp] theorem heldPressGo_frame (s : State) :
    (heldPressGo s).pending = s.pending ∧ (heldPressGo s).pins = s.pins
      ∧ (heldPressGo s).store.stream = s.store.stream ∧ (heldPressGo s).tracker.state = s.tracker.state
      ∧ (heldPressGo s).tracker.slot = s.tracker.slot ∧ (heldPressGo s).tracker.n = s.tracker.n
      ∧ (heldPressGo s).turner = s.turner ∧ (heldPressGo s).mech.targets = s.mech.targets
      ∧ (heldPressGo s).pause = s.pause ∧ (heldPressGo s).summary.mask = s.summary.mask
      ∧ (heldPressGo s).summary.elevated = s.summary.elevated ∧ (heldPressGo s).link.framer = s.link.framer
      ∧ (heldPressGo s).link.queue = s.link.queue ∧ (heldPressGo s).link.replies = s.link.replies
      ∧ (heldPressGo s).link.resetting = s.link.resetting ∧ (heldPressGo s).link.rate = s.link.rate := by
  unfold heldPressGo; (repeat' split) <;> simp

@[simp] theorem armPump_frame (s : State) :
    (armPump s).pending = s.pending ∧ (armPump s).pins = s.pins ∧ (armPump s).store = s.store
      ∧ (armPump s).tracker = s.tracker ∧ (armPump s).turner = s.turner ∧ (armPump s).mech = s.mech
      ∧ (armPump s).dose = s.dose ∧ (armPump s).capture = s.capture ∧ (armPump s).pause = s.pause
      ∧ (armPump s).summary = s.summary ∧ (armPump s).link = s.link := by
  unfold armPump; (repeat' split) <;> simp

@[simp] theorem mechPump_frame (s : State) :
    (mechPump s).pending = s.pending ∧ (mechPump s).pins = s.pins ∧ (mechPump s).store.stream = s.store.stream
      ∧ (mechPump s).tracker.state = s.tracker.state ∧ (mechPump s).tracker.slot = s.tracker.slot
      ∧ (mechPump s).tracker.n = s.tracker.n ∧ (mechPump s).turner = s.turner
      ∧ (mechPump s).mech.targets = s.mech.targets ∧ (mechPump s).pause = s.pause
      ∧ (mechPump s).summary.mask = s.summary.mask ∧ (mechPump s).summary.elevated = s.summary.elevated
      ∧ (mechPump s).link.framer = s.link.framer ∧ (mechPump s).link.queue = s.link.queue
      ∧ (mechPump s).link.replies = s.link.replies ∧ (mechPump s).link.resetting = s.link.resetting
      ∧ (mechPump s).link.rate = s.link.rate := by
  simp [mechPump]

@[simp] theorem pressAnswered_frame (s : State) :
    (pressAnswered s).pending = s.pending ∧ (pressAnswered s).pins = s.pins ∧ (pressAnswered s).store = s.store
      ∧ (pressAnswered s).tracker = s.tracker ∧ (pressAnswered s).turner = s.turner
      ∧ (pressAnswered s).mech = s.mech ∧ (pressAnswered s).lamps = s.lamps ∧ (pressAnswered s).dose = s.dose
      ∧ (pressAnswered s).pause = s.pause ∧ (pressAnswered s).summary = s.summary
      ∧ (pressAnswered s).link = s.link := by
  unfold pressAnswered; (repeat' split) <;> simp

@[simp] theorem pressRequest_frame (s : State) :
    (pressRequest s).pending = s.pending ∧ (pressRequest s).pins = s.pins
      ∧ (pressRequest s).store.stream = s.store.stream ∧ (pressRequest s).tracker.state = s.tracker.state
      ∧ (pressRequest s).tracker.slot = s.tracker.slot ∧ (pressRequest s).tracker.n = s.tracker.n
      ∧ (pressRequest s).turner = s.turner ∧ (pressRequest s).mech.targets = s.mech.targets
      ∧ (pressRequest s).pause = s.pause ∧ (pressRequest s).summary.mask = s.summary.mask
      ∧ (pressRequest s).summary.elevated = s.summary.elevated ∧ (pressRequest s).link.framer = s.link.framer
      ∧ (pressRequest s).link.queue = s.link.queue ∧ (pressRequest s).link.replies = s.link.replies
      ∧ (pressRequest s).link.resetting = s.link.resetting ∧ (pressRequest s).link.rate = s.link.rate := by
  unfold pressRequest; (repeat' split) <;> simp

@[simp] theorem endStrobe_frame (s : State) (side : Side) (actual : Nat) (next : Progress) :
    (endStrobe s side actual next).pending = s.pending ∧ (endStrobe s side actual next).pins = s.pins
      ∧ (endStrobe s side actual next).store.stream = s.store.stream
      ∧ (endStrobe s side actual next).tracker = s.tracker ∧ (endStrobe s side actual next).turner = s.turner
      ∧ (endStrobe s side actual next).mech = s.mech ∧ (endStrobe s side actual next).lamps = s.lamps
      ∧ (endStrobe s side actual next).pause = s.pause ∧ (endStrobe s side actual next).summary = s.summary
      ∧ (endStrobe s side actual next).link = s.link := by
  simp [endStrobe]

@[simp] theorem cutStrobe_frame (s : State) (side : Side) :
    (cutStrobe s side).pending = s.pending ∧ (cutStrobe s side).pins = s.pins
      ∧ (cutStrobe s side).store.stream = s.store.stream ∧ (cutStrobe s side).tracker = s.tracker
      ∧ (cutStrobe s side).turner = s.turner ∧ (cutStrobe s side).mech = s.mech
      ∧ (cutStrobe s side).lamps = s.lamps ∧ (cutStrobe s side).pause = s.pause
      ∧ (cutStrobe s side).summary = s.summary ∧ (cutStrobe s side).link = s.link := by
  unfold cutStrobe; (repeat' split) <;> simp

@[simp] theorem writeResults_frame (s : State) (status : EntryStatus) :
    (writeResults s status).pending = s.pending ∧ (writeResults s status).pins = s.pins
      ∧ (writeResults s status).store.stream = s.store.stream ∧ (writeResults s status).tracker = s.tracker
      ∧ (writeResults s status).turner = s.turner ∧ (writeResults s status).mech = s.mech
      ∧ (writeResults s status).lamps = s.lamps ∧ (writeResults s status).dose = s.dose
      ∧ (writeResults s status).capture = s.capture ∧ (writeResults s status).pause = s.pause
      ∧ (writeResults s status).summary = s.summary ∧ (writeResults s status).link = s.link := by
  simp [writeResults]

@[simp] theorem finishVoid_frame (s : State) (outcome : CaptureOutcome) :
    (finishVoid s outcome).pending = s.pending ∧ (finishVoid s outcome).pins = s.pins
      ∧ (finishVoid s outcome).store.stream = s.store.stream
      ∧ (finishVoid s outcome).tracker.state = s.tracker.state
      ∧ (finishVoid s outcome).tracker.slot = s.tracker.slot ∧ (finishVoid s outcome).tracker.n = s.tracker.n
      ∧ (finishVoid s outcome).turner = s.turner ∧ (finishVoid s outcome).mech.targets = s.mech.targets
      ∧ (finishVoid s outcome).pause = s.pause ∧ (finishVoid s outcome).summary.mask = s.summary.mask
      ∧ (finishVoid s outcome).summary.elevated = s.summary.elevated
      ∧ (finishVoid s outcome).link.framer = s.link.framer ∧ (finishVoid s outcome).link.queue = s.link.queue
      ∧ (finishVoid s outcome).link.replies = s.link.replies
      ∧ (finishVoid s outcome).link.resetting = s.link.resetting
      ∧ (finishVoid s outcome).link.rate = s.link.rate := by
  simp [finishVoid]

@[simp] theorem markVoiding_frame (s : State) :
    (markVoiding s).pending = s.pending ∧ (markVoiding s).pins = s.pins ∧ (markVoiding s).store = s.store
      ∧ (markVoiding s).tracker = s.tracker ∧ (markVoiding s).turner = s.turner ∧ (markVoiding s).mech = s.mech
      ∧ (markVoiding s).lamps = s.lamps ∧ (markVoiding s).dose = s.dose ∧ (markVoiding s).pause = s.pause
      ∧ (markVoiding s).summary = s.summary ∧ (markVoiding s).link = s.link :=
  ⟨rfl, rfl, rfl, rfl, rfl, rfl, rfl, rfl, rfl, rfl, rfl⟩

@[simp] theorem voidExposing_frame (s : State) (outcome : CaptureOutcome) :
    (voidExposing s outcome).pending = s.pending ∧ (voidExposing s outcome).pins = s.pins
      ∧ (voidExposing s outcome).store.stream = s.store.stream
      ∧ (voidExposing s outcome).tracker.state = s.tracker.state
      ∧ (voidExposing s outcome).tracker.slot = s.tracker.slot
      ∧ (voidExposing s outcome).tracker.n = s.tracker.n ∧ (voidExposing s outcome).turner = s.turner
      ∧ (voidExposing s outcome).mech.targets = s.mech.targets ∧ (voidExposing s outcome).pause = s.pause
      ∧ (voidExposing s outcome).summary.mask = s.summary.mask
      ∧ (voidExposing s outcome).summary.elevated = s.summary.elevated
      ∧ (voidExposing s outcome).link.framer = s.link.framer
      ∧ (voidExposing s outcome).link.queue = s.link.queue
      ∧ (voidExposing s outcome).link.replies = s.link.replies
      ∧ (voidExposing s outcome).link.resetting = s.link.resetting
      ∧ (voidExposing s outcome).link.rate = s.link.rate := by
  simp [voidExposing]

@[simp] theorem voidOrder_frame (s : State) :
    (voidOrder s).pending = s.pending ∧ (voidOrder s).pins = s.pins
      ∧ (voidOrder s).store.stream = s.store.stream ∧ (voidOrder s).tracker.state = s.tracker.state
      ∧ (voidOrder s).tracker.slot = s.tracker.slot ∧ (voidOrder s).tracker.n = s.tracker.n
      ∧ (voidOrder s).turner = s.turner ∧ (voidOrder s).mech.targets = s.mech.targets
      ∧ (voidOrder s).pause = s.pause ∧ (voidOrder s).summary.mask = s.summary.mask
      ∧ (voidOrder s).summary.elevated = s.summary.elevated ∧ (voidOrder s).link.framer = s.link.framer
      ∧ (voidOrder s).link.queue = s.link.queue ∧ (voidOrder s).link.replies = s.link.replies
      ∧ (voidOrder s).link.resetting = s.link.resetting ∧ (voidOrder s).link.rate = s.link.rate := by
  unfold voidOrder; (repeat' split) <;> simp

@[simp] theorem pressLost_frame (s : State) :
    (pressLost s).pending = s.pending ∧ (pressLost s).pins = s.pins
      ∧ (pressLost s).store.stream = s.store.stream ∧ (pressLost s).tracker.state = s.tracker.state
      ∧ (pressLost s).tracker.slot = s.tracker.slot ∧ (pressLost s).tracker.n = s.tracker.n
      ∧ (pressLost s).turner = s.turner ∧ (pressLost s).mech.targets = s.mech.targets
      ∧ (pressLost s).pause = s.pause ∧ (pressLost s).summary.mask = s.summary.mask
      ∧ (pressLost s).summary.elevated = s.summary.elevated ∧ (pressLost s).link.framer = s.link.framer
      ∧ (pressLost s).link.queue = s.link.queue ∧ (pressLost s).link.replies = s.link.replies
      ∧ (pressLost s).link.resetting = s.link.resetting ∧ (pressLost s).link.rate = s.link.rate := by
  unfold pressLost; (repeat' split) <;> simp

@[simp] theorem releaseDecision_frame (s : State) :
    (releaseDecision s).pending = s.pending ∧ (releaseDecision s).pins = s.pins
      ∧ (releaseDecision s).store.stream = s.store.stream ∧ (releaseDecision s).tracker = s.tracker
      ∧ (releaseDecision s).turner = s.turner ∧ (releaseDecision s).mech = s.mech
      ∧ (releaseDecision s).lamps = s.lamps ∧ (releaseDecision s).dose = s.dose
      ∧ (releaseDecision s).pause = s.pause ∧ (releaseDecision s).summary.mask = s.summary.mask
      ∧ (releaseDecision s).summary.elevated = s.summary.elevated
      ∧ (releaseDecision s).link.framer = s.link.framer ∧ (releaseDecision s).link.queue = s.link.queue
      ∧ (releaseDecision s).link.replies = s.link.replies
      ∧ (releaseDecision s).link.resetting = s.link.resetting ∧ (releaseDecision s).link.rate = s.link.rate := by
  unfold releaseDecision; (repeat' split) <;> simp

@[simp] theorem exposureComplete_frame (s : State) :
    (exposureComplete s).pending = s.pending ∧ (exposureComplete s).pins = s.pins
      ∧ (exposureComplete s).store.stream = s.store.stream
      ∧ (exposureComplete s).tracker.state = s.tracker.state
      ∧ (exposureComplete s).tracker.slot = s.tracker.slot ∧ (exposureComplete s).tracker.n = s.tracker.n
      ∧ (exposureComplete s).turner = s.turner ∧ (exposureComplete s).mech.targets = s.mech.targets
      ∧ (exposureComplete s).pause = s.pause ∧ (exposureComplete s).summary.mask = s.summary.mask
      ∧ (exposureComplete s).summary.elevated = s.summary.elevated
      ∧ (exposureComplete s).link.framer = s.link.framer ∧ (exposureComplete s).link.queue = s.link.queue
      ∧ (exposureComplete s).link.replies = s.link.replies
      ∧ (exposureComplete s).link.resetting = s.link.resetting ∧ (exposureComplete s).link.rate = s.link.rate := by
  unfold exposureComplete; dsimp only; (repeat' split) <;> simp

@[simp] theorem exposurePump_frame (s : State) :
    (exposurePump s).pending = s.pending ∧ (exposurePump s).pins = s.pins
      ∧ (exposurePump s).store.stream = s.store.stream ∧ (exposurePump s).tracker.state = s.tracker.state
      ∧ (exposurePump s).tracker.slot = s.tracker.slot ∧ (exposurePump s).tracker.n = s.tracker.n
      ∧ (exposurePump s).turner = s.turner ∧ (exposurePump s).mech.targets = s.mech.targets
      ∧ (exposurePump s).pause = s.pause ∧ (exposurePump s).summary.mask = s.summary.mask
      ∧ (exposurePump s).summary.elevated = s.summary.elevated ∧ (exposurePump s).link.framer = s.link.framer
      ∧ (exposurePump s).link.queue = s.link.queue ∧ (exposurePump s).link.replies = s.link.replies
      ∧ (exposurePump s).link.resetting = s.link.resetting ∧ (exposurePump s).link.rate = s.link.rate := by
  unfold exposurePump; (repeat' split) <;> simp

@[simp] theorem acceptCapture_frame (s : State) :
    (acceptCapture s).pending = s.pending ∧ (acceptCapture s).pins = s.pins
      ∧ (acceptCapture s).store.stream = s.store.stream ∧ (acceptCapture s).tracker = s.tracker
      ∧ (acceptCapture s).turner = s.turner ∧ (acceptCapture s).mech = s.mech
      ∧ (acceptCapture s).lamps = s.lamps ∧ (acceptCapture s).dose = s.dose ∧ (acceptCapture s).pause = s.pause
      ∧ (acceptCapture s).summary = s.summary ∧ (acceptCapture s).link = s.link := by
  simp [acceptCapture]

@[simp] theorem captureChange_frame (s : State) :
    (captureChange s).pending = s.pending ∧ (captureChange s).pins = s.pins
      ∧ (captureChange s).store.stream = s.store.stream ∧ (captureChange s).tracker.state = s.tracker.state
      ∧ (captureChange s).tracker.slot = s.tracker.slot ∧ (captureChange s).tracker.n = s.tracker.n
      ∧ (captureChange s).turner = s.turner ∧ (captureChange s).mech.targets = s.mech.targets
      ∧ (captureChange s).pause = s.pause ∧ (captureChange s).summary.mask = s.summary.mask
      ∧ (captureChange s).summary.elevated = s.summary.elevated ∧ (captureChange s).link.framer = s.link.framer
      ∧ (captureChange s).link.queue = s.link.queue ∧ (captureChange s).link.replies = s.link.replies
      ∧ (captureChange s).link.resetting = s.link.resetting ∧ (captureChange s).link.rate = s.link.rate := by
  unfold captureChange; (repeat' split) <;> simp

@[simp] theorem endVisit_frame (s : State) :
    (endVisit s).pending = s.pending ∧ (endVisit s).pins = s.pins ∧ (endVisit s).store.stream = s.store.stream
      ∧ (endVisit s).tracker.state = s.tracker.state ∧ (endVisit s).tracker.slot = s.tracker.slot
      ∧ (endVisit s).tracker.n = s.tracker.n ∧ (endVisit s).turner = s.turner
      ∧ (endVisit s).mech.targets = s.mech.targets ∧ (endVisit s).pause = s.pause
      ∧ (endVisit s).summary.mask = s.summary.mask ∧ (endVisit s).summary.elevated = s.summary.elevated
      ∧ (endVisit s).link.framer = s.link.framer ∧ (endVisit s).link.queue = s.link.queue
      ∧ (endVisit s).link.replies = s.link.replies ∧ (endVisit s).link.resetting = s.link.resetting
      ∧ (endVisit s).link.rate = s.link.rate := by
  simp [endVisit]

@[simp] theorem visitStart_frame (s : State) (n : Nat) :
    (visitStart s n).pending = s.pending ∧ (visitStart s n).pins = s.pins
      ∧ (visitStart s n).store.stream = s.store.stream ∧ (visitStart s n).turner = s.turner
      ∧ (visitStart s n).pause = s.pause ∧ (visitStart s n).summary.mask = s.summary.mask
      ∧ (visitStart s n).summary.elevated = s.summary.elevated ∧ (visitStart s n).link.framer = s.link.framer
      ∧ (visitStart s n).link.queue = s.link.queue ∧ (visitStart s n).link.replies = s.link.replies
      ∧ (visitStart s n).link.resetting = s.link.resetting ∧ (visitStart s n).link.rate = s.link.rate := by
  simp [visitStart]

@[simp] theorem leavePlaced_frame (s : State) :
    (leavePlaced s).pending = s.pending ∧ (leavePlaced s).pins = s.pins
      ∧ (leavePlaced s).store.stream = s.store.stream ∧ (leavePlaced s).turner = s.turner
      ∧ (leavePlaced s).pause = s.pause ∧ (leavePlaced s).summary.mask = s.summary.mask
      ∧ (leavePlaced s).summary.elevated = s.summary.elevated ∧ (leavePlaced s).link.framer = s.link.framer
      ∧ (leavePlaced s).link.queue = s.link.queue ∧ (leavePlaced s).link.replies = s.link.replies
      ∧ (leavePlaced s).link.resetting = s.link.resetting ∧ (leavePlaced s).link.rate = s.link.rate := by
  simp [leavePlaced]

@[simp] theorem enterUncertain_frame (s : State) (why : Condition) :
    (enterUncertain s why).pending = s.pending ∧ (enterUncertain s why).pins = s.pins
      ∧ (enterUncertain s why).store.stream = s.store.stream ∧ (enterUncertain s why).turner = s.turner
      ∧ (enterUncertain s why).pause = s.pause ∧ (enterUncertain s why).summary.mask = s.summary.mask
      ∧ (enterUncertain s why).summary.elevated = s.summary.elevated
      ∧ (enterUncertain s why).link.framer = s.link.framer ∧ (enterUncertain s why).link.queue = s.link.queue
      ∧ (enterUncertain s why).link.replies = s.link.replies
      ∧ (enterUncertain s why).link.resetting = s.link.resetting
      ∧ (enterUncertain s why).link.rate = s.link.rate := by
  unfold enterUncertain; (repeat' split) <;> simp

@[simp] theorem turnCompleted_frame (s : State) :
    (turnCompleted s).pending = s.pending ∧ (turnCompleted s).pins = s.pins
      ∧ (turnCompleted s).store.stream = s.store.stream ∧ (turnCompleted s).turner = s.turner
      ∧ (turnCompleted s).pause = s.pause ∧ (turnCompleted s).summary.mask = s.summary.mask
      ∧ (turnCompleted s).summary.elevated = s.summary.elevated ∧ (turnCompleted s).link.framer = s.link.framer
      ∧ (turnCompleted s).link.queue = s.link.queue ∧ (turnCompleted s).link.replies = s.link.replies
      ∧ (turnCompleted s).link.resetting = s.link.resetting ∧ (turnCompleted s).link.rate = s.link.rate := by
  unfold turnCompleted; (repeat' split) <;> simp

@[simp] theorem openValve_frame (s : State) :
    (openValve s).pending = s.pending ∧ (openValve s).store = s.store ∧ (openValve s).tracker = s.tracker
      ∧ (openValve s).mech = s.mech ∧ (openValve s).lamps = s.lamps ∧ (openValve s).dose = s.dose
      ∧ (openValve s).capture = s.capture ∧ (openValve s).pause = s.pause ∧ (openValve s).summary = s.summary
      ∧ (openValve s).link = s.link :=
  ⟨rfl, rfl, rfl, rfl, rfl, rfl, rfl, rfl, rfl, rfl⟩

@[simp] theorem leaveHome_frame (s : State) :
    (leaveHome s).pending = s.pending ∧ (leaveHome s).store = s.store ∧ (leaveHome s).tracker = s.tracker
      ∧ (leaveHome s).turner = s.turner ∧ (leaveHome s).mech = s.mech ∧ (leaveHome s).lamps = s.lamps
      ∧ (leaveHome s).dose = s.dose ∧ (leaveHome s).capture = s.capture ∧ (leaveHome s).pause = s.pause
      ∧ (leaveHome s).summary = s.summary ∧ (leaveHome s).link = s.link :=
  ⟨rfl, rfl, rfl, rfl, rfl, rfl, rfl, rfl, rfl, rfl, rfl⟩

@[simp] theorem leaveFarEnd_frame (s : State) :
    (leaveFarEnd s).pending = s.pending ∧ (leaveFarEnd s).store = s.store ∧ (leaveFarEnd s).tracker = s.tracker
      ∧ (leaveFarEnd s).turner = s.turner ∧ (leaveFarEnd s).mech = s.mech ∧ (leaveFarEnd s).lamps = s.lamps
      ∧ (leaveFarEnd s).dose = s.dose ∧ (leaveFarEnd s).capture = s.capture ∧ (leaveFarEnd s).pause = s.pause
      ∧ (leaveFarEnd s).summary = s.summary ∧ (leaveFarEnd s).link = s.link :=
  ⟨rfl, rfl, rfl, rfl, rfl, rfl, rfl, rfl, rfl, rfl, rfl⟩

@[simp] theorem setPhase_frame (s : State) (state : TurnerState) :
    (setPhase s state).pending = s.pending ∧ (setPhase s state).pins = s.pins
      ∧ (setPhase s state).store = s.store ∧ (setPhase s state).tracker = s.tracker
      ∧ (setPhase s state).mech = s.mech ∧ (setPhase s state).lamps = s.lamps
      ∧ (setPhase s state).dose = s.dose ∧ (setPhase s state).capture = s.capture
      ∧ (setPhase s state).pause = s.pause ∧ (setPhase s state).summary = s.summary
      ∧ (setPhase s state).link = s.link :=
  ⟨rfl, rfl, rfl, rfl, rfl, rfl, rfl, rfl, rfl, rfl, rfl⟩

@[simp] theorem enterLift_frame (s : State) :
    (enterLift s).pending = s.pending ∧ (enterLift s).store = s.store ∧ (enterLift s).tracker = s.tracker
      ∧ (enterLift s).mech = s.mech ∧ (enterLift s).lamps = s.lamps ∧ (enterLift s).dose = s.dose
      ∧ (enterLift s).capture = s.capture ∧ (enterLift s).pause = s.pause ∧ (enterLift s).summary = s.summary
      ∧ (enterLift s).link = s.link :=
  ⟨rfl, rfl, rfl, rfl, rfl, rfl, rfl, rfl, rfl, rfl⟩

@[simp] theorem enterReach_frame (s : State) :
    (enterReach s).pending = s.pending ∧ (enterReach s).store = s.store ∧ (enterReach s).tracker = s.tracker
      ∧ (enterReach s).mech = s.mech ∧ (enterReach s).lamps = s.lamps ∧ (enterReach s).dose = s.dose
      ∧ (enterReach s).capture = s.capture ∧ (enterReach s).pause = s.pause
      ∧ (enterReach s).summary = s.summary ∧ (enterReach s).link = s.link := by
  unfold enterReach; dsimp only; (repeat' split) <;> simp

@[simp] theorem startAttempt_frame (s : State) :
    (startAttempt s).pending = s.pending ∧ (startAttempt s).store = s.store
      ∧ (startAttempt s).tracker = s.tracker ∧ (startAttempt s).mech = s.mech
      ∧ (startAttempt s).lamps = s.lamps ∧ (startAttempt s).dose = s.dose
      ∧ (startAttempt s).capture = s.capture ∧ (startAttempt s).pause = s.pause
      ∧ (startAttempt s).summary = s.summary ∧ (startAttempt s).link = s.link := by
  unfold startAttempt; (repeat' split) <;> simp

@[simp] theorem turnerIdle_frame (s : State) (outcome : TurnOutcome) :
    (turnerIdle s outcome).pending = s.pending ∧ (turnerIdle s outcome).pins = s.pins
      ∧ (turnerIdle s outcome).store = s.store ∧ (turnerIdle s outcome).tracker = s.tracker
      ∧ (turnerIdle s outcome).mech = s.mech ∧ (turnerIdle s outcome).lamps = s.lamps
      ∧ (turnerIdle s outcome).dose = s.dose ∧ (turnerIdle s outcome).capture = s.capture
      ∧ (turnerIdle s outcome).pause = s.pause ∧ (turnerIdle s outcome).summary = s.summary
      ∧ (turnerIdle s outcome).link = s.link :=
  ⟨rfl, rfl, rfl, rfl, rfl, rfl, rfl, rfl, rfl, rfl, rfl⟩

@[simp] theorem endReturn_frame (s : State) :
    (endReturn s).pending = s.pending ∧ (endReturn s).pins = s.pins
      ∧ (endReturn s).store.stream = s.store.stream ∧ (endReturn s).pause = s.pause
      ∧ (endReturn s).summary.mask = s.summary.mask ∧ (endReturn s).summary.elevated = s.summary.elevated
      ∧ (endReturn s).link.framer = s.link.framer ∧ (endReturn s).link.queue = s.link.queue
      ∧ (endReturn s).link.replies = s.link.replies ∧ (endReturn s).link.resetting = s.link.resetting
      ∧ (endReturn s).link.rate = s.link.rate := by
  unfold endReturn; (repeat' split) <;> simp

@[simp] theorem enterReturn_frame (s : State) (purpose : Purpose) :
    (enterReturn s purpose).pending = s.pending ∧ (enterReturn s purpose).store.stream = s.store.stream
      ∧ (enterReturn s purpose).pause = s.pause ∧ (enterReturn s purpose).summary.mask = s.summary.mask
      ∧ (enterReturn s purpose).summary.elevated = s.summary.elevated
      ∧ (enterReturn s purpose).link.framer = s.link.framer ∧ (enterReturn s purpose).link.queue = s.link.queue
      ∧ (enterReturn s purpose).link.replies = s.link.replies
      ∧ (enterReturn s purpose).link.resetting = s.link.resetting
      ∧ (enterReturn s purpose).link.rate = s.link.rate := by
  unfold enterReturn; dsimp only; (repeat' split) <;> simp

@[simp] theorem enterCarry_frame (s : State) :
    (enterCarry s).pending = s.pending ∧ (enterCarry s).store = s.store ∧ (enterCarry s).tracker = s.tracker
      ∧ (enterCarry s).mech = s.mech ∧ (enterCarry s).lamps = s.lamps ∧ (enterCarry s).dose = s.dose
      ∧ (enterCarry s).capture = s.capture ∧ (enterCarry s).pause = s.pause
      ∧ (enterCarry s).summary = s.summary ∧ (enterCarry s).link = s.link := by
  unfold enterCarry; (repeat' split) <;> simp

@[simp] theorem layPump_frame (s : State) :
    (layPump s).pending = s.pending ∧ (layPump s).store.stream = s.store.stream ∧ (layPump s).pause = s.pause
      ∧ (layPump s).summary.mask = s.summary.mask ∧ (layPump s).summary.elevated = s.summary.elevated
      ∧ (layPump s).link.framer = s.link.framer ∧ (layPump s).link.queue = s.link.queue
      ∧ (layPump s).link.replies = s.link.replies ∧ (layPump s).link.resetting = s.link.resetting
      ∧ (layPump s).link.rate = s.link.rate := by
  unfold layPump; (repeat' split) <;> simp

@[simp] theorem enterLay_frame (s : State) :
    (enterLay s).pending = s.pending ∧ (enterLay s).store = s.store ∧ (enterLay s).tracker = s.tracker
      ∧ (enterLay s).mech.targets = s.mech.targets ∧ (enterLay s).lamps = s.lamps ∧ (enterLay s).dose = s.dose
      ∧ (enterLay s).capture = s.capture ∧ (enterLay s).pause = s.pause ∧ (enterLay s).summary = s.summary
      ∧ (enterLay s).link = s.link := by
  unfold enterLay; dsimp only; (repeat' split) <;> simp

@[simp] theorem attemptEnds_frame (s : State) (kind : IncidentKind) (second : Nat) :
    (attemptEnds s kind second).pending = s.pending ∧ (attemptEnds s kind second).store.stream = s.store.stream
      ∧ (attemptEnds s kind second).pause = s.pause ∧ (attemptEnds s kind second).summary.mask = s.summary.mask
      ∧ (attemptEnds s kind second).summary.elevated = s.summary.elevated
      ∧ (attemptEnds s kind second).link.framer = s.link.framer
      ∧ (attemptEnds s kind second).link.queue = s.link.queue
      ∧ (attemptEnds s kind second).link.replies = s.link.replies
      ∧ (attemptEnds s kind second).link.resetting = s.link.resetting
      ∧ (attemptEnds s kind second).link.rate = s.link.rate := by
  unfold attemptEnds; dsimp only; (repeat' split) <;> simp

@[simp] theorem restoreRelease_frame (s : State) :
    (restoreRelease s).pending = s.pending ∧ (restoreRelease s).store = s.store
      ∧ (restoreRelease s).tracker = s.tracker ∧ (restoreRelease s).mech = s.mech
      ∧ (restoreRelease s).lamps = s.lamps ∧ (restoreRelease s).dose = s.dose
      ∧ (restoreRelease s).capture = s.capture ∧ (restoreRelease s).pause = s.pause
      ∧ (restoreRelease s).summary = s.summary ∧ (restoreRelease s).link = s.link :=
  ⟨rfl, rfl, rfl, rfl, rfl, rfl, rfl, rfl, rfl, rfl⟩

@[simp] theorem restoreEnds_frame (s : State) :
    (restoreEnds s).pending = s.pending ∧ (restoreEnds s).store.stream = s.store.stream
      ∧ (restoreEnds s).pause = s.pause ∧ (restoreEnds s).summary.mask = s.summary.mask
      ∧ (restoreEnds s).summary.elevated = s.summary.elevated ∧ (restoreEnds s).link.framer = s.link.framer
      ∧ (restoreEnds s).link.queue = s.link.queue ∧ (restoreEnds s).link.replies = s.link.replies
      ∧ (restoreEnds s).link.resetting = s.link.resetting ∧ (restoreEnds s).link.rate = s.link.rate := by
  simp [restoreEnds]

@[simp] theorem stopArm_frame (s : State) :
    (stopArm s).pending = s.pending ∧ (stopArm s).store = s.store ∧ (stopArm s).tracker = s.tracker
      ∧ (stopArm s).mech = s.mech ∧ (stopArm s).lamps = s.lamps ∧ (stopArm s).dose = s.dose
      ∧ (stopArm s).capture = s.capture ∧ (stopArm s).pause = s.pause ∧ (stopArm s).summary = s.summary
      ∧ (stopArm s).link = s.link := by
  unfold stopArm; (repeat' split) <;> simp

@[simp] theorem turnerHalted_frame (s : State) (outcome : TurnOutcome) :
    (turnerHalted s outcome).pending = s.pending ∧ (turnerHalted s outcome).store = s.store
      ∧ (turnerHalted s outcome).tracker = s.tracker ∧ (turnerHalted s outcome).mech = s.mech
      ∧ (turnerHalted s outcome).lamps = s.lamps ∧ (turnerHalted s outcome).dose = s.dose
      ∧ (turnerHalted s outcome).capture = s.capture ∧ (turnerHalted s outcome).pause = s.pause
      ∧ (turnerHalted s outcome).summary = s.summary ∧ (turnerHalted s outcome).link = s.link := by
  simp [turnerHalted]

@[simp] theorem turnerRaised_frame (s : State) :
    (turnerRaised s).pending = s.pending ∧ (turnerRaised s).store.stream = s.store.stream
      ∧ (turnerRaised s).pause = s.pause ∧ (turnerRaised s).summary.mask = s.summary.mask
      ∧ (turnerRaised s).summary.elevated = s.summary.elevated ∧ (turnerRaised s).link.framer = s.link.framer
      ∧ (turnerRaised s).link.queue = s.link.queue ∧ (turnerRaised s).link.replies = s.link.replies
      ∧ (turnerRaised s).link.resetting = s.link.resetting ∧ (turnerRaised s).link.rate = s.link.rate := by
  unfold turnerRaised; (repeat' split) <;> simp

@[simp] theorem turnerRaiseFailed_frame (s : State) :
    (turnerRaiseFailed s).pending = s.pending ∧ (turnerRaiseFailed s).pins = s.pins
      ∧ (turnerRaiseFailed s).store.stream = s.store.stream ∧ (turnerRaiseFailed s).tracker = s.tracker
      ∧ (turnerRaiseFailed s).mech = s.mech ∧ (turnerRaiseFailed s).lamps = s.lamps
      ∧ (turnerRaiseFailed s).dose = s.dose ∧ (turnerRaiseFailed s).capture = s.capture
      ∧ (turnerRaiseFailed s).pause = s.pause ∧ (turnerRaiseFailed s).summary.mask = s.summary.mask
      ∧ (turnerRaiseFailed s).summary.elevated = s.summary.elevated
      ∧ (turnerRaiseFailed s).link.framer = s.link.framer ∧ (turnerRaiseFailed s).link.queue = s.link.queue
      ∧ (turnerRaiseFailed s).link.replies = s.link.replies
      ∧ (turnerRaiseFailed s).link.resetting = s.link.resetting ∧ (turnerRaiseFailed s).link.rate = s.link.rate := by
  unfold turnerRaiseFailed; (repeat' split) <;> simp

@[simp] theorem turnerAsksRaise_frame (s : State) (w : RaiseWaiter) :
    (turnerAsksRaise s w).pending = s.pending ∧ (turnerAsksRaise s w).store.stream = s.store.stream
      ∧ (turnerAsksRaise s w).pause = s.pause ∧ (turnerAsksRaise s w).summary.mask = s.summary.mask
      ∧ (turnerAsksRaise s w).summary.elevated = s.summary.elevated
      ∧ (turnerAsksRaise s w).link.framer = s.link.framer ∧ (turnerAsksRaise s w).link.queue = s.link.queue
      ∧ (turnerAsksRaise s w).link.replies = s.link.replies
      ∧ (turnerAsksRaise s w).link.resetting = s.link.resetting ∧ (turnerAsksRaise s w).link.rate = s.link.rate := by
  unfold turnerAsksRaise; (repeat' split) <;> simp

@[simp] theorem glassReached_frame (s : State) :
    (glassReached s).pending = s.pending ∧ (glassReached s).store.stream = s.store.stream
      ∧ (glassReached s).pause = s.pause ∧ (glassReached s).summary.mask = s.summary.mask
      ∧ (glassReached s).summary.elevated = s.summary.elevated ∧ (glassReached s).link.framer = s.link.framer
      ∧ (glassReached s).link.queue = s.link.queue ∧ (glassReached s).link.replies = s.link.replies
      ∧ (glassReached s).link.resetting = s.link.resetting ∧ (glassReached s).link.rate = s.link.rate := by
  unfold glassReached; (repeat' split) <;> simp

@[simp] theorem raiseTimedOut_frame (s : State) :
    (raiseTimedOut s).pending = s.pending ∧ (raiseTimedOut s).pins = s.pins
      ∧ (raiseTimedOut s).store.stream = s.store.stream ∧ (raiseTimedOut s).tracker.state = s.tracker.state
      ∧ (raiseTimedOut s).tracker.slot = s.tracker.slot ∧ (raiseTimedOut s).tracker.n = s.tracker.n
      ∧ (raiseTimedOut s).mech.targets = s.mech.targets ∧ (raiseTimedOut s).pause = s.pause
      ∧ (raiseTimedOut s).summary.mask = s.summary.mask
      ∧ (raiseTimedOut s).summary.elevated = s.summary.elevated ∧ (raiseTimedOut s).link.framer = s.link.framer
      ∧ (raiseTimedOut s).link.queue = s.link.queue ∧ (raiseTimedOut s).link.replies = s.link.replies
      ∧ (raiseTimedOut s).link.resetting = s.link.resetting ∧ (raiseTimedOut s).link.rate = s.link.rate := by
  unfold raiseTimedOut; dsimp only; (repeat' split) <;> simp

@[simp] theorem lowerTimedOut_frame (s : State) :
    (lowerTimedOut s).pending = s.pending ∧ (lowerTimedOut s).pins = s.pins
      ∧ (lowerTimedOut s).store.stream = s.store.stream ∧ (lowerTimedOut s).tracker.state = s.tracker.state
      ∧ (lowerTimedOut s).tracker.slot = s.tracker.slot ∧ (lowerTimedOut s).tracker.n = s.tracker.n
      ∧ (lowerTimedOut s).turner = s.turner ∧ (lowerTimedOut s).mech.targets = s.mech.targets
      ∧ (lowerTimedOut s).pause = s.pause ∧ (lowerTimedOut s).summary.mask = s.summary.mask
      ∧ (lowerTimedOut s).summary.elevated = s.summary.elevated ∧ (lowerTimedOut s).link.framer = s.link.framer
      ∧ (lowerTimedOut s).link.queue = s.link.queue ∧ (lowerTimedOut s).link.replies = s.link.replies
      ∧ (lowerTimedOut s).link.resetting = s.link.resetting ∧ (lowerTimedOut s).link.rate = s.link.rate := by
  simp [lowerTimedOut]

@[simp] theorem manualCompletes_frame (s : State) :
    (manualCompletes s).pending = s.pending ∧ (manualCompletes s).pins = s.pins
      ∧ (manualCompletes s).store.stream = s.store.stream ∧ (manualCompletes s).pause = s.pause
      ∧ (manualCompletes s).summary.mask = s.summary.mask
      ∧ (manualCompletes s).summary.elevated = s.summary.elevated
      ∧ (manualCompletes s).link.framer = s.link.framer ∧ (manualCompletes s).link.queue = s.link.queue
      ∧ (manualCompletes s).link.replies = s.link.replies
      ∧ (manualCompletes s).link.resetting = s.link.resetting ∧ (manualCompletes s).link.rate = s.link.rate := by
  unfold manualCompletes; dsimp only; (repeat' split) <;> simp

@[simp] theorem refuse_frame (s : State) (reason : Reason) (field : Nat) :
    (refuse s reason field).1.pending = s.pending ∧ (refuse s reason field).1.pins = s.pins
      ∧ (refuse s reason field).1.store = s.store ∧ (refuse s reason field).1.tracker = s.tracker
      ∧ (refuse s reason field).1.turner = s.turner ∧ (refuse s reason field).1.mech = s.mech
      ∧ (refuse s reason field).1.lamps = s.lamps ∧ (refuse s reason field).1.dose = s.dose
      ∧ (refuse s reason field).1.capture = s.capture ∧ (refuse s reason field).1.pause = s.pause
      ∧ (refuse s reason field).1.summary = s.summary ∧ (refuse s reason field).1.link = s.link :=
  ⟨rfl, rfl, rfl, rfl, rfl, rfl, rfl, rfl, rfl, rfl, rfl, rfl⟩

@[simp] theorem openVolumeAt_frame (s : State) (slot : SlotId) (p : Profile) :
    (openVolumeAt s slot p).pending = s.pending ∧ (openVolumeAt s slot p).pins = s.pins
      ∧ (openVolumeAt s slot p).store.stream = s.store.stream ∧ (openVolumeAt s slot p).turner = s.turner
      ∧ (openVolumeAt s slot p).mech.targets = s.mech.targets ∧ (openVolumeAt s slot p).lamps = s.lamps
      ∧ (openVolumeAt s slot p).dose = s.dose ∧ (openVolumeAt s slot p).pause = s.pause
      ∧ (openVolumeAt s slot p).summary = s.summary ∧ (openVolumeAt s slot p).link = s.link :=
  ⟨rfl, rfl, rfl, rfl, rfl, rfl, rfl, rfl, rfl, rfl⟩

@[simp] theorem takeOpenVolume_frame (raw : RawProfile) (s : State) :
    (takeOpenVolume raw s).1.pending = s.pending ∧ (takeOpenVolume raw s).1.pins = s.pins
      ∧ (takeOpenVolume raw s).1.store.stream = s.store.stream ∧ (takeOpenVolume raw s).1.turner = s.turner
      ∧ (takeOpenVolume raw s).1.mech.targets = s.mech.targets ∧ (takeOpenVolume raw s).1.lamps = s.lamps
      ∧ (takeOpenVolume raw s).1.dose = s.dose ∧ (takeOpenVolume raw s).1.pause = s.pause
      ∧ (takeOpenVolume raw s).1.summary = s.summary ∧ (takeOpenVolume raw s).1.link = s.link := by
  unfold takeOpenVolume; (repeat' split) <;> simp

@[simp] theorem extendVolume_frame (s : State) (leaves count : Nat) :
    (extendVolume s leaves count).pending = s.pending ∧ (extendVolume s leaves count).pins = s.pins
      ∧ (extendVolume s leaves count).store.stream = s.store.stream
      ∧ (extendVolume s leaves count).tracker.state = s.tracker.state
      ∧ (extendVolume s leaves count).tracker.slot = s.tracker.slot
      ∧ (extendVolume s leaves count).tracker.n = s.tracker.n ∧ (extendVolume s leaves count).turner = s.turner
      ∧ (extendVolume s leaves count).pause = s.pause
      ∧ (extendVolume s leaves count).summary.mask = s.summary.mask
      ∧ (extendVolume s leaves count).summary.elevated = s.summary.elevated
      ∧ (extendVolume s leaves count).link.framer = s.link.framer
      ∧ (extendVolume s leaves count).link.queue = s.link.queue
      ∧ (extendVolume s leaves count).link.replies = s.link.replies
      ∧ (extendVolume s leaves count).link.resetting = s.link.resetting
      ∧ (extendVolume s leaves count).link.rate = s.link.rate := by
  unfold extendVolume; dsimp only; (repeat' split) <;> simp

@[simp] theorem takeExtendVolume_frame (count : Nat) (s : State) :
    (takeExtendVolume count s).1.pending = s.pending ∧ (takeExtendVolume count s).1.pins = s.pins
      ∧ (takeExtendVolume count s).1.store.stream = s.store.stream
      ∧ (takeExtendVolume count s).1.tracker.state = s.tracker.state
      ∧ (takeExtendVolume count s).1.tracker.slot = s.tracker.slot
      ∧ (takeExtendVolume count s).1.tracker.n = s.tracker.n ∧ (takeExtendVolume count s).1.turner = s.turner
      ∧ (takeExtendVolume count s).1.pause = s.pause
      ∧ (takeExtendVolume count s).1.summary.mask = s.summary.mask
      ∧ (takeExtendVolume count s).1.summary.elevated = s.summary.elevated
      ∧ (takeExtendVolume count s).1.link.framer = s.link.framer
      ∧ (takeExtendVolume count s).1.link.queue = s.link.queue
      ∧ (takeExtendVolume count s).1.link.replies = s.link.replies
      ∧ (takeExtendVolume count s).1.link.resetting = s.link.resetting
      ∧ (takeExtendVolume count s).1.link.rate = s.link.rate := by
  unfold takeExtendVolume; dsimp only; (repeat' split) <;> simp

@[simp] theorem closeSlot_frame (s : State) (slot : SlotId) :
    (closeSlot s slot).pending = s.pending ∧ (closeSlot s slot).pins = s.pins
      ∧ (closeSlot s slot).store.stream = s.store.stream ∧ (closeSlot s slot).tracker = s.tracker
      ∧ (closeSlot s slot).turner = s.turner ∧ (closeSlot s slot).mech = s.mech
      ∧ (closeSlot s slot).lamps = s.lamps ∧ (closeSlot s slot).dose = s.dose
      ∧ (closeSlot s slot).capture = s.capture ∧ (closeSlot s slot).pause = s.pause
      ∧ (closeSlot s slot).summary = s.summary ∧ (closeSlot s slot).link = s.link := by
  unfold closeSlot; (repeat' split) <;> simp

@[simp] theorem closeVolume_frame (s : State) (slot : SlotId) (v : Volume) :
    (closeVolume s slot v).pending = s.pending ∧ (closeVolume s slot v).pins = s.pins
      ∧ (closeVolume s slot v).store.stream = s.store.stream ∧ (closeVolume s slot v).turner = s.turner
      ∧ (closeVolume s slot v).pause = s.pause ∧ (closeVolume s slot v).summary.mask = s.summary.mask
      ∧ (closeVolume s slot v).summary.elevated = s.summary.elevated
      ∧ (closeVolume s slot v).link.framer = s.link.framer ∧ (closeVolume s slot v).link.queue = s.link.queue
      ∧ (closeVolume s slot v).link.replies = s.link.replies
      ∧ (closeVolume s slot v).link.resetting = s.link.resetting
      ∧ (closeVolume s slot v).link.rate = s.link.rate := by
  unfold closeVolume; dsimp only; (repeat' split) <;> simp

@[simp] theorem takeCloseVolume_frame (s : State) :
    (takeCloseVolume s).1.pending = s.pending ∧ (takeCloseVolume s).1.pins = s.pins
      ∧ (takeCloseVolume s).1.store.stream = s.store.stream ∧ (takeCloseVolume s).1.turner = s.turner
      ∧ (takeCloseVolume s).1.pause = s.pause ∧ (takeCloseVolume s).1.summary.mask = s.summary.mask
      ∧ (takeCloseVolume s).1.summary.elevated = s.summary.elevated
      ∧ (takeCloseVolume s).1.link.framer = s.link.framer ∧ (takeCloseVolume s).1.link.queue = s.link.queue
      ∧ (takeCloseVolume s).1.link.replies = s.link.replies
      ∧ (takeCloseVolume s).1.link.resetting = s.link.resetting ∧ (takeCloseVolume s).1.link.rate = s.link.rate := by
  unfold takeCloseVolume; (repeat' split) <;> simp

@[simp] theorem takeExportVolume_frame (field : Nat) (s : State) :
    (takeExportVolume field s).1.pending = s.pending ∧ (takeExportVolume field s).1.pins = s.pins
      ∧ (takeExportVolume field s).1.store.slots = s.store.slots
      ∧ (takeExportVolume field s).1.tracker = s.tracker ∧ (takeExportVolume field s).1.turner = s.turner
      ∧ (takeExportVolume field s).1.mech = s.mech ∧ (takeExportVolume field s).1.lamps = s.lamps
      ∧ (takeExportVolume field s).1.dose = s.dose ∧ (takeExportVolume field s).1.capture = s.capture
      ∧ (takeExportVolume field s).1.pause = s.pause ∧ (takeExportVolume field s).1.summary = s.summary
      ∧ (takeExportVolume field s).1.link = s.link := by
  unfold takeExportVolume; (repeat' split) <;> simp

@[simp] theorem takeDiscardVolume_frame (field : Nat) (s : State) :
    (takeDiscardVolume field s).1.pending = s.pending ∧ (takeDiscardVolume field s).1.pins = s.pins
      ∧ (takeDiscardVolume field s).1.store.stream = s.store.stream
      ∧ (takeDiscardVolume field s).1.tracker = s.tracker ∧ (takeDiscardVolume field s).1.turner = s.turner
      ∧ (takeDiscardVolume field s).1.mech = s.mech ∧ (takeDiscardVolume field s).1.lamps = s.lamps
      ∧ (takeDiscardVolume field s).1.dose = s.dose ∧ (takeDiscardVolume field s).1.capture = s.capture
      ∧ (takeDiscardVolume field s).1.pause = s.pause ∧ (takeDiscardVolume field s).1.summary = s.summary
      ∧ (takeDiscardVolume field s).1.link = s.link := by
  unfold takeDiscardVolume; (repeat' split) <;> simp

@[simp] theorem takeClearStore_frame (s : State) :
    (takeClearStore s).1.pending = s.pending ∧ (takeClearStore s).1.pins = s.pins
      ∧ (takeClearStore s).1.store.stream = s.store.stream ∧ (takeClearStore s).1.tracker = s.tracker
      ∧ (takeClearStore s).1.turner = s.turner ∧ (takeClearStore s).1.mech = s.mech
      ∧ (takeClearStore s).1.lamps = s.lamps ∧ (takeClearStore s).1.dose = s.dose
      ∧ (takeClearStore s).1.capture = s.capture ∧ (takeClearStore s).1.pause = s.pause
      ∧ (takeClearStore s).1.summary = s.summary ∧ (takeClearStore s).1.link = s.link := by
  unfold takeClearStore; (repeat' split) <;> simp

@[simp] theorem takeListVolumes_frame (s : State) :
    (takeListVolumes s).1.pending = s.pending ∧ (takeListVolumes s).1.pins = s.pins
      ∧ (takeListVolumes s).1.store = s.store ∧ (takeListVolumes s).1.tracker = s.tracker
      ∧ (takeListVolumes s).1.turner = s.turner ∧ (takeListVolumes s).1.mech = s.mech
      ∧ (takeListVolumes s).1.lamps = s.lamps ∧ (takeListVolumes s).1.dose = s.dose
      ∧ (takeListVolumes s).1.capture = s.capture ∧ (takeListVolumes s).1.pause = s.pause
      ∧ (takeListVolumes s).1.summary = s.summary ∧ (takeListVolumes s).1.link = s.link :=
  ⟨rfl, rfl, rfl, rfl, rfl, rfl, rfl, rfl, rfl, rfl, rfl, rfl⟩

@[simp] theorem takeReadFaces_frame (field first count : Nat) (s : State) :
    (takeReadFaces field first count s).1.pending = s.pending
      ∧ (takeReadFaces field first count s).1.pins = s.pins
      ∧ (takeReadFaces field first count s).1.store = s.store
      ∧ (takeReadFaces field first count s).1.tracker = s.tracker
      ∧ (takeReadFaces field first count s).1.turner = s.turner
      ∧ (takeReadFaces field first count s).1.mech = s.mech
      ∧ (takeReadFaces field first count s).1.lamps = s.lamps
      ∧ (takeReadFaces field first count s).1.dose = s.dose
      ∧ (takeReadFaces field first count s).1.capture = s.capture
      ∧ (takeReadFaces field first count s).1.pause = s.pause
      ∧ (takeReadFaces field first count s).1.summary = s.summary
      ∧ (takeReadFaces field first count s).1.link = s.link := by
  unfold takeReadFaces; (repeat' split) <;> simp

@[simp] theorem takeSetMark_frame (leaf kinds : Nat) (s : State) :
    (takeSetMark leaf kinds s).1.pending = s.pending ∧ (takeSetMark leaf kinds s).1.pins = s.pins
      ∧ (takeSetMark leaf kinds s).1.store.stream = s.store.stream
      ∧ (takeSetMark leaf kinds s).1.tracker = s.tracker ∧ (takeSetMark leaf kinds s).1.turner = s.turner
      ∧ (takeSetMark leaf kinds s).1.mech = s.mech ∧ (takeSetMark leaf kinds s).1.lamps = s.lamps
      ∧ (takeSetMark leaf kinds s).1.dose = s.dose ∧ (takeSetMark leaf kinds s).1.capture = s.capture
      ∧ (takeSetMark leaf kinds s).1.pause = s.pause ∧ (takeSetMark leaf kinds s).1.summary = s.summary
      ∧ (takeSetMark leaf kinds s).1.link = s.link := by
  unfold takeSetMark; (repeat' split) <;> simp

@[simp] theorem takeClearMark_frame (leaf : Nat) (s : State) :
    (takeClearMark leaf s).1.pending = s.pending ∧ (takeClearMark leaf s).1.pins = s.pins
      ∧ (takeClearMark leaf s).1.store.stream = s.store.stream ∧ (takeClearMark leaf s).1.tracker = s.tracker
      ∧ (takeClearMark leaf s).1.turner = s.turner ∧ (takeClearMark leaf s).1.mech = s.mech
      ∧ (takeClearMark leaf s).1.lamps = s.lamps ∧ (takeClearMark leaf s).1.dose = s.dose
      ∧ (takeClearMark leaf s).1.capture = s.capture ∧ (takeClearMark leaf s).1.pause = s.pause
      ∧ (takeClearMark leaf s).1.summary = s.summary ∧ (takeClearMark leaf s).1.link = s.link := by
  unfold takeClearMark; (repeat' split) <;> simp

@[simp] theorem logReseat_frame (s : State) (n : Nat) :
    (logReseat s n).pending = s.pending ∧ (logReseat s n).pins = s.pins
      ∧ (logReseat s n).store.stream = s.store.stream ∧ (logReseat s n).tracker = s.tracker
      ∧ (logReseat s n).turner = s.turner ∧ (logReseat s n).mech = s.mech ∧ (logReseat s n).lamps = s.lamps
      ∧ (logReseat s n).dose = s.dose ∧ (logReseat s n).capture = s.capture ∧ (logReseat s n).pause = s.pause
      ∧ (logReseat s n).summary.mask = s.summary.mask ∧ (logReseat s n).summary.elevated = s.summary.elevated
      ∧ (logReseat s n).link.framer = s.link.framer ∧ (logReseat s n).link.queue = s.link.queue
      ∧ (logReseat s n).link.replies = s.link.replies ∧ (logReseat s n).link.resetting = s.link.resetting
      ∧ (logReseat s n).link.rate = s.link.rate := by
  unfold logReseat; (repeat' split) <;> simp

@[simp] theorem placeAt_frame (s : State) (n : Nat) :
    (placeAt s n).pending = s.pending ∧ (placeAt s n).pins = s.pins
      ∧ (placeAt s n).store.stream = s.store.stream ∧ (placeAt s n).turner = s.turner
      ∧ (placeAt s n).pause = s.pause ∧ (placeAt s n).summary.mask = s.summary.mask
      ∧ (placeAt s n).summary.elevated = s.summary.elevated ∧ (placeAt s n).link.framer = s.link.framer
      ∧ (placeAt s n).link.queue = s.link.queue ∧ (placeAt s n).link.replies = s.link.replies
      ∧ (placeAt s n).link.resetting = s.link.resetting ∧ (placeAt s n).link.rate = s.link.rate := by
  unfold placeAt; dsimp only; (repeat' split) <;> simp

@[simp] theorem takePlace_frame (n : Nat) (s : State) :
    (takePlace n s).1.pending = s.pending ∧ (takePlace n s).1.pins = s.pins
      ∧ (takePlace n s).1.store.stream = s.store.stream ∧ (takePlace n s).1.turner = s.turner
      ∧ (takePlace n s).1.pause = s.pause ∧ (takePlace n s).1.summary.mask = s.summary.mask
      ∧ (takePlace n s).1.summary.elevated = s.summary.elevated ∧ (takePlace n s).1.link.framer = s.link.framer
      ∧ (takePlace n s).1.link.queue = s.link.queue ∧ (takePlace n s).1.link.replies = s.link.replies
      ∧ (takePlace n s).1.link.resetting = s.link.resetting ∧ (takePlace n s).1.link.rate = s.link.rate := by
  unfold takePlace; (repeat' split) <;> simp

@[simp] theorem takeReadOpening_frame (s : State) :
    (takeReadOpening s).1.pending = s.pending ∧ (takeReadOpening s).1.pins = s.pins
      ∧ (takeReadOpening s).1.store = s.store ∧ (takeReadOpening s).1.tracker = s.tracker
      ∧ (takeReadOpening s).1.turner = s.turner ∧ (takeReadOpening s).1.mech = s.mech
      ∧ (takeReadOpening s).1.lamps = s.lamps ∧ (takeReadOpening s).1.dose = s.dose
      ∧ (takeReadOpening s).1.capture = s.capture ∧ (takeReadOpening s).1.pause = s.pause
      ∧ (takeReadOpening s).1.summary = s.summary ∧ (takeReadOpening s).1.link = s.link :=
  ⟨rfl, rfl, rfl, rfl, rfl, rfl, rfl, rfl, rfl, rfl, rfl, rfl⟩

@[simp] theorem startTurn_frame (s : State) (v : Volume) (d : Direction) (manualFlag : Bool) :
    (startTurn s v d manualFlag).1.pending = s.pending
      ∧ (startTurn s v d manualFlag).1.store.stream = s.store.stream
      ∧ (startTurn s v d manualFlag).1.pause = s.pause
      ∧ (startTurn s v d manualFlag).1.summary.mask = s.summary.mask
      ∧ (startTurn s v d manualFlag).1.summary.elevated = s.summary.elevated
      ∧ (startTurn s v d manualFlag).1.link.framer = s.link.framer
      ∧ (startTurn s v d manualFlag).1.link.queue = s.link.queue
      ∧ (startTurn s v d manualFlag).1.link.replies = s.link.replies
      ∧ (startTurn s v d manualFlag).1.link.resetting = s.link.resetting
      ∧ (startTurn s v d manualFlag).1.link.rate = s.link.rate := by
  unfold startTurn; (repeat' split) <;> simp

@[simp] theorem deferRequest_frame (s : State) (d : Deferred) :
    (deferRequest s d).1.pending = s.pending ∧ (deferRequest s d).1.pins = s.pins
      ∧ (deferRequest s d).1.store = s.store ∧ (deferRequest s d).1.tracker = s.tracker
      ∧ (deferRequest s d).1.turner = s.turner ∧ (deferRequest s d).1.mech = s.mech
      ∧ (deferRequest s d).1.lamps = s.lamps ∧ (deferRequest s d).1.dose = s.dose
      ∧ (deferRequest s d).1.capture = s.capture ∧ (deferRequest s d).1.pause.state = s.pause.state
      ∧ (deferRequest s d).1.pause.hoodOpen = s.pause.hoodOpen
      ∧ (deferRequest s d).1.pause.lines = s.pause.lines ∧ (deferRequest s d).1.summary = s.summary
      ∧ (deferRequest s d).1.link = s.link := by
  unfold deferRequest; (repeat' split) <;> simp

@[simp] theorem turnArrives_frame (direction flags : Nat) (s : State) :
    (turnArrives direction flags s).1.pending = s.pending
      ∧ (turnArrives direction flags s).1.store.stream = s.store.stream
      ∧ (turnArrives direction flags s).1.pause.state = s.pause.state
      ∧ (turnArrives direction flags s).1.pause.hoodOpen = s.pause.hoodOpen
      ∧ (turnArrives direction flags s).1.pause.lines = s.pause.lines
      ∧ (turnArrives direction flags s).1.summary.mask = s.summary.mask
      ∧ (turnArrives direction flags s).1.summary.elevated = s.summary.elevated
      ∧ (turnArrives direction flags s).1.link.framer = s.link.framer
      ∧ (turnArrives direction flags s).1.link.queue = s.link.queue
      ∧ (turnArrives direction flags s).1.link.replies = s.link.replies
      ∧ (turnArrives direction flags s).1.link.resetting = s.link.resetting
      ∧ (turnArrives direction flags s).1.link.rate = s.link.rate := by
  unfold turnArrives; dsimp only; (repeat' split) <;> simp

@[simp] theorem takeTurn_frame (direction flags : Nat) (s : State) :
    (takeTurn direction flags s).1.pending = s.pending
      ∧ (takeTurn direction flags s).1.store.stream = s.store.stream
      ∧ (takeTurn direction flags s).1.pause.state = s.pause.state
      ∧ (takeTurn direction flags s).1.pause.hoodOpen = s.pause.hoodOpen
      ∧ (takeTurn direction flags s).1.pause.lines = s.pause.lines
      ∧ (takeTurn direction flags s).1.summary.mask = s.summary.mask
      ∧ (takeTurn direction flags s).1.summary.elevated = s.summary.elevated
      ∧ (takeTurn direction flags s).1.link.framer = s.link.framer
      ∧ (takeTurn direction flags s).1.link.queue = s.link.queue
      ∧ (takeTurn direction flags s).1.link.replies = s.link.replies
      ∧ (takeTurn direction flags s).1.link.resetting = s.link.resetting
      ∧ (takeTurn direction flags s).1.link.rate = s.link.rate := by
  simp [takeTurn]

@[simp] theorem takePark_frame (s : State) :
    (takePark s).1.pending = s.pending ∧ (takePark s).1.store.stream = s.store.stream
      ∧ (takePark s).1.pause = s.pause ∧ (takePark s).1.summary.mask = s.summary.mask
      ∧ (takePark s).1.summary.elevated = s.summary.elevated ∧ (takePark s).1.link.framer = s.link.framer
      ∧ (takePark s).1.link.queue = s.link.queue ∧ (takePark s).1.link.replies = s.link.replies
      ∧ (takePark s).1.link.resetting = s.link.resetting ∧ (takePark s).1.link.rate = s.link.rate := by
  unfold takePark; (repeat' split) <;> simp

@[simp] theorem takeManualDone_frame (direction : Nat) (s : State) :
    (takeManualDone direction s).1.pending = s.pending ∧ (takeManualDone direction s).1.pins = s.pins
      ∧ (takeManualDone direction s).1.store.stream = s.store.stream
      ∧ (takeManualDone direction s).1.pause = s.pause
      ∧ (takeManualDone direction s).1.summary.mask = s.summary.mask
      ∧ (takeManualDone direction s).1.summary.elevated = s.summary.elevated
      ∧ (takeManualDone direction s).1.link.framer = s.link.framer
      ∧ (takeManualDone direction s).1.link.queue = s.link.queue
      ∧ (takeManualDone direction s).1.link.replies = s.link.replies
      ∧ (takeManualDone direction s).1.link.resetting = s.link.resetting
      ∧ (takeManualDone direction s).1.link.rate = s.link.rate := by
  unfold takeManualDone; (repeat' split) <;> simp

@[simp] theorem takeCancelTurn_frame (s : State) :
    (takeCancelTurn s).1.pending = s.pending ∧ (takeCancelTurn s).1.pins = s.pins
      ∧ (takeCancelTurn s).1.store = s.store ∧ (takeCancelTurn s).1.tracker = s.tracker
      ∧ (takeCancelTurn s).1.mech.targets = s.mech.targets ∧ (takeCancelTurn s).1.lamps = s.lamps
      ∧ (takeCancelTurn s).1.dose = s.dose ∧ (takeCancelTurn s).1.capture = s.capture
      ∧ (takeCancelTurn s).1.pause = s.pause ∧ (takeCancelTurn s).1.summary = s.summary
      ∧ (takeCancelTurn s).1.link = s.link := by
  unfold takeCancelTurn; (repeat' split) <;> simp

@[simp] theorem takeSetTurner_frame (reach lift carry lay ret limit : Nat) (s : State) :
    (takeSetTurner reach lift carry lay ret limit s).1.pending = s.pending
      ∧ (takeSetTurner reach lift carry lay ret limit s).1.pins = s.pins
      ∧ (takeSetTurner reach lift carry lay ret limit s).1.store = s.store
      ∧ (takeSetTurner reach lift carry lay ret limit s).1.tracker = s.tracker
      ∧ (takeSetTurner reach lift carry lay ret limit s).1.mech = s.mech
      ∧ (takeSetTurner reach lift carry lay ret limit s).1.lamps = s.lamps
      ∧ (takeSetTurner reach lift carry lay ret limit s).1.dose = s.dose
      ∧ (takeSetTurner reach lift carry lay ret limit s).1.capture = s.capture
      ∧ (takeSetTurner reach lift carry lay ret limit s).1.pause = s.pause
      ∧ (takeSetTurner reach lift carry lay ret limit s).1.summary = s.summary
      ∧ (takeSetTurner reach lift carry lay ret limit s).1.link = s.link := by
  unfold takeSetTurner; (repeat' split) <;> simp

@[simp] theorem takeReadTurner_frame (s : State) :
    (takeReadTurner s).1.pending = s.pending ∧ (takeReadTurner s).1.pins = s.pins
      ∧ (takeReadTurner s).1.store = s.store ∧ (takeReadTurner s).1.tracker = s.tracker
      ∧ (takeReadTurner s).1.turner = s.turner ∧ (takeReadTurner s).1.mech = s.mech
      ∧ (takeReadTurner s).1.lamps = s.lamps ∧ (takeReadTurner s).1.dose = s.dose
      ∧ (takeReadTurner s).1.capture = s.capture ∧ (takeReadTurner s).1.pause = s.pause
      ∧ (takeReadTurner s).1.summary = s.summary ∧ (takeReadTurner s).1.link = s.link :=
  ⟨rfl, rfl, rfl, rfl, rfl, rfl, rfl, rfl, rfl, rfl, rfl, rfl⟩

@[simp] theorem turnTimedOut_frame (s : State) :
    (turnTimedOut s).pending = s.pending ∧ (turnTimedOut s).store.stream = s.store.stream
      ∧ (turnTimedOut s).pause = s.pause ∧ (turnTimedOut s).summary.mask = s.summary.mask
      ∧ (turnTimedOut s).summary.elevated = s.summary.elevated ∧ (turnTimedOut s).link.framer = s.link.framer
      ∧ (turnTimedOut s).link.queue = s.link.queue ∧ (turnTimedOut s).link.replies = s.link.replies
      ∧ (turnTimedOut s).link.resetting = s.link.resetting ∧ (turnTimedOut s).link.rate = s.link.rate := by
  unfold turnTimedOut; (repeat' split) <;> simp

@[simp] theorem takeSetGlass_frame (force : Nat) (s : State) :
    (takeSetGlass force s).1.pending = s.pending ∧ (takeSetGlass force s).1.pins = s.pins
      ∧ (takeSetGlass force s).1.store = s.store ∧ (takeSetGlass force s).1.tracker = s.tracker
      ∧ (takeSetGlass force s).1.turner = s.turner ∧ (takeSetGlass force s).1.mech.targets = s.mech.targets
      ∧ (takeSetGlass force s).1.lamps = s.lamps ∧ (takeSetGlass force s).1.dose = s.dose
      ∧ (takeSetGlass force s).1.capture = s.capture ∧ (takeSetGlass force s).1.pause = s.pause
      ∧ (takeSetGlass force s).1.summary = s.summary ∧ (takeSetGlass force s).1.link = s.link := by
  unfold takeSetGlass; (repeat' split) <;> simp

@[simp] theorem takeRaiseGlass_frame (s : State) :
    (takeRaiseGlass s).1.pending = s.pending ∧ (takeRaiseGlass s).1.pins = s.pins
      ∧ (takeRaiseGlass s).1.store = s.store ∧ (takeRaiseGlass s).1.tracker = s.tracker
      ∧ (takeRaiseGlass s).1.turner = s.turner ∧ (takeRaiseGlass s).1.mech.targets = s.mech.targets
      ∧ (takeRaiseGlass s).1.lamps = s.lamps ∧ (takeRaiseGlass s).1.dose = s.dose
      ∧ (takeRaiseGlass s).1.capture = s.capture ∧ (takeRaiseGlass s).1.pause = s.pause
      ∧ (takeRaiseGlass s).1.summary = s.summary ∧ (takeRaiseGlass s).1.link = s.link := by
  unfold takeRaiseGlass; (repeat' split) <;> simp

@[simp] theorem takeSetAngle_frame (angle : Nat) (s : State) :
    (takeSetAngle angle s).1.pending = s.pending ∧ (takeSetAngle angle s).1.pins = s.pins
      ∧ (takeSetAngle angle s).1.store.stream = s.store.stream
      ∧ (takeSetAngle angle s).1.tracker.state = s.tracker.state
      ∧ (takeSetAngle angle s).1.tracker.slot = s.tracker.slot
      ∧ (takeSetAngle angle s).1.tracker.n = s.tracker.n ∧ (takeSetAngle angle s).1.turner = s.turner
      ∧ (takeSetAngle angle s).1.mech.targets = s.mech.targets ∧ (takeSetAngle angle s).1.pause = s.pause
      ∧ (takeSetAngle angle s).1.summary.mask = s.summary.mask
      ∧ (takeSetAngle angle s).1.summary.elevated = s.summary.elevated
      ∧ (takeSetAngle angle s).1.link.framer = s.link.framer
      ∧ (takeSetAngle angle s).1.link.queue = s.link.queue
      ∧ (takeSetAngle angle s).1.link.replies = s.link.replies
      ∧ (takeSetAngle angle s).1.link.resetting = s.link.resetting
      ∧ (takeSetAngle angle s).1.link.rate = s.link.rate := by
  unfold takeSetAngle; (repeat' split) <;> simp

@[simp] theorem takeReadMechanics_frame (s : State) :
    (takeReadMechanics s).1.pending = s.pending ∧ (takeReadMechanics s).1.pins = s.pins
      ∧ (takeReadMechanics s).1.store = s.store ∧ (takeReadMechanics s).1.tracker = s.tracker
      ∧ (takeReadMechanics s).1.turner = s.turner ∧ (takeReadMechanics s).1.mech = s.mech
      ∧ (takeReadMechanics s).1.lamps = s.lamps ∧ (takeReadMechanics s).1.dose = s.dose
      ∧ (takeReadMechanics s).1.capture = s.capture ∧ (takeReadMechanics s).1.pause = s.pause
      ∧ (takeReadMechanics s).1.summary = s.summary ∧ (takeReadMechanics s).1.link = s.link :=
  ⟨rfl, rfl, rfl, rfl, rfl, rfl, rfl, rfl, rfl, rfl, rfl, rfl⟩

@[simp] theorem overforce_frame (s : State) (force : Nat) :
    (overforce s force).pending = s.pending ∧ (overforce s force).pins = s.pins
      ∧ (overforce s force).store.stream = s.store.stream ∧ (overforce s force).tracker.state = s.tracker.state
      ∧ (overforce s force).tracker.slot = s.tracker.slot ∧ (overforce s force).tracker.n = s.tracker.n
      ∧ (overforce s force).turner = s.turner ∧ (overforce s force).mech.targets = s.mech.targets
      ∧ (overforce s force).pause = s.pause ∧ (overforce s force).summary.mask = s.summary.mask
      ∧ (overforce s force).summary.elevated = s.summary.elevated
      ∧ (overforce s force).link.framer = s.link.framer ∧ (overforce s force).link.queue = s.link.queue
      ∧ (overforce s force).link.replies = s.link.replies
      ∧ (overforce s force).link.resetting = s.link.resetting ∧ (overforce s force).link.rate = s.link.rate := by
  unfold overforce; dsimp only; (repeat' split) <;> simp

@[simp] theorem readForce_frame (s : State) (force : Nat) (p : PressTarget) :
    (readForce s force p).pending = s.pending ∧ (readForce s force p).pins = s.pins
      ∧ (readForce s force p).store.stream = s.store.stream
      ∧ (readForce s force p).tracker.state = s.tracker.state
      ∧ (readForce s force p).tracker.slot = s.tracker.slot ∧ (readForce s force p).tracker.n = s.tracker.n
      ∧ (readForce s force p).turner = s.turner ∧ (readForce s force p).mech.targets = s.mech.targets
      ∧ (readForce s force p).pause = s.pause ∧ (readForce s force p).summary.mask = s.summary.mask
      ∧ (readForce s force p).summary.elevated = s.summary.elevated
      ∧ (readForce s force p).link.framer = s.link.framer ∧ (readForce s force p).link.queue = s.link.queue
      ∧ (readForce s force p).link.replies = s.link.replies
      ∧ (readForce s force p).link.resetting = s.link.resetting ∧ (readForce s force p).link.rate = s.link.rate := by
  unfold readForce; (repeat' split) <;> simp

@[simp] theorem takeLampsOn_frame (s : State) :
    (takeLampsOn s).1.pending = s.pending ∧ (takeLampsOn s).1.pins = s.pins
      ∧ (takeLampsOn s).1.store.stream = s.store.stream ∧ (takeLampsOn s).1.tracker.state = s.tracker.state
      ∧ (takeLampsOn s).1.tracker.slot = s.tracker.slot ∧ (takeLampsOn s).1.tracker.n = s.tracker.n
      ∧ (takeLampsOn s).1.turner = s.turner ∧ (takeLampsOn s).1.mech = s.mech
      ∧ (takeLampsOn s).1.capture = s.capture ∧ (takeLampsOn s).1.pause = s.pause
      ∧ (takeLampsOn s).1.summary.mask = s.summary.mask
      ∧ (takeLampsOn s).1.summary.elevated = s.summary.elevated ∧ (takeLampsOn s).1.link.framer = s.link.framer
      ∧ (takeLampsOn s).1.link.queue = s.link.queue ∧ (takeLampsOn s).1.link.replies = s.link.replies
      ∧ (takeLampsOn s).1.link.resetting = s.link.resetting ∧ (takeLampsOn s).1.link.rate = s.link.rate := by
  unfold takeLampsOn; (repeat' split) <;> simp

@[simp] theorem takeLampsOff_frame (s : State) :
    (takeLampsOff s).1.pending = s.pending ∧ (takeLampsOff s).1.pins = s.pins
      ∧ (takeLampsOff s).1.store.stream = s.store.stream ∧ (takeLampsOff s).1.tracker.state = s.tracker.state
      ∧ (takeLampsOff s).1.tracker.slot = s.tracker.slot ∧ (takeLampsOff s).1.tracker.n = s.tracker.n
      ∧ (takeLampsOff s).1.turner = s.turner ∧ (takeLampsOff s).1.mech = s.mech
      ∧ (takeLampsOff s).1.capture = s.capture ∧ (takeLampsOff s).1.pause = s.pause
      ∧ (takeLampsOff s).1.summary.mask = s.summary.mask
      ∧ (takeLampsOff s).1.summary.elevated = s.summary.elevated
      ∧ (takeLampsOff s).1.link.framer = s.link.framer ∧ (takeLampsOff s).1.link.queue = s.link.queue
      ∧ (takeLampsOff s).1.link.replies = s.link.replies ∧ (takeLampsOff s).1.link.resetting = s.link.resetting
      ∧ (takeLampsOff s).1.link.rate = s.link.rate := by
  unfold takeLampsOff; (repeat' split) <;> simp

@[simp] theorem takeSetLighting_frame (drives : Banks Nat) (times : Sides Nat) (spill : Nat) (s : State) :
    (takeSetLighting drives times spill s).1.pending = s.pending
      ∧ (takeSetLighting drives times spill s).1.pins = s.pins
      ∧ (takeSetLighting drives times spill s).1.store.stream = s.store.stream
      ∧ (takeSetLighting drives times spill s).1.tracker.state = s.tracker.state
      ∧ (takeSetLighting drives times spill s).1.tracker.slot = s.tracker.slot
      ∧ (takeSetLighting drives times spill s).1.tracker.n = s.tracker.n
      ∧ (takeSetLighting drives times spill s).1.turner = s.turner
      ∧ (takeSetLighting drives times spill s).1.mech = s.mech
      ∧ (takeSetLighting drives times spill s).1.capture = s.capture
      ∧ (takeSetLighting drives times spill s).1.pause = s.pause
      ∧ (takeSetLighting drives times spill s).1.summary.mask = s.summary.mask
      ∧ (takeSetLighting drives times spill s).1.summary.elevated = s.summary.elevated
      ∧ (takeSetLighting drives times spill s).1.link.framer = s.link.framer
      ∧ (takeSetLighting drives times spill s).1.link.queue = s.link.queue
      ∧ (takeSetLighting drives times spill s).1.link.replies = s.link.replies
      ∧ (takeSetLighting drives times spill s).1.link.resetting = s.link.resetting
      ∧ (takeSetLighting drives times spill s).1.link.rate = s.link.rate := by
  unfold takeSetLighting; (repeat' split) <;> simp

@[simp] theorem takeSetAiming_frame (level rest : Nat) (s : State) :
    (takeSetAiming level rest s).1.pending = s.pending ∧ (takeSetAiming level rest s).1.pins = s.pins
      ∧ (takeSetAiming level rest s).1.store.stream = s.store.stream
      ∧ (takeSetAiming level rest s).1.tracker.state = s.tracker.state
      ∧ (takeSetAiming level rest s).1.tracker.slot = s.tracker.slot
      ∧ (takeSetAiming level rest s).1.tracker.n = s.tracker.n
      ∧ (takeSetAiming level rest s).1.turner = s.turner ∧ (takeSetAiming level rest s).1.mech = s.mech
      ∧ (takeSetAiming level rest s).1.capture = s.capture ∧ (takeSetAiming level rest s).1.pause = s.pause
      ∧ (takeSetAiming level rest s).1.summary.mask = s.summary.mask
      ∧ (takeSetAiming level rest s).1.summary.elevated = s.summary.elevated
      ∧ (takeSetAiming level rest s).1.link.framer = s.link.framer
      ∧ (takeSetAiming level rest s).1.link.queue = s.link.queue
      ∧ (takeSetAiming level rest s).1.link.replies = s.link.replies
      ∧ (takeSetAiming level rest s).1.link.resetting = s.link.resetting
      ∧ (takeSetAiming level rest s).1.link.rate = s.link.rate := by
  unfold takeSetAiming; (repeat' split) <;> simp

@[simp] theorem takeSetIdle_frame (rest dark supply settle : Nat) (s : State) :
    (takeSetIdle rest dark supply settle s).1.pending = s.pending
      ∧ (takeSetIdle rest dark supply settle s).1.pins = s.pins
      ∧ (takeSetIdle rest dark supply settle s).1.store.stream = s.store.stream
      ∧ (takeSetIdle rest dark supply settle s).1.tracker.state = s.tracker.state
      ∧ (takeSetIdle rest dark supply settle s).1.tracker.slot = s.tracker.slot
      ∧ (takeSetIdle rest dark supply settle s).1.tracker.n = s.tracker.n
      ∧ (takeSetIdle rest dark supply settle s).1.turner = s.turner
      ∧ (takeSetIdle rest dark supply settle s).1.mech = s.mech
      ∧ (takeSetIdle rest dark supply settle s).1.capture = s.capture
      ∧ (takeSetIdle rest dark supply settle s).1.pause = s.pause
      ∧ (takeSetIdle rest dark supply settle s).1.summary.mask = s.summary.mask
      ∧ (takeSetIdle rest dark supply settle s).1.summary.elevated = s.summary.elevated
      ∧ (takeSetIdle rest dark supply settle s).1.link.framer = s.link.framer
      ∧ (takeSetIdle rest dark supply settle s).1.link.queue = s.link.queue
      ∧ (takeSetIdle rest dark supply settle s).1.link.replies = s.link.replies
      ∧ (takeSetIdle rest dark supply settle s).1.link.resetting = s.link.resetting
      ∧ (takeSetIdle rest dark supply settle s).1.link.rate = s.link.rate := by
  unfold takeSetIdle; (repeat' split) <;> simp

@[simp] theorem takeReferenceCheck_frame (banks : Nat) (s : State) :
    (takeReferenceCheck banks s).1.pending = s.pending ∧ (takeReferenceCheck banks s).1.pins = s.pins
      ∧ (takeReferenceCheck banks s).1.store.stream = s.store.stream
      ∧ (takeReferenceCheck banks s).1.tracker.state = s.tracker.state
      ∧ (takeReferenceCheck banks s).1.tracker.slot = s.tracker.slot
      ∧ (takeReferenceCheck banks s).1.tracker.n = s.tracker.n
      ∧ (takeReferenceCheck banks s).1.turner = s.turner ∧ (takeReferenceCheck banks s).1.mech = s.mech
      ∧ (takeReferenceCheck banks s).1.capture = s.capture ∧ (takeReferenceCheck banks s).1.pause = s.pause
      ∧ (takeReferenceCheck banks s).1.summary.mask = s.summary.mask
      ∧ (takeReferenceCheck banks s).1.summary.elevated = s.summary.elevated
      ∧ (takeReferenceCheck banks s).1.link.framer = s.link.framer
      ∧ (takeReferenceCheck banks s).1.link.queue = s.link.queue
      ∧ (takeReferenceCheck banks s).1.link.replies = s.link.replies
      ∧ (takeReferenceCheck banks s).1.link.resetting = s.link.resetting
      ∧ (takeReferenceCheck banks s).1.link.rate = s.link.rate := by
  unfold takeReferenceCheck; dsimp only; (repeat' split) <;> simp

@[simp] theorem takeSetChecks_frame (interval rotation tolerance failLimit : Nat) (s : State) :
    (takeSetChecks interval rotation tolerance failLimit s).1.pending = s.pending
      ∧ (takeSetChecks interval rotation tolerance failLimit s).1.pins = s.pins
      ∧ (takeSetChecks interval rotation tolerance failLimit s).1.store = s.store
      ∧ (takeSetChecks interval rotation tolerance failLimit s).1.tracker = s.tracker
      ∧ (takeSetChecks interval rotation tolerance failLimit s).1.turner = s.turner
      ∧ (takeSetChecks interval rotation tolerance failLimit s).1.mech = s.mech
      ∧ (takeSetChecks interval rotation tolerance failLimit s).1.dose = s.dose
      ∧ (takeSetChecks interval rotation tolerance failLimit s).1.capture = s.capture
      ∧ (takeSetChecks interval rotation tolerance failLimit s).1.pause = s.pause
      ∧ (takeSetChecks interval rotation tolerance failLimit s).1.summary = s.summary
      ∧ (takeSetChecks interval rotation tolerance failLimit s).1.link = s.link := by
  unfold takeSetChecks; (repeat' split) <;> simp

@[simp] theorem takeReadLamps_frame (s : State) :
    (takeReadLamps s).1.pending = s.pending ∧ (takeReadLamps s).1.pins = s.pins
      ∧ (takeReadLamps s).1.store = s.store ∧ (takeReadLamps s).1.tracker = s.tracker
      ∧ (takeReadLamps s).1.turner = s.turner ∧ (takeReadLamps s).1.mech = s.mech
      ∧ (takeReadLamps s).1.lamps = s.lamps ∧ (takeReadLamps s).1.dose = s.dose
      ∧ (takeReadLamps s).1.capture = s.capture ∧ (takeReadLamps s).1.pause = s.pause
      ∧ (takeReadLamps s).1.summary = s.summary ∧ (takeReadLamps s).1.link = s.link :=
  ⟨rfl, rfl, rfl, rfl, rfl, rfl, rfl, rfl, rfl, rfl, rfl, rfl⟩

@[simp] theorem idleExpires_frame (s : State) :
    (idleExpires s).pending = s.pending ∧ (idleExpires s).pins = s.pins ∧ (idleExpires s).store = s.store
      ∧ (idleExpires s).tracker = s.tracker ∧ (idleExpires s).turner = s.turner ∧ (idleExpires s).mech = s.mech
      ∧ (idleExpires s).dose = s.dose ∧ (idleExpires s).capture = s.capture ∧ (idleExpires s).pause = s.pause
      ∧ (idleExpires s).summary = s.summary ∧ (idleExpires s).link = s.link := by
  unfold idleExpires; dsimp only; (repeat' split) <;> simp

@[simp] theorem enterExposing_frame (s : State) (take : Nat) (sides : CaptureSides) (index : Nat) :
    (enterExposing s take sides index).pending = s.pending ∧ (enterExposing s take sides index).pins = s.pins
      ∧ (enterExposing s take sides index).store.stream = s.store.stream
      ∧ (enterExposing s take sides index).tracker = s.tracker
      ∧ (enterExposing s take sides index).turner = s.turner ∧ (enterExposing s take sides index).mech = s.mech
      ∧ (enterExposing s take sides index).lamps = s.lamps ∧ (enterExposing s take sides index).dose = s.dose
      ∧ (enterExposing s take sides index).pause = s.pause
      ∧ (enterExposing s take sides index).summary.mask = s.summary.mask
      ∧ (enterExposing s take sides index).summary.elevated = s.summary.elevated
      ∧ (enterExposing s take sides index).link.framer = s.link.framer
      ∧ (enterExposing s take sides index).link.queue = s.link.queue
      ∧ (enterExposing s take sides index).link.replies = s.link.replies
      ∧ (enterExposing s take sides index).link.resetting = s.link.resetting
      ∧ (enterExposing s take sides index).link.rate = s.link.rate :=
  by simp [enterExposing, appendCapture]

@[simp] theorem lightingReady_frame (s : State) :
    (lightingReady s).pending = s.pending ∧ (lightingReady s).pins = s.pins
      ∧ (lightingReady s).store.stream = s.store.stream ∧ (lightingReady s).tracker.state = s.tracker.state
      ∧ (lightingReady s).tracker.slot = s.tracker.slot ∧ (lightingReady s).tracker.n = s.tracker.n
      ∧ (lightingReady s).turner = s.turner ∧ (lightingReady s).mech.targets = s.mech.targets
      ∧ (lightingReady s).pause = s.pause ∧ (lightingReady s).summary.mask = s.summary.mask
      ∧ (lightingReady s).summary.elevated = s.summary.elevated ∧ (lightingReady s).link.framer = s.link.framer
      ∧ (lightingReady s).link.queue = s.link.queue ∧ (lightingReady s).link.replies = s.link.replies
      ∧ (lightingReady s).link.resetting = s.link.resetting ∧ (lightingReady s).link.rate = s.link.rate := by
  unfold lightingReady; (repeat' split) <;> simp

@[simp] theorem pulseStart_frame (s : State) (c : Check) (b : Bank) :
    (pulseStart s c b).pending = s.pending ∧ (pulseStart s c b).pins = s.pins
      ∧ (pulseStart s c b).store.stream = s.store.stream ∧ (pulseStart s c b).tracker = s.tracker
      ∧ (pulseStart s c b).turner = s.turner ∧ (pulseStart s c b).mech = s.mech
      ∧ (pulseStart s c b).capture = s.capture ∧ (pulseStart s c b).pause = s.pause
      ∧ (pulseStart s c b).summary.mask = s.summary.mask
      ∧ (pulseStart s c b).summary.elevated = s.summary.elevated
      ∧ (pulseStart s c b).link.framer = s.link.framer ∧ (pulseStart s c b).link.queue = s.link.queue
      ∧ (pulseStart s c b).link.replies = s.link.replies ∧ (pulseStart s c b).link.resetting = s.link.resetting
      ∧ (pulseStart s c b).link.rate = s.link.rate := by
  unfold pulseStart; (repeat' split) <;> simp

@[simp] theorem endCheck_frame (s : State) (c : Check) (outcome : CheckOutcome) :
    (endCheck s c outcome).pending = s.pending ∧ (endCheck s c outcome).pins = s.pins
      ∧ (endCheck s c outcome).store.stream = s.store.stream
      ∧ (endCheck s c outcome).tracker.state = s.tracker.state
      ∧ (endCheck s c outcome).tracker.slot = s.tracker.slot ∧ (endCheck s c outcome).tracker.n = s.tracker.n
      ∧ (endCheck s c outcome).turner = s.turner ∧ (endCheck s c outcome).mech.targets = s.mech.targets
      ∧ (endCheck s c outcome).pause = s.pause ∧ (endCheck s c outcome).summary.mask = s.summary.mask
      ∧ (endCheck s c outcome).summary.elevated = s.summary.elevated
      ∧ (endCheck s c outcome).link.framer = s.link.framer ∧ (endCheck s c outcome).link.queue = s.link.queue
      ∧ (endCheck s c outcome).link.replies = s.link.replies
      ∧ (endCheck s c outcome).link.resetting = s.link.resetting
      ∧ (endCheck s c outcome).link.rate = s.link.rate := by
  simp [endCheck]

@[simp] theorem checkGoesOn_frame (s : State) (c : Check) :
    (checkGoesOn s c).pending = s.pending ∧ (checkGoesOn s c).pins = s.pins
      ∧ (checkGoesOn s c).store.stream = s.store.stream ∧ (checkGoesOn s c).tracker.state = s.tracker.state
      ∧ (checkGoesOn s c).tracker.slot = s.tracker.slot ∧ (checkGoesOn s c).tracker.n = s.tracker.n
      ∧ (checkGoesOn s c).turner = s.turner ∧ (checkGoesOn s c).mech.targets = s.mech.targets
      ∧ (checkGoesOn s c).pause = s.pause ∧ (checkGoesOn s c).summary.mask = s.summary.mask
      ∧ (checkGoesOn s c).summary.elevated = s.summary.elevated ∧ (checkGoesOn s c).link.framer = s.link.framer
      ∧ (checkGoesOn s c).link.queue = s.link.queue ∧ (checkGoesOn s c).link.replies = s.link.replies
      ∧ (checkGoesOn s c).link.resetting = s.link.resetting ∧ (checkGoesOn s c).link.rate = s.link.rate := by
  unfold checkGoesOn; (repeat' split) <;> simp

@[simp] theorem verdictReport_frame (s : State) (b : Bank) (r : Nat) (v : Verdict) :
    (verdictReport s b r v).pending = s.pending ∧ (verdictReport s b r v).pins = s.pins
      ∧ (verdictReport s b r v).store.stream = s.store.stream ∧ (verdictReport s b r v).tracker = s.tracker
      ∧ (verdictReport s b r v).turner = s.turner ∧ (verdictReport s b r v).mech = s.mech
      ∧ (verdictReport s b r v).lamps = s.lamps ∧ (verdictReport s b r v).dose = s.dose
      ∧ (verdictReport s b r v).capture = s.capture ∧ (verdictReport s b r v).pause = s.pause
      ∧ (verdictReport s b r v).summary.mask = s.summary.mask
      ∧ (verdictReport s b r v).summary.elevated = s.summary.elevated
      ∧ (verdictReport s b r v).link.framer = s.link.framer ∧ (verdictReport s b r v).link.queue = s.link.queue
      ∧ (verdictReport s b r v).link.replies = s.link.replies
      ∧ (verdictReport s b r v).link.resetting = s.link.resetting
      ∧ (verdictReport s b r v).link.rate = s.link.rate :=
  by cases v <;> simp [verdictReport]

@[simp] theorem pulseEnd_frame (s : State) (c : Check) (b : Bank) (rest : List Bank) (r : Nat) :
    (pulseEnd s c b rest r).pending = s.pending ∧ (pulseEnd s c b rest r).pins = s.pins
      ∧ (pulseEnd s c b rest r).store.stream = s.store.stream
      ∧ (pulseEnd s c b rest r).tracker.state = s.tracker.state
      ∧ (pulseEnd s c b rest r).tracker.slot = s.tracker.slot ∧ (pulseEnd s c b rest r).tracker.n = s.tracker.n
      ∧ (pulseEnd s c b rest r).turner = s.turner ∧ (pulseEnd s c b rest r).mech.targets = s.mech.targets
      ∧ (pulseEnd s c b rest r).pause = s.pause ∧ (pulseEnd s c b rest r).summary.mask = s.summary.mask
      ∧ (pulseEnd s c b rest r).summary.elevated = s.summary.elevated
      ∧ (pulseEnd s c b rest r).link.framer = s.link.framer ∧ (pulseEnd s c b rest r).link.queue = s.link.queue
      ∧ (pulseEnd s c b rest r).link.replies = s.link.replies
      ∧ (pulseEnd s c b rest r).link.resetting = s.link.resetting
      ∧ (pulseEnd s c b rest r).link.rate = s.link.rate := by
  simp [pulseEnd]

@[simp] theorem startCapture_frame (s : State) (v : Volume) (n : Nat) (sides : CaptureSides) (manual : Bool) :
    (startCapture s v n sides manual).1.pending = s.pending ∧ (startCapture s v n sides manual).1.pins = s.pins
      ∧ (startCapture s v n sides manual).1.store.stream = s.store.stream
      ∧ (startCapture s v n sides manual).1.tracker.state = s.tracker.state
      ∧ (startCapture s v n sides manual).1.tracker.slot = s.tracker.slot
      ∧ (startCapture s v n sides manual).1.tracker.n = s.tracker.n
      ∧ (startCapture s v n sides manual).1.turner = s.turner
      ∧ (startCapture s v n sides manual).1.mech.targets = s.mech.targets
      ∧ (startCapture s v n sides manual).1.pause = s.pause
      ∧ (startCapture s v n sides manual).1.summary.mask = s.summary.mask
      ∧ (startCapture s v n sides manual).1.summary.elevated = s.summary.elevated
      ∧ (startCapture s v n sides manual).1.link.framer = s.link.framer
      ∧ (startCapture s v n sides manual).1.link.queue = s.link.queue
      ∧ (startCapture s v n sides manual).1.link.replies = s.link.replies
      ∧ (startCapture s v n sides manual).1.link.resetting = s.link.resetting
      ∧ (startCapture s v n sides manual).1.link.rate = s.link.rate := by
  simp [startCapture]

@[simp] theorem captureArrives_frame (code : Nat) (manual : Bool) (s : State) :
    (captureArrives code manual s).1.pending = s.pending ∧ (captureArrives code manual s).1.pins = s.pins
      ∧ (captureArrives code manual s).1.store.stream = s.store.stream
      ∧ (captureArrives code manual s).1.tracker.state = s.tracker.state
      ∧ (captureArrives code manual s).1.tracker.slot = s.tracker.slot
      ∧ (captureArrives code manual s).1.tracker.n = s.tracker.n
      ∧ (captureArrives code manual s).1.turner = s.turner
      ∧ (captureArrives code manual s).1.mech.targets = s.mech.targets
      ∧ (captureArrives code manual s).1.pause.state = s.pause.state
      ∧ (captureArrives code manual s).1.pause.hoodOpen = s.pause.hoodOpen
      ∧ (captureArrives code manual s).1.pause.lines = s.pause.lines
      ∧ (captureArrives code manual s).1.summary.mask = s.summary.mask
      ∧ (captureArrives code manual s).1.summary.elevated = s.summary.elevated
      ∧ (captureArrives code manual s).1.link.framer = s.link.framer
      ∧ (captureArrives code manual s).1.link.queue = s.link.queue
      ∧ (captureArrives code manual s).1.link.replies = s.link.replies
      ∧ (captureArrives code manual s).1.link.resetting = s.link.resetting
      ∧ (captureArrives code manual s).1.link.rate = s.link.rate := by
  unfold captureArrives; dsimp only; (repeat' split) <;> simp

@[simp] theorem takeCapture_frame (code : Nat) (s : State) :
    (takeCapture code s).1.pending = s.pending ∧ (takeCapture code s).1.pins = s.pins
      ∧ (takeCapture code s).1.store.stream = s.store.stream
      ∧ (takeCapture code s).1.tracker.state = s.tracker.state
      ∧ (takeCapture code s).1.tracker.slot = s.tracker.slot ∧ (takeCapture code s).1.tracker.n = s.tracker.n
      ∧ (takeCapture code s).1.turner = s.turner ∧ (takeCapture code s).1.mech.targets = s.mech.targets
      ∧ (takeCapture code s).1.pause.state = s.pause.state
      ∧ (takeCapture code s).1.pause.hoodOpen = s.pause.hoodOpen
      ∧ (takeCapture code s).1.pause.lines = s.pause.lines
      ∧ (takeCapture code s).1.summary.mask = s.summary.mask
      ∧ (takeCapture code s).1.summary.elevated = s.summary.elevated
      ∧ (takeCapture code s).1.link.framer = s.link.framer ∧ (takeCapture code s).1.link.queue = s.link.queue
      ∧ (takeCapture code s).1.link.replies = s.link.replies
      ∧ (takeCapture code s).1.link.resetting = s.link.resetting
      ∧ (takeCapture code s).1.link.rate = s.link.rate := by
  simp [takeCapture]

@[simp] theorem takeReceipt_frame (s : State) (side : Side) :
    (takeReceipt s side).pending = s.pending ∧ (takeReceipt s side).pins = s.pins
      ∧ (takeReceipt s side).store.stream = s.store.stream ∧ (takeReceipt s side).tracker = s.tracker
      ∧ (takeReceipt s side).turner = s.turner ∧ (takeReceipt s side).mech = s.mech
      ∧ (takeReceipt s side).lamps = s.lamps ∧ (takeReceipt s side).dose = s.dose
      ∧ (takeReceipt s side).pause = s.pause ∧ (takeReceipt s side).summary.mask = s.summary.mask
      ∧ (takeReceipt s side).summary.elevated = s.summary.elevated
      ∧ (takeReceipt s side).link.framer = s.link.framer ∧ (takeReceipt s side).link.queue = s.link.queue
      ∧ (takeReceipt s side).link.replies = s.link.replies
      ∧ (takeReceipt s side).link.resetting = s.link.resetting ∧ (takeReceipt s side).link.rate = s.link.rate := by
  unfold takeReceipt; dsimp only; (repeat' split) <;> simp

@[simp] theorem takeFrameReceived_frame (camera number : Nat) (s : State) :
    (takeFrameReceived camera number s).1.pending = s.pending
      ∧ (takeFrameReceived camera number s).1.pins = s.pins
      ∧ (takeFrameReceived camera number s).1.store.stream = s.store.stream
      ∧ (takeFrameReceived camera number s).1.tracker = s.tracker
      ∧ (takeFrameReceived camera number s).1.turner = s.turner
      ∧ (takeFrameReceived camera number s).1.mech = s.mech
      ∧ (takeFrameReceived camera number s).1.lamps = s.lamps
      ∧ (takeFrameReceived camera number s).1.dose = s.dose
      ∧ (takeFrameReceived camera number s).1.pause = s.pause
      ∧ (takeFrameReceived camera number s).1.summary.mask = s.summary.mask
      ∧ (takeFrameReceived camera number s).1.summary.elevated = s.summary.elevated
      ∧ (takeFrameReceived camera number s).1.link.framer = s.link.framer
      ∧ (takeFrameReceived camera number s).1.link.queue = s.link.queue
      ∧ (takeFrameReceived camera number s).1.link.replies = s.link.replies
      ∧ (takeFrameReceived camera number s).1.link.resetting = s.link.resetting
      ∧ (takeFrameReceived camera number s).1.link.rate = s.link.rate := by
  unfold takeFrameReceived; dsimp only; (repeat' split) <;> simp

@[simp] theorem takeAccept_frame (s : State) :
    (takeAccept s).1.pending = s.pending ∧ (takeAccept s).1.pins = s.pins
      ∧ (takeAccept s).1.store.stream = s.store.stream ∧ (takeAccept s).1.tracker = s.tracker
      ∧ (takeAccept s).1.turner = s.turner ∧ (takeAccept s).1.mech = s.mech ∧ (takeAccept s).1.lamps = s.lamps
      ∧ (takeAccept s).1.dose = s.dose ∧ (takeAccept s).1.pause = s.pause
      ∧ (takeAccept s).1.summary = s.summary ∧ (takeAccept s).1.link = s.link := by
  unfold takeAccept; (repeat' split) <;> simp

@[simp] theorem rejectCapture_frame (s : State) :
    (rejectCapture s).pending = s.pending ∧ (rejectCapture s).pins = s.pins
      ∧ (rejectCapture s).store.stream = s.store.stream ∧ (rejectCapture s).tracker = s.tracker
      ∧ (rejectCapture s).turner = s.turner ∧ (rejectCapture s).mech = s.mech
      ∧ (rejectCapture s).lamps = s.lamps ∧ (rejectCapture s).dose = s.dose ∧ (rejectCapture s).pause = s.pause
      ∧ (rejectCapture s).summary = s.summary ∧ (rejectCapture s).link = s.link := by
  simp [rejectCapture]

@[simp] theorem takeReject_frame (s : State) :
    (takeReject s).1.pending = s.pending ∧ (takeReject s).1.pins = s.pins
      ∧ (takeReject s).1.store.stream = s.store.stream ∧ (takeReject s).1.tracker = s.tracker
      ∧ (takeReject s).1.turner = s.turner ∧ (takeReject s).1.mech = s.mech ∧ (takeReject s).1.lamps = s.lamps
      ∧ (takeReject s).1.dose = s.dose ∧ (takeReject s).1.pause = s.pause
      ∧ (takeReject s).1.summary = s.summary ∧ (takeReject s).1.link = s.link := by
  unfold takeReject; (repeat' split) <;> simp

@[simp] theorem takeSetCapture_frame (mode timeout delayL delayR pedal : Nat) (s : State) :
    (takeSetCapture mode timeout delayL delayR pedal s).1.pending = s.pending
      ∧ (takeSetCapture mode timeout delayL delayR pedal s).1.pins = s.pins
      ∧ (takeSetCapture mode timeout delayL delayR pedal s).1.store = s.store
      ∧ (takeSetCapture mode timeout delayL delayR pedal s).1.tracker = s.tracker
      ∧ (takeSetCapture mode timeout delayL delayR pedal s).1.turner = s.turner
      ∧ (takeSetCapture mode timeout delayL delayR pedal s).1.mech = s.mech
      ∧ (takeSetCapture mode timeout delayL delayR pedal s).1.lamps = s.lamps
      ∧ (takeSetCapture mode timeout delayL delayR pedal s).1.dose = s.dose
      ∧ (takeSetCapture mode timeout delayL delayR pedal s).1.pause = s.pause
      ∧ (takeSetCapture mode timeout delayL delayR pedal s).1.summary = s.summary
      ∧ (takeSetCapture mode timeout delayL delayR pedal s).1.link = s.link := by
  unfold takeSetCapture; (repeat' split) <;> simp

@[simp] theorem takeReadCapture_frame (s : State) :
    (takeReadCapture s).1.pending = s.pending ∧ (takeReadCapture s).1.pins = s.pins
      ∧ (takeReadCapture s).1.store = s.store ∧ (takeReadCapture s).1.tracker = s.tracker
      ∧ (takeReadCapture s).1.turner = s.turner ∧ (takeReadCapture s).1.mech = s.mech
      ∧ (takeReadCapture s).1.lamps = s.lamps ∧ (takeReadCapture s).1.dose = s.dose
      ∧ (takeReadCapture s).1.capture = s.capture ∧ (takeReadCapture s).1.pause = s.pause
      ∧ (takeReadCapture s).1.summary = s.summary ∧ (takeReadCapture s).1.link = s.link :=
  ⟨rfl, rfl, rfl, rfl, rfl, rfl, rfl, rfl, rfl, rfl, rfl, rfl⟩

@[simp] theorem startStrobe_frame (s : State) (side : Side) :
    (startStrobe s side).pending = s.pending ∧ (startStrobe s side).pins = s.pins
      ∧ (startStrobe s side).store.stream = s.store.stream ∧ (startStrobe s side).tracker = s.tracker
      ∧ (startStrobe s side).turner = s.turner ∧ (startStrobe s side).mech = s.mech
      ∧ (startStrobe s side).pause = s.pause ∧ (startStrobe s side).summary.mask = s.summary.mask
      ∧ (startStrobe s side).summary.elevated = s.summary.elevated
      ∧ (startStrobe s side).link.framer = s.link.framer ∧ (startStrobe s side).link.queue = s.link.queue
      ∧ (startStrobe s side).link.replies = s.link.replies
      ∧ (startStrobe s side).link.resetting = s.link.resetting ∧ (startStrobe s side).link.rate = s.link.rate := by
  simp [startStrobe]

@[simp] theorem takeRise_frame (s : State) (side : Side) :
    (takeRise s side).pending = s.pending ∧ (takeRise s side).pins = s.pins
      ∧ (takeRise s side).store.stream = s.store.stream ∧ (takeRise s side).tracker = s.tracker
      ∧ (takeRise s side).turner = s.turner ∧ (takeRise s side).mech = s.mech
      ∧ (takeRise s side).pause = s.pause ∧ (takeRise s side).summary.mask = s.summary.mask
      ∧ (takeRise s side).summary.elevated = s.summary.elevated ∧ (takeRise s side).link.framer = s.link.framer
      ∧ (takeRise s side).link.queue = s.link.queue ∧ (takeRise s side).link.replies = s.link.replies
      ∧ (takeRise s side).link.resetting = s.link.resetting ∧ (takeRise s side).link.rate = s.link.rate := by
  unfold takeRise; (repeat' split) <;> simp

@[simp] theorem strayFrame_frame (s : State) (side : Side) :
    (strayFrame s side).pending = s.pending ∧ (strayFrame s side).pins = s.pins
      ∧ (strayFrame s side).store.stream = s.store.stream ∧ (strayFrame s side).tracker = s.tracker
      ∧ (strayFrame s side).turner = s.turner ∧ (strayFrame s side).mech = s.mech
      ∧ (strayFrame s side).lamps = s.lamps ∧ (strayFrame s side).dose = s.dose
      ∧ (strayFrame s side).capture = s.capture ∧ (strayFrame s side).pause = s.pause
      ∧ (strayFrame s side).summary.mask = s.summary.mask
      ∧ (strayFrame s side).summary.elevated = s.summary.elevated
      ∧ (strayFrame s side).link.framer = s.link.framer ∧ (strayFrame s side).link.queue = s.link.queue
      ∧ (strayFrame s side).link.replies = s.link.replies
      ∧ (strayFrame s side).link.resetting = s.link.resetting ∧ (strayFrame s side).link.rate = s.link.rate := by
  simp [strayFrame]

@[simp] theorem markUnder_frame (s : State) :
    (markUnder s).pending = s.pending ∧ (markUnder s).pins = s.pins ∧ (markUnder s).store = s.store
      ∧ (markUnder s).tracker = s.tracker ∧ (markUnder s).turner = s.turner ∧ (markUnder s).mech = s.mech
      ∧ (markUnder s).lamps = s.lamps ∧ (markUnder s).dose = s.dose ∧ (markUnder s).pause = s.pause
      ∧ (markUnder s).summary = s.summary ∧ (markUnder s).link = s.link :=
  ⟨rfl, rfl, rfl, rfl, rfl, rfl, rfl, rfl, rfl, rfl, rfl⟩

@[simp] theorem sideDone_frame (s : State) (side : Side) :
    (sideDone s side).pending = s.pending ∧ (sideDone s side).pins = s.pins ∧ (sideDone s side).store = s.store
      ∧ (sideDone s side).tracker = s.tracker ∧ (sideDone s side).turner = s.turner
      ∧ (sideDone s side).mech = s.mech ∧ (sideDone s side).lamps = s.lamps ∧ (sideDone s side).dose = s.dose
      ∧ (sideDone s side).pause = s.pause ∧ (sideDone s side).summary = s.summary
      ∧ (sideDone s side).link = s.link :=
  ⟨rfl, rfl, rfl, rfl, rfl, rfl, rfl, rfl, rfl, rfl, rfl⟩

@[simp] theorem takeFall_frame (s : State) (side : Side) :
    (takeFall s side).pending = s.pending ∧ (takeFall s side).pins = s.pins
      ∧ (takeFall s side).store.stream = s.store.stream ∧ (takeFall s side).tracker.state = s.tracker.state
      ∧ (takeFall s side).tracker.slot = s.tracker.slot ∧ (takeFall s side).tracker.n = s.tracker.n
      ∧ (takeFall s side).turner = s.turner ∧ (takeFall s side).mech.targets = s.mech.targets
      ∧ (takeFall s side).pause = s.pause ∧ (takeFall s side).summary.mask = s.summary.mask
      ∧ (takeFall s side).summary.elevated = s.summary.elevated ∧ (takeFall s side).link.framer = s.link.framer
      ∧ (takeFall s side).link.queue = s.link.queue ∧ (takeFall s side).link.replies = s.link.replies
      ∧ (takeFall s side).link.resetting = s.link.resetting ∧ (takeFall s side).link.rate = s.link.rate := by
  unfold takeFall; (repeat' split) <;> simp

@[simp] theorem cameraExpires_frame (s : State) (side : Side) :
    (cameraExpires s side).pending = s.pending ∧ (cameraExpires s side).pins = s.pins
      ∧ (cameraExpires s side).store.stream = s.store.stream
      ∧ (cameraExpires s side).tracker.state = s.tracker.state
      ∧ (cameraExpires s side).tracker.slot = s.tracker.slot ∧ (cameraExpires s side).tracker.n = s.tracker.n
      ∧ (cameraExpires s side).turner = s.turner ∧ (cameraExpires s side).mech.targets = s.mech.targets
      ∧ (cameraExpires s side).pause = s.pause ∧ (cameraExpires s side).summary.mask = s.summary.mask
      ∧ (cameraExpires s side).summary.elevated = s.summary.elevated
      ∧ (cameraExpires s side).link.framer = s.link.framer ∧ (cameraExpires s side).link.queue = s.link.queue
      ∧ (cameraExpires s side).link.replies = s.link.replies
      ∧ (cameraExpires s side).link.resetting = s.link.resetting
      ∧ (cameraExpires s side).link.rate = s.link.rate := by
  simp [cameraExpires]

@[simp] theorem breakPause_frame (s : State) (cause : PauseCause) (phase : Nat) :
    (breakPause s cause phase).pending = s.pending ∧ (breakPause s cause phase).pins = s.pins
      ∧ (breakPause s cause phase).store.stream = s.store.stream ∧ (breakPause s cause phase).turner = s.turner
      ∧ (breakPause s cause phase).pause = s.pause ∧ (breakPause s cause phase).summary.mask = s.summary.mask
      ∧ (breakPause s cause phase).summary.elevated = s.summary.elevated
      ∧ (breakPause s cause phase).link.framer = s.link.framer
      ∧ (breakPause s cause phase).link.queue = s.link.queue
      ∧ (breakPause s cause phase).link.replies = s.link.replies
      ∧ (breakPause s cause phase).link.resetting = s.link.resetting
      ∧ (breakPause s cause phase).link.rate = s.link.rate := by
  unfold breakPause; (repeat' split) <;> simp

@[simp] theorem haltGlass_frame (s : State) :
    (haltGlass s).pending = s.pending ∧ (haltGlass s).pins = s.pins ∧ (haltGlass s).store = s.store
      ∧ (haltGlass s).tracker = s.tracker ∧ (haltGlass s).turner = s.turner
      ∧ (haltGlass s).mech.targets = s.mech.targets ∧ (haltGlass s).lamps = s.lamps
      ∧ (haltGlass s).dose = s.dose ∧ (haltGlass s).capture = s.capture ∧ (haltGlass s).pause = s.pause
      ∧ (haltGlass s).summary = s.summary ∧ (haltGlass s).link = s.link := by
  unfold haltGlass; (repeat' split) <;> simp

@[simp] theorem stopTaken_frame (s : State) (cause : PauseCause) :
    (stopTaken s cause).pending = s.pending ∧ (stopTaken s cause).store.stream = s.store.stream
      ∧ (stopTaken s cause).summary.mask = s.summary.mask
      ∧ (stopTaken s cause).summary.elevated = s.summary.elevated
      ∧ (stopTaken s cause).link.framer = s.link.framer ∧ (stopTaken s cause).link.queue = s.link.queue
      ∧ (stopTaken s cause).link.replies = s.link.replies
      ∧ (stopTaken s cause).link.resetting = s.link.resetting ∧ (stopTaken s cause).link.rate = s.link.rate := by
  unfold stopTaken; dsimp only; (repeat' split) <;> simp

@[simp] theorem hoodEndsCheck_frame (s : State) :
    (hoodEndsCheck s).pending = s.pending ∧ (hoodEndsCheck s).pins = s.pins
      ∧ (hoodEndsCheck s).store.stream = s.store.stream ∧ (hoodEndsCheck s).tracker.state = s.tracker.state
      ∧ (hoodEndsCheck s).tracker.slot = s.tracker.slot ∧ (hoodEndsCheck s).tracker.n = s.tracker.n
      ∧ (hoodEndsCheck s).turner = s.turner ∧ (hoodEndsCheck s).mech.targets = s.mech.targets
      ∧ (hoodEndsCheck s).pause = s.pause ∧ (hoodEndsCheck s).summary.mask = s.summary.mask
      ∧ (hoodEndsCheck s).summary.elevated = s.summary.elevated ∧ (hoodEndsCheck s).link.framer = s.link.framer
      ∧ (hoodEndsCheck s).link.queue = s.link.queue ∧ (hoodEndsCheck s).link.replies = s.link.replies
      ∧ (hoodEndsCheck s).link.resetting = s.link.resetting ∧ (hoodEndsCheck s).link.rate = s.link.rate := by
  unfold hoodEndsCheck; dsimp only; (repeat' split) <;> simp

@[simp] theorem judgeHood_frame (s : State) :
    (judgeHood s).pending = s.pending ∧ (judgeHood s).store.stream = s.store.stream
      ∧ (judgeHood s).summary.mask = s.summary.mask ∧ (judgeHood s).summary.elevated = s.summary.elevated
      ∧ (judgeHood s).link.framer = s.link.framer ∧ (judgeHood s).link.queue = s.link.queue
      ∧ (judgeHood s).link.replies = s.link.replies ∧ (judgeHood s).link.resetting = s.link.resetting
      ∧ (judgeHood s).link.rate = s.link.rate := by
  unfold judgeHood; dsimp only; (repeat' split) <;> simp

@[simp] theorem recordPedal_frame (s : State) (a : PedalAction) :
    (recordPedal s a).pending = s.pending ∧ (recordPedal s a).pins = s.pins ∧ (recordPedal s a).store = s.store
      ∧ (recordPedal s a).tracker = s.tracker ∧ (recordPedal s a).turner = s.turner
      ∧ (recordPedal s a).mech = s.mech ∧ (recordPedal s a).lamps = s.lamps ∧ (recordPedal s a).dose = s.dose
      ∧ (recordPedal s a).capture = s.capture ∧ (recordPedal s a).pause.state = s.pause.state
      ∧ (recordPedal s a).pause.hoodOpen = s.pause.hoodOpen ∧ (recordPedal s a).pause.lines = s.pause.lines
      ∧ (recordPedal s a).summary = s.summary ∧ (recordPedal s a).link = s.link :=
  ⟨rfl, rfl, rfl, rfl, rfl, rfl, rfl, rfl, rfl, rfl, rfl, rfl, rfl, rfl⟩

@[simp] theorem pedalCaptures_frame (s : State) :
    (pedalCaptures s).pending = s.pending ∧ (pedalCaptures s).pins = s.pins
      ∧ (pedalCaptures s).store.stream = s.store.stream ∧ (pedalCaptures s).tracker.state = s.tracker.state
      ∧ (pedalCaptures s).tracker.slot = s.tracker.slot ∧ (pedalCaptures s).tracker.n = s.tracker.n
      ∧ (pedalCaptures s).turner = s.turner ∧ (pedalCaptures s).mech.targets = s.mech.targets
      ∧ (pedalCaptures s).pause.state = s.pause.state ∧ (pedalCaptures s).pause.hoodOpen = s.pause.hoodOpen
      ∧ (pedalCaptures s).pause.lines = s.pause.lines ∧ (pedalCaptures s).summary.mask = s.summary.mask
      ∧ (pedalCaptures s).summary.elevated = s.summary.elevated ∧ (pedalCaptures s).link.framer = s.link.framer
      ∧ (pedalCaptures s).link.queue = s.link.queue ∧ (pedalCaptures s).link.replies = s.link.replies
      ∧ (pedalCaptures s).link.resetting = s.link.resetting ∧ (pedalCaptures s).link.rate = s.link.rate := by
  unfold pedalCaptures; dsimp only; (repeat' split) <;> simp

@[simp] theorem pedalPress_frame (s : State) :
    (pedalPress s).pending = s.pending ∧ (pedalPress s).pins = s.pins
      ∧ (pedalPress s).store.stream = s.store.stream ∧ (pedalPress s).pause.state = s.pause.state
      ∧ (pedalPress s).pause.hoodOpen = s.pause.hoodOpen ∧ (pedalPress s).pause.lines = s.pause.lines
      ∧ (pedalPress s).summary.mask = s.summary.mask ∧ (pedalPress s).summary.elevated = s.summary.elevated
      ∧ (pedalPress s).link.framer = s.link.framer ∧ (pedalPress s).link.queue = s.link.queue
      ∧ (pedalPress s).link.replies = s.link.replies ∧ (pedalPress s).link.resetting = s.link.resetting
      ∧ (pedalPress s).link.rate = s.link.rate := by
  unfold pedalPress; (repeat' split) <;> simp

@[simp] theorem startDeferred_frame (s : State) (d : Deferred) :
    (startDeferred s d).1.pending = s.pending ∧ (startDeferred s d).1.store.stream = s.store.stream
      ∧ (startDeferred s d).1.summary.mask = s.summary.mask
      ∧ (startDeferred s d).1.summary.elevated = s.summary.elevated
      ∧ (startDeferred s d).1.link.framer = s.link.framer ∧ (startDeferred s d).1.link.queue = s.link.queue
      ∧ (startDeferred s d).1.link.replies = s.link.replies
      ∧ (startDeferred s d).1.link.resetting = s.link.resetting ∧ (startDeferred s d).1.link.rate = s.link.rate := by
  unfold startDeferred; (repeat' split) <;> simp

@[simp] theorem resumeRunning_frame (s : State) :
    (resumeRunning s).pending = s.pending ∧ (resumeRunning s).pins = s.pins ∧ (resumeRunning s).store = s.store
      ∧ (resumeRunning s).tracker = s.tracker ∧ (resumeRunning s).turner = s.turner
      ∧ (resumeRunning s).mech.targets = s.mech.targets ∧ (resumeRunning s).lamps = s.lamps
      ∧ (resumeRunning s).dose = s.dose ∧ (resumeRunning s).capture = s.capture
      ∧ (resumeRunning s).pause.hoodOpen = s.pause.hoodOpen ∧ (resumeRunning s).pause.lines = s.pause.lines
      ∧ (resumeRunning s).summary = s.summary ∧ (resumeRunning s).link = s.link := by
  unfold resumeRunning; dsimp only; split <;> simp [setPause]

@[simp] theorem deferredResult_frame (out : State × Answer) :
    (deferredResult out).pending = out.1.pending ∧ (deferredResult out).pins = out.1.pins
      ∧ (deferredResult out).store = out.1.store ∧ (deferredResult out).tracker = out.1.tracker
      ∧ (deferredResult out).turner = out.1.turner ∧ (deferredResult out).mech = out.1.mech
      ∧ (deferredResult out).lamps = out.1.lamps ∧ (deferredResult out).dose = out.1.dose
      ∧ (deferredResult out).capture = out.1.capture
      ∧ (deferredResult out).pause.state = out.1.pause.state
      ∧ (deferredResult out).pause.hoodOpen = out.1.pause.hoodOpen
      ∧ (deferredResult out).pause.lines = out.1.pause.lines
      ∧ (deferredResult out).summary.mask = out.1.summary.mask
      ∧ (deferredResult out).summary.elevated = out.1.summary.elevated
      ∧ (deferredResult out).link.framer = out.1.link.framer ∧ (deferredResult out).link.queue = out.1.link.queue
      ∧ (deferredResult out).link.replies = out.1.link.replies
      ∧ (deferredResult out).link.resetting = out.1.link.resetting
      ∧ (deferredResult out).link.rate = out.1.link.rate :=
  by unfold deferredResult; split <;> simp [setPause]

@[simp] theorem resumeTaken_frame (s : State) :
    (resumeTaken s).pending = s.pending ∧ (resumeTaken s).store.stream = s.store.stream
      ∧ (resumeTaken s).summary.mask = s.summary.mask ∧ (resumeTaken s).summary.elevated = s.summary.elevated
      ∧ (resumeTaken s).link.framer = s.link.framer ∧ (resumeTaken s).link.queue = s.link.queue
      ∧ (resumeTaken s).link.replies = s.link.replies ∧ (resumeTaken s).link.resetting = s.link.resetting
      ∧ (resumeTaken s).link.rate = s.link.rate := by
  unfold resumeTaken; split <;> simp

@[simp] theorem takeResume_frame (s : State) :
    (takeResume s).1.pending = s.pending ∧ (takeResume s).1.store.stream = s.store.stream
      ∧ (takeResume s).1.summary.mask = s.summary.mask ∧ (takeResume s).1.summary.elevated = s.summary.elevated
      ∧ (takeResume s).1.link.framer = s.link.framer ∧ (takeResume s).1.link.queue = s.link.queue
      ∧ (takeResume s).1.link.replies = s.link.replies ∧ (takeResume s).1.link.resetting = s.link.resetting
      ∧ (takeResume s).1.link.rate = s.link.rate := by
  unfold takeResume; (repeat' split) <;> simp

@[simp] theorem takeSetAux_frame (funcs edges : Lines Nat) (s : State) :
    (takeSetAux funcs edges s).1.pending = s.pending
      ∧ (takeSetAux funcs edges s).1.store.stream = s.store.stream
      ∧ (takeSetAux funcs edges s).1.summary.mask = s.summary.mask
      ∧ (takeSetAux funcs edges s).1.summary.elevated = s.summary.elevated
      ∧ (takeSetAux funcs edges s).1.link.framer = s.link.framer
      ∧ (takeSetAux funcs edges s).1.link.queue = s.link.queue
      ∧ (takeSetAux funcs edges s).1.link.replies = s.link.replies
      ∧ (takeSetAux funcs edges s).1.link.resetting = s.link.resetting
      ∧ (takeSetAux funcs edges s).1.link.rate = s.link.rate := by
  unfold takeSetAux; (repeat' split) <;> simp

@[simp] theorem takeReadAux_frame (s : State) :
    (takeReadAux s).1.pending = s.pending ∧ (takeReadAux s).1.pins = s.pins ∧ (takeReadAux s).1.store = s.store
      ∧ (takeReadAux s).1.tracker = s.tracker ∧ (takeReadAux s).1.turner = s.turner
      ∧ (takeReadAux s).1.mech = s.mech ∧ (takeReadAux s).1.lamps = s.lamps ∧ (takeReadAux s).1.dose = s.dose
      ∧ (takeReadAux s).1.capture = s.capture ∧ (takeReadAux s).1.pause.state = s.pause.state
      ∧ (takeReadAux s).1.pause.hoodOpen = s.pause.hoodOpen ∧ (takeReadAux s).1.summary = s.summary
      ∧ (takeReadAux s).1.link = s.link :=
  ⟨rfl, rfl, rfl, rfl, rfl, rfl, rfl, rfl, rfl, rfl, rfl, rfl, rfl⟩

@[simp] theorem setAuxLine_frame (s : State) (l : AuxLine) (a : Aux) :
    (setAuxLine s l a).pending = s.pending ∧ (setAuxLine s l a).pins = s.pins
      ∧ (setAuxLine s l a).store = s.store ∧ (setAuxLine s l a).tracker = s.tracker
      ∧ (setAuxLine s l a).turner = s.turner ∧ (setAuxLine s l a).mech = s.mech
      ∧ (setAuxLine s l a).lamps = s.lamps ∧ (setAuxLine s l a).dose = s.dose
      ∧ (setAuxLine s l a).capture = s.capture ∧ (setAuxLine s l a).pause.state = s.pause.state
      ∧ (setAuxLine s l a).pause.hoodOpen = s.pause.hoodOpen ∧ (setAuxLine s l a).summary = s.summary
      ∧ (setAuxLine s l a).link = s.link :=
  ⟨rfl, rfl, rfl, rfl, rfl, rfl, rfl, rfl, rfl, rfl, rfl, rfl, rfl⟩

@[simp] theorem signalEdge_frame (s : State) (line : AuxLine) (edge : EdgeKind) :
    (signalEdge s line edge).pending = s.pending ∧ (signalEdge s line edge).pins = s.pins
      ∧ (signalEdge s line edge).store = s.store ∧ (signalEdge s line edge).tracker = s.tracker
      ∧ (signalEdge s line edge).turner = s.turner ∧ (signalEdge s line edge).mech = s.mech
      ∧ (signalEdge s line edge).lamps = s.lamps ∧ (signalEdge s line edge).dose = s.dose
      ∧ (signalEdge s line edge).capture = s.capture ∧ (signalEdge s line edge).pause.state = s.pause.state
      ∧ (signalEdge s line edge).pause.hoodOpen = s.pause.hoodOpen
      ∧ (signalEdge s line edge).summary.mask = s.summary.mask
      ∧ (signalEdge s line edge).summary.elevated = s.summary.elevated
      ∧ (signalEdge s line edge).link.framer = s.link.framer
      ∧ (signalEdge s line edge).link.queue = s.link.queue
      ∧ (signalEdge s line edge).link.replies = s.link.replies
      ∧ (signalEdge s line edge).link.resetting = s.link.resetting
      ∧ (signalEdge s line edge).link.rate = s.link.rate := by
  simp [signalEdge]

@[simp] theorem edgeActs_frame (s : State) (line : AuxLine) (edge : EdgeKind) :
    (edgeActs s line edge).pending = s.pending ∧ (edgeActs s line edge).store.stream = s.store.stream
      ∧ (edgeActs s line edge).summary.mask = s.summary.mask
      ∧ (edgeActs s line edge).summary.elevated = s.summary.elevated
      ∧ (edgeActs s line edge).link.framer = s.link.framer ∧ (edgeActs s line edge).link.queue = s.link.queue
      ∧ (edgeActs s line edge).link.replies = s.link.replies
      ∧ (edgeActs s line edge).link.resetting = s.link.resetting
      ∧ (edgeActs s line edge).link.rate = s.link.rate := by
  unfold edgeActs; dsimp only; (repeat' split) <;> simp

@[simp] theorem takeStatus_frame (s : State) :
    (takeStatus s).1.pending = s.pending ∧ (takeStatus s).1.pins = s.pins ∧ (takeStatus s).1.store = s.store
      ∧ (takeStatus s).1.tracker = s.tracker ∧ (takeStatus s).1.turner = s.turner
      ∧ (takeStatus s).1.mech = s.mech ∧ (takeStatus s).1.lamps = s.lamps ∧ (takeStatus s).1.dose = s.dose
      ∧ (takeStatus s).1.capture = s.capture ∧ (takeStatus s).1.pause = s.pause
      ∧ (takeStatus s).1.summary.mask = s.summary.mask ∧ (takeStatus s).1.summary.elevated = s.summary.elevated
      ∧ (takeStatus s).1.link = s.link :=
  ⟨rfl, rfl, rfl, rfl, rfl, rfl, rfl, rfl, rfl, rfl, rfl, rfl, rfl⟩

@[simp] theorem takeSetAttention_frame (mask elevated : Nat) (s : State) :
    (takeSetAttention mask elevated s).1.pending = s.pending
      ∧ (takeSetAttention mask elevated s).1.pins = s.pins
      ∧ (takeSetAttention mask elevated s).1.store = s.store
      ∧ (takeSetAttention mask elevated s).1.tracker = s.tracker
      ∧ (takeSetAttention mask elevated s).1.turner = s.turner
      ∧ (takeSetAttention mask elevated s).1.mech = s.mech
      ∧ (takeSetAttention mask elevated s).1.lamps = s.lamps
      ∧ (takeSetAttention mask elevated s).1.dose = s.dose
      ∧ (takeSetAttention mask elevated s).1.capture = s.capture
      ∧ (takeSetAttention mask elevated s).1.pause = s.pause
      ∧ (takeSetAttention mask elevated s).1.link.framer = s.link.framer
      ∧ (takeSetAttention mask elevated s).1.link.queue = s.link.queue
      ∧ (takeSetAttention mask elevated s).1.link.replies = s.link.replies
      ∧ (takeSetAttention mask elevated s).1.link.resetting = s.link.resetting
      ∧ (takeSetAttention mask elevated s).1.link.rate = s.link.rate := by
  unfold takeSetAttention; dsimp only; (repeat' split) <;> simp

@[simp] theorem restartVolume_frame (s : State) (slot : SlotId) (cause : RestartCause) :
    (restartVolume s slot cause).pending = s.pending ∧ (restartVolume s slot cause).pins = s.pins
      ∧ (restartVolume s slot cause).store.stream = s.store.stream
      ∧ (restartVolume s slot cause).turner = s.turner ∧ (restartVolume s slot cause).mech = s.mech
      ∧ (restartVolume s slot cause).lamps = s.lamps ∧ (restartVolume s slot cause).dose = s.dose
      ∧ (restartVolume s slot cause).capture = s.capture ∧ (restartVolume s slot cause).pause = s.pause
      ∧ (restartVolume s slot cause).summary.mask = s.summary.mask
      ∧ (restartVolume s slot cause).summary.elevated = s.summary.elevated
      ∧ (restartVolume s slot cause).link.framer = s.link.framer
      ∧ (restartVolume s slot cause).link.queue = s.link.queue
      ∧ (restartVolume s slot cause).link.replies = s.link.replies
      ∧ (restartVolume s slot cause).link.resetting = s.link.resetting
      ∧ (restartVolume s slot cause).link.rate = s.link.rate := by
  simp [restartVolume]

@[simp] theorem restartHalt_frame (s : State) :
    (restartHalt s).pending = s.pending ∧ (restartHalt s).pins = s.pins ∧ (restartHalt s).store = s.store
      ∧ (restartHalt s).tracker = s.tracker ∧ (restartHalt s).turner = s.turner ∧ (restartHalt s).mech = s.mech
      ∧ (restartHalt s).lamps = s.lamps ∧ (restartHalt s).dose = s.dose ∧ (restartHalt s).capture = s.capture
      ∧ (restartHalt s).pause = s.pause ∧ (restartHalt s).summary.mask = s.summary.mask
      ∧ (restartHalt s).summary.elevated = s.summary.elevated ∧ (restartHalt s).link.framer = s.link.framer
      ∧ (restartHalt s).link.queue = s.link.queue ∧ (restartHalt s).link.replies = s.link.replies
      ∧ (restartHalt s).link.resetting = s.link.resetting ∧ (restartHalt s).link.rate = s.link.rate := by
  unfold restartHalt; (repeat' split) <;> simp

@[simp] theorem takeIdentify_frame (s : State) :
    (takeIdentify s).1.pending = s.pending ∧ (takeIdentify s).1.pins = s.pins
      ∧ (takeIdentify s).1.store = s.store ∧ (takeIdentify s).1.tracker = s.tracker
      ∧ (takeIdentify s).1.turner = s.turner ∧ (takeIdentify s).1.mech = s.mech
      ∧ (takeIdentify s).1.lamps = s.lamps ∧ (takeIdentify s).1.dose = s.dose
      ∧ (takeIdentify s).1.capture = s.capture ∧ (takeIdentify s).1.pause = s.pause
      ∧ (takeIdentify s).1.summary = s.summary ∧ (takeIdentify s).1.link = s.link :=
  ⟨rfl, rfl, rfl, rfl, rfl, rfl, rfl, rfl, rfl, rfl, rfl, rfl⟩

@[simp] theorem takeReset_frame (s : State) :
    (takeReset s).1.pending = s.pending ∧ (takeReset s).1.pins = s.pins ∧ (takeReset s).1.store = s.store
      ∧ (takeReset s).1.tracker = s.tracker ∧ (takeReset s).1.turner = s.turner ∧ (takeReset s).1.mech = s.mech
      ∧ (takeReset s).1.lamps = s.lamps ∧ (takeReset s).1.dose = s.dose ∧ (takeReset s).1.capture = s.capture
      ∧ (takeReset s).1.pause = s.pause ∧ (takeReset s).1.summary = s.summary
      ∧ (takeReset s).1.link.framer = s.link.framer ∧ (takeReset s).1.link.queue = s.link.queue
      ∧ (takeReset s).1.link.replies = s.link.replies ∧ (takeReset s).1.link.rate = s.link.rate :=
  ⟨rfl, rfl, rfl, rfl, rfl, rfl, rfl, rfl, rfl, rfl, rfl, rfl, rfl, rfl, rfl⟩

@[simp] theorem receiveError_frame (s : State) (why : Condition) :
    (receiveError s why).pending = s.pending ∧ (receiveError s why).pins = s.pins
      ∧ (receiveError s why).store = s.store ∧ (receiveError s why).tracker = s.tracker
      ∧ (receiveError s why).turner = s.turner ∧ (receiveError s why).mech = s.mech
      ∧ (receiveError s why).lamps = s.lamps ∧ (receiveError s why).dose = s.dose
      ∧ (receiveError s why).capture = s.capture ∧ (receiveError s why).pause = s.pause
      ∧ (receiveError s why).summary.mask = s.summary.mask
      ∧ (receiveError s why).summary.elevated = s.summary.elevated
      ∧ (receiveError s why).link.queue = s.link.queue ∧ (receiveError s why).link.replies = s.link.replies
      ∧ (receiveError s why).link.resetting = s.link.resetting ∧ (receiveError s why).link.rate = s.link.rate := by
  simp [receiveError]

@[simp] theorem endStream_frame (s : State) (t : Stream) :
    (endStream s t).pending = s.pending ∧ (endStream s t).pins = s.pins ∧ (endStream s t).tracker = s.tracker
      ∧ (endStream s t).turner = s.turner ∧ (endStream s t).mech = s.mech ∧ (endStream s t).lamps = s.lamps
      ∧ (endStream s t).dose = s.dose ∧ (endStream s t).capture = s.capture ∧ (endStream s t).pause = s.pause
      ∧ (endStream s t).summary = s.summary ∧ (endStream s t).link = s.link := by
  unfold endStream; (repeat' split) <;> simp

@[simp] theorem chunkSent_frame (s : State) :
    (chunkSent s).pending = s.pending ∧ (chunkSent s).pins = s.pins ∧ (chunkSent s).tracker = s.tracker
      ∧ (chunkSent s).turner = s.turner ∧ (chunkSent s).mech = s.mech ∧ (chunkSent s).lamps = s.lamps
      ∧ (chunkSent s).dose = s.dose ∧ (chunkSent s).capture = s.capture ∧ (chunkSent s).pause = s.pause
      ∧ (chunkSent s).summary.mask = s.summary.mask ∧ (chunkSent s).summary.elevated = s.summary.elevated
      ∧ (chunkSent s).link.framer = s.link.framer ∧ (chunkSent s).link.queue = s.link.queue
      ∧ (chunkSent s).link.replies = s.link.replies ∧ (chunkSent s).link.resetting = s.link.resetting
      ∧ (chunkSent s).link.rate = s.link.rate := by
  unfold chunkSent; (repeat' split) <;> simp

@[simp] theorem tick_frame (s : State) :
    (tick s).pending = s.pending ∧ (tick s).pins = s.pins ∧ (tick s).store = s.store
      ∧ (tick s).tracker = s.tracker ∧ (tick s).turner = s.turner ∧ (tick s).mech = s.mech
      ∧ (tick s).pause = s.pause ∧ (tick s).summary = s.summary ∧ (tick s).link = s.link :=
  ⟨rfl, rfl, rfl, rfl, rfl, rfl, rfl, rfl, rfl⟩

end Sys2Proof.Machine
end

