-- ==== Sys2Proof/Laws/Store.lean ====
section
/-! SUPPORT. Reading and writing the slots, the pools and the face records: what every statement about the store rests
on. -/

namespace Sys2Proof.Machine

open Sys2Proof.Config

/-! ## Slots -/

@[simp] theorem Slots.get_set_self (q : Slots) (i : SlotId) (v : Slot) : (q.set i v).get i = v := by
  simp [Slots.get_set]

@[simp] theorem Slots.set_set (q : Slots) (i : SlotId) (v w : Slot) : (q.set i v).set i w = q.set i w := by
  cases i <;> rfl

@[simp] theorem setSlot_setSlot (s : State) (i : SlotId) (v w : Slot) :
    setSlot (setSlot s i v) i w = setSlot s i w := by
  simp [setSlot]

theorem Slot.opened?_eq_some {q : Slot} {v : Volume} : q.opened? = some v ↔ q = .opened v := by
  cases q <;> simp [Slot.opened?]

theorem Slot.opened?_eq_none {q : Slot} : q.opened? = none ↔ ∀ v, q ≠ .opened v := by
  cases q <;> simp [Slot.opened?]

/-- The OPEN slot holds its volume. -/
theorem openSlot?_get {q : Slots} {i : SlotId} {v : Volume} (h : openSlot? q = some (i, v)) : q.get i = .opened v := by
  unfold openSlot? at h
  split at h <;> simp at h <;> obtain ⟨rfl, rfl⟩ := h <;> simp_all [Slots.get, Slot.opened?_eq_some]

/-- No slot is OPEN exactly when none reads OPEN. -/
theorem openSlot?_eq_none {q : Slots} : openSlot? q = none ↔ ∀ i v, q.get i ≠ .opened v := by
  constructor
  · intro h
    unfold openSlot? at h
    split at h <;> simp at h
    simp only [Slot.opened?_eq_none] at *
    intro i; cases i <;> assumption
  · intro h
    have e : ∀ i, (q.get i).opened? = none := fun i => Slot.opened?_eq_none.mpr (h i)
    have := e .s0; have := e .s1; have := e .s2; have := e .s3
    simp_all [openSlot?, Slots.get]

/-- A write to the OPEN slot leaves it the OPEN one. -/
theorem openSlot?_set {q : Slots} {i : SlotId} {v : Volume} (h : openSlot? q = some (i, v)) (w : Volume) :
    openSlot? (q.set i (.opened w)) = some (i, w) := by
  unfold openSlot? at h
  split at h <;> simp at h <;> obtain ⟨rfl, rfl⟩ := h <;> simp_all [openSlot?, Slots.set, Slot.opened?]

/-- A write to the OPEN volume's record. -/
theorem onOpen_eq {s : State} {i : SlotId} {v : Volume} (h : openSlot? s.store.slots = some (i, v))
    (f : Volume → Volume) : onOpen s f = setSlot s i (.opened (f v)) := by
  simp [onOpen, h]

theorem onOpen_none {s : State} (h : openSlot? s.store.slots = none) (f : Volume → Volume) : onOpen s f = s := by
  simp [onOpen, h]

theorem openVolume?_eq {s : State} {i : SlotId} {v : Volume} (h : openSlot? s.store.slots = some (i, v)) :
    openVolume? s = some v := by
  simp [openVolume?, h]

/-! ## Pools (R21) -/

/-- What a write to one slot does to the count of log entries. -/
theorem usedEntries_set (q : Slots) (i : SlotId) (v : Slot) :
    usedEntries (q.set i v) + (q.get i).entryCount = usedEntries q + v.entryCount := by
  cases i <;> simp [usedEntries, Slots.set, Slots.get] <;> omega

/-- What a write to one slot does to the count of face records. -/
theorem usedFaces_set (q : Slots) (i : SlotId) (v : Slot) :
    usedFaces (q.set i v) + (q.get i).faceCount = usedFaces q + v.faceCount := by
  cases i <;> simp [usedFaces, Slots.set, Slots.get] <;> omega

/-! ## Face records (R22) -/

/-- A list of rising face numbers reads as all zero below its first. -/
theorem facesGet_below {fs : List (Nat × FaceRec)} {low f : Nat} (h : facesWfFrom low fs = true) (hf : f < low) :
    facesGet fs f = FaceRec.zero := by
  induction fs generalizing low with
  | nil => rfl
  | cons p rest ih =>
    obtain ⟨g, r⟩ := p
    simp only [facesWfFrom, Bool.and_eq_true, decide_eq_true_eq] at h
    obtain ⟨⟨h1, -⟩, h3⟩ := h
    rw [facesGet, if_neg (by omega)]
    exact ih h3 (by omega)

/-- A record read after a write is the written one there and the old one elsewhere. -/
theorem facesGet_set {fs : List (Nat × FaceRec)} {low : Nat} (h : facesWfFrom low fs = true) (f g : Nat)
    (r : FaceRec) : facesGet (facesSet fs f r) g = if f = g then r else facesGet fs g := by
  induction fs generalizing low with
  | nil => by_cases e : f = g <;> by_cases z : r = FaceRec.zero <;> simp [facesSet, facesGet, e, z]
  | cons p rest ih =>
    obtain ⟨k, x⟩ := p
    simp only [facesWfFrom, Bool.and_eq_true, decide_eq_true_eq] at h
    obtain ⟨⟨-, -⟩, h3⟩ := h
    have below : ∀ e, e ≤ k → facesGet rest e = FaceRec.zero := fun e he => facesGet_below h3 (by omega)
    simp only [facesSet]
    split
    · split <;> rename_i h1 h2
      · by_cases e : f = g
        · subst e
          rw [if_pos rfl, facesGet, if_neg (by omega), below _ (by omega), h2]
        · simp [e]
      · simp [facesGet]
    · split
      · rename_i h1 h2
        subst h2
        split <;> rename_i h4
        · by_cases e : f = g
          · subst e; rw [if_pos rfl, below _ (by omega), h4]
          · simp [facesGet, e]
        · by_cases e : f = g <;> simp [facesGet, e]
      · rename_i h1 h2
        simp only [facesGet]
        by_cases e : k = g
        · subst e; simp [h2]
        · simp [e, ih h3]

/-- A write keeps the canonical form. -/
theorem facesSet_wfFrom {fs : List (Nat × FaceRec)} {low f : Nat} (h : facesWfFrom low fs = true) (hf : low ≤ f)
    (r : FaceRec) : facesWfFrom low (facesSet fs f r) = true := by
  induction fs generalizing low with
  | nil => simp only [facesSet]; split <;> simp_all [facesWfFrom]
  | cons p rest ih =>
    obtain ⟨k, x⟩ := p
    have h' := h
    simp only [facesWfFrom, Bool.and_eq_true, decide_eq_true_eq, bne_iff_ne, ne_eq] at h'
    obtain ⟨⟨h1, h2⟩, h3⟩ := h'
    have lift : ∀ {l m : Nat} {q : List (Nat × FaceRec)}, facesWfFrom l q = true → m ≤ l → facesWfFrom m q = true := by
      intro l m q hq hm
      cases q with
      | nil => rfl
      | cons p q =>
        simp only [facesWfFrom, Bool.and_eq_true, decide_eq_true_eq] at hq ⊢
        exact ⟨⟨by omega, hq.1.2⟩, hq.2⟩
    simp only [facesSet]
    split
    · split <;> rename_i e z
      · exact h
      · simp only [facesWfFrom, Bool.and_eq_true, decide_eq_true_eq, bne_iff_ne, ne_eq]
        exact ⟨⟨hf, z⟩, ⟨by omega, h2⟩, h3⟩
    · split
      · rename_i e1 e2
        subst e2
        split <;> rename_i z
        · exact lift h3 (by omega)
        · simp only [facesWfFrom, Bool.and_eq_true, decide_eq_true_eq, bne_iff_ne, ne_eq]
          exact ⟨⟨hf, z⟩, h3⟩
      · rename_i e1 e2
        simp only [facesWfFrom, Bool.and_eq_true, decide_eq_true_eq, bne_iff_ne, ne_eq]
        exact ⟨⟨h1, h2⟩, ih h3 (by omega)⟩

/-- Every operation on the face records keeps their canonical form. -/
theorem facesSet_wf {fs : List (Nat × FaceRec)} (h : facesWf fs = true) (f : Nat) (r : FaceRec) :
    facesWf (facesSet fs f r) = true := facesSet_wfFrom h (Nat.zero_le f) r

theorem facesRenumber_wf {fs : List (Nat × FaceRec)} (h : facesWf fs = true) (a b : Nat) :
    facesWf (facesRenumber fs a b) = true := facesSet_wf (facesSet_wf h _ _) _ _

theorem chargeVolume_wf {v : Volume} (h : facesWf v.faces = true) (faces dose : Sides Nat) (own : Option Side) :
    facesWf (chargeVolume faces dose own v).faces = true := facesSet_wf (facesSet_wf h _ _) _ _

theorem settleVolume_wf {v : Volume} (h : facesWf v.faces = true) (faces totals : Sides Nat) (t : Nat) :
    facesWf (settleVolume faces totals t v).faces = true := facesSet_wf (facesSet_wf h _ _) _ _

end Sys2Proof.Machine
end

