-- ==== Sys2Proof/Laws/Commute.lean ====
section
/-! SUPPORT. A report, an incident and a write to the OPEN volume read the store, the opening, the summary and the Link
Port and nothing else: on two states that agree in these they do the same, whatever the other blocks hold. -/

namespace Sys2Proof.Machine

open Sys2Proof.Config

/-- Two states agree in what a report or an append reads. -/
def Agree (s t : State) : Prop :=
  s.store = t.store ∧ s.tracker.n = t.tracker.n ∧ s.summary = t.summary ∧ s.link = t.link

theorem Agree.refl (s : State) : Agree s s := ⟨rfl, rfl, rfl, rfl⟩

theorem Agree.trans {s t u : State} (h : Agree s t) (k : Agree t u) : Agree s u :=
  ⟨h.1.trans k.1, h.2.1.trans k.2.1, h.2.2.1.trans k.2.2.1, h.2.2.2.trans k.2.2.2⟩

theorem Agree.symm {s t : State} (h : Agree s t) : Agree t s := ⟨h.1.symm, h.2.1.symm, h.2.2.1.symm, h.2.2.2.symm⟩

theorem agree_latch {s t : State} (h : Agree s t) (k : Condition) : Agree (latch s k) (latch t k) := by
  obtain ⟨h1, h2, h3, h4⟩ := h
  unfold latch
  rw [h3]
  dsimp only
  split <;> simp [Agree, askAttention, h1, h2, h4]

theorem agree_onOpen {s t : State} (h : Agree s t) (f : Volume → Volume) : Agree (onOpen s f) (onOpen t f) := by
  obtain ⟨h1, h2, h3, h4⟩ := h
  unfold onOpen
  rw [h1]
  split
  · exact ⟨by simp [setSlot, h1], h2, h3, h4⟩
  · exact ⟨h1, h2, h3, h4⟩

theorem agree_freeEntries {s t : State} (h : Agree s t) : freeEntries s = freeEntries t := by
  simp [freeEntries, h.1]

theorem agree_openSlot {s t : State} (h : Agree s t) : openSlot? s.store.slots = openSlot? t.store.slots := by rw [h.1]

theorem agree_latchLow {s t : State} (h : Agree s t) : Agree (latchLow s) (latchLow t) := by
  unfold latchLow
  rw [agree_freeEntries h]
  split
  · exact agree_latch h _
  · exact h

theorem agree_loseEntry {s t : State} (h : Agree s t) (code : Nat) : Agree (loseEntry s code) (loseEntry t code) :=
  agree_latch (agree_onOpen h _) _

theorem agree_storeEntry {s t : State} (h : Agree s t) (b : EntryBody) : Agree (storeEntry s b) (storeEntry t b) := by
  unfold storeEntry openingField
  rw [h.2.1]
  exact agree_onOpen h _

theorem agree_appendIncident {s t : State} (h : Agree s t) (k : IncidentKind) (d e : Nat) :
    Agree (appendIncident s k d e) (appendIncident t k d e) := by
  unfold appendIncident openVolume?
  rw [agree_openSlot h, agree_freeEntries h]
  split
  · exact h
  · split
    · exact agree_loseEntry h _
    · exact agree_latchLow (agree_onOpen (agree_storeEntry h _) _)

theorem agree_setPendingStatus {s t : State} (h : Agree s t) (status : EntryStatus) :
    Agree (setPendingStatus s status) (setPendingStatus t status) := agree_onOpen h _

/-- Two states with the same store, summary and Link Port and the same other records are one state. -/
theorem State.eq_of {s t : State} (h : s.store = t.store ∧ s.summary = t.summary ∧ s.link = t.link)
    (k : s.pending = t.pending ∧ s.tracker = t.tracker ∧ s.turner = t.turner ∧ s.mech = t.mech ∧ s.lamps = t.lamps
      ∧ s.dose = t.dose ∧ s.capture = t.capture ∧ s.pause = t.pause ∧ s.pins = t.pins) : s = t := by
  cases s; cases t; simp_all

end Sys2Proof.Machine
end

