-- ==== Sys2Proof/Laws/Link.lean ====
section
/-! SUPPORT. What the Link Port's shared operations do, said once: the arrival of a request, the transmitter, and what
`apart` forgets. -/

namespace Sys2Proof.Machine

open Sys2Proof.Config

/-! ## `apart` -/

@[simp] theorem sendReply_summary (s : State) : (sendReply s).summary = s.summary := by
  unfold sendReply; split <;> rfl

@[simp] theorem sendChunk_summary (s : State) : (sendChunk s).summary = s.summary := by
  unfold sendChunk; split <;> rfl

@[simp] theorem sendReplyOrChunk_summary (s : State) : (sendReplyOrChunk s).summary = s.summary := by
  unfold sendReplyOrChunk; (repeat' split) <;> simp

/-- The transmitter latches nothing. -/
@[simp] theorem transmit_latches (s : State) : (transmit s).summary.latches = s.summary.latches := by
  unfold transmit sendAttention; dsimp only; (repeat' split) <;> simp

@[simp] theorem apart_transmit (s : State) : apart (transmit s) = apart s := by
  simp [apart]

@[simp] theorem apart_makeReply (s : State) (r : Reply) : apart (makeReply s r) = apart s := rfl

@[simp] theorem apart_enqueue (s : State) (kind tag : Nat) : apart (enqueue s kind tag) = apart s := rfl

@[simp] theorem apart_askAttention (s : State) : apart (askAttention s) = apart s := rfl

@[simp] theorem apart_setFramer (s : State) (f : Framer) : apart (setFramer s f) = apart s := rfl

/-! ## The arrival of a request (R163, R168) -/

/-- A request that the Link Port takes: queued, taken by its block at once, answered, and the transmitter, when free,
takes the next frame. -/
theorem arrive_ready {s : State} (h : Ready s) (kind tag : Nat) (take : State → State × Answer) :
    arrive s kind tag take =
      transmit (makeReply (take (enqueue s kind tag)).1
        { kind := kind, tag := tag, answer := (take (enqueue s kind tag)).2, queueFull := false }) := by
  obtain ⟨h1, h2⟩ := h
  simp [arrive, h1, h2]

/-- A request that meets a full queue is refused QUEUE_FULL, or discarded when four such refusals wait. -/
theorem arrive_full {s : State} (h1 : s.link.resetting = false) (h2 : queueDepth ≤ s.link.queue.length)
    (kind tag : Nat) (take : State → State × Answer) :
    arrive s kind tag take =
      if waitingRefusals s.link < queueDepth then
        transmit (makeReply s
          { kind := kind, tag := tag, answer := .refused .queueFull 0, queueFull := true })
      else s := by
  simp [arrive, h1, Nat.not_lt.mpr h2]

/-- A request that arrives after a taken RESET is discarded. -/
theorem arrive_resetting {s : State} (h : s.link.resetting = true) (kind tag : Nat)
    (take : State → State × Answer) : arrive s kind tag take = s := by
  simp [arrive, h]

/-- What a request row has to show for `Takes`: what its block does with the queued state, and that its block leaves
the Link Port's queues alone. -/
theorem takes_of_take {i : Instr} {s : State} {kind tag : Nat} {take : State → State × Answer}
    {f : State → State} {a : Answer} (h : Ready s) (hi : exec i s = .next (arrive s kind tag take))
    (ha : (take (enqueue s kind tag)).2 = a)
    (hf : apart (take (enqueue s kind tag)).1 = apart (f (enqueue s kind tag)))
    (hl : (take (enqueue s kind tag)).1.link.framer = s.link.framer
      ∧ (take (enqueue s kind tag)).1.link.queue = (enqueue s kind tag).link.queue
      ∧ (take (enqueue s kind tag)).1.link.replies = s.link.replies
      ∧ (take (enqueue s kind tag)).1.link.rate = s.link.rate) :
    Takes i s kind tag f a := by
  obtain ⟨h1, h2, h3, h4⟩ := hl
  refine ⟨_, hi, ?_, ?_⟩
  · rw [arrive_ready h]; simpa using hf
  · rw [arrive_ready h]; simp [Replied, h1, h2, h3, h4, ha]

/-- The arrival of a request changes the queue of commands only if its block does. -/
theorem arrive_pending (s : State) (kind tag : Nat) (take : State → State × Answer)
    (h : ∀ u, (take u).1.pending = u.pending) : (arrive s kind tag take).pending = s.pending := by
  unfold arrive; dsimp only; (repeat' split) <;> simp [h]

end Sys2Proof.Machine
end

