-- ==== Sys2Proof/Laws/Restarts.lean ====
section
/-! SUPPORT. What the whole of a restart, of a received byte and of a frame sent leave of the state. -/

namespace Sys2Proof.Machine

open Sys2Proof.Config

/-- After a restart every volatile record but the tracker's and the latches stands at its restart values. -/
@[simp] theorem restart_values (s : State) (cause : RestartCause) (rate : Nat) :
    (restart s cause rate).pending = s.pending ∧ (restart s cause rate).pins = s.pins
      ∧ (restart s cause rate).store.stream = none
      ∧ (restart s cause rate).turner = turnerRestarted s.turner s.pins cause
      ∧ (restart s cause rate).mech = mechRestarted s.pins (forceLimit s)
      ∧ (restart s cause rate).lamps = Lamps.restarted ∧ (restart s cause rate).dose = DoseUnit.restarted
      ∧ (restart s cause rate).capture = Capture.restarted (restartMode s)
      ∧ (restart s cause rate).pause = pauseRestarted s.pins ∧ (restart s cause rate).link.framer = .hunt
      ∧ (restart s cause rate).link.queue = [] ∧ (restart s cause rate).link.replies = []
      ∧ (restart s cause rate).link.resetting = false ∧ (restart s cause rate).link.rate = rate := by
  unfold restart; dsimp only
  split <;> simp [blocksRestarted, Link.restarted]

/-- With no slot OPEN the store does nothing more and the tracker is NO_VOLUME. -/
theorem restart_noVolume (s : State) (cause : RestartCause) (rate : Nat) (h : openSlot? s.store.slots = none) :
    (restart s cause rate).store.slots = s.store.slots ∧ (restart s cause rate).tracker = trackerRestarted := by
  have h' : openSlot? (blocksRestarted s cause rate).store.slots = none := h
  unfold restart; dsimp only
  rw [h']; simp [blocksRestarted]

@[simp] theorem takeFrame_pending (kind : Nat) (p : List Byte) (s : State) :
    (takeFrame kind p s).1.pending = s.pending := by
  unfold takeFrame; split
  · rfl
  · split
    · unfold takeKind; split <;> simp [refuse]
    · rfl

@[simp] theorem receive_pending (s : State) (b : Byte) : (receive s b).pending = s.pending := by
  unfold receive
  split
  case h_8 => -- the last check byte
    unfold frameReceived; split
    · exact (arrive_pending _ _ _ _ fun u => takeFrame_pending _ _ u).trans rfl
    · simp [receiveError]
  all_goals first | rfl | (split <;> simp [receiveError])

@[simp] theorem replySent_pending (s : State) (r : Reply) (rest : List Reply) :
    (replySent s r rest).pending = s.pending := by
  unfold replySent; dsimp only; (repeat' split) <;> simp [chunkWaits, replyLeaves]

@[simp] theorem chunkSent_pending (s : State) : (chunkSent s).pending = s.pending := by
  unfold chunkSent endStream; dsimp only; (repeat' split) <;> simp [chunkWaits]

end Sys2Proof.Machine
end

