-- ==== Sys2Proof/Tests/Slice0.lean ====
section
/-! SUPPORT. The author's own tests. `test_…` states what the spec's own text, tables and worked sequences give (the
section stands beside each); `witness_<Obligation>` shows concrete states that meet the hypotheses of a statement of
Certificates/Slice0/Obligations.lean, one for each of its clauses, at the boundary values of the clause. -/

namespace Sys2Proof.Tests

open Sys2Proof Sys2Proof.Machine

-- One theorem at a time: seventy kernel evaluations waiting together ask for seventy threads.
set_option Elab.async false

/-! ## Small states -/

/-- The state a command leaves. -/
def after (c : Instr) (s : State) : State :=
  match exec c s with
  | .next t => t
  | _ => s

/-- The answer a request gets. -/
def answer (c : Instr) (s : State) : Option Answer := ((after c s).link.replies.getLast?).map Reply.answer

/-- The reason and field index with which a request is refused. -/
def refusal (c : Instr) (s : State) : Option (Reason × Nat) :=
  match answer c s with
  | some (.refused reason field) => some (reason, field)
  | _ => none

/-- A request that is answered with a reply of its own kind. -/
def taken? (c : Instr) (s : State) : Bool :=
  match answer c s with
  | some (.own _ _ _) => true
  | _ => false

/-- Each request is refused with the reason and the field index beside it. -/
def refusedAll (s : State) (cases : List (Instr × Reason × Nat)) : Bool :=
  cases.all fun p => refusal p.1 s == some (p.2.1, p.2.2)

/-- A profile: L = 4, leaves of 150 µm, limit 600 gf, P = 600 lx·s, A = 50,000 lx·s, w = 80 %. -/
def profile : Profile :=
  { shelfMark := [], partNumber := 1, leaves := 4, firstFolio := 17, thickness := 150, angleLimit := 120
    initialAngle := 100, glassMode := .press, forceLimit := 600, airLevel := 2, pageAllowance := 600
    volumeAllowance := 50000, warning := 80, releaseMode := .onReceipt }

/-- A volume with an empty log. -/
def volume : Volume :=
  { profile := profile, marks := [], log := [], faces := [], dose := { whole := 0, rem := 0 }, captureCount := 0
    incidentCount := 0, logComplete := true, restartCount := 0, clock := 5, placedBefore := true }

/-- A slot at each of the four places. -/
def slots (a b c d : Slot) : Slots := { s0 := a, s1 := b, s2 := c, s3 := d }

/-- The part with these slots and nothing placed. -/
def stored (q : Slots) : State := { State.reset with store := { slots := q, stream := none } }

/-- The part with `v` OPEN in slot 0, UNPLACED. -/
def opened (v : Volume) : State :=
  { stored (slots (.opened v) .free .free .free) with
      tracker := { state := .unplaced, slot := some .s0, n := none, lastPlaced := some 0, doseLogged := false } }

/-- The part with `v` OPEN in slot 0 and PLACED at `n`, everything at rest. -/
def placed (v : Volume) (n : Nat) : State :=
  { opened v with
      tracker := { state := .placed, slot := some .s0, n := some n, lastPlaced := some 0, doseLogged := false }
      mech :=
        { State.reset.mech with
            targets := some { left := (n - 1) * v.profile.thickness, right := (v.profile.leaves + 1 - n) * v.profile.thickness }
            glass := { State.reset.mech.glass with requestedForce := 600 } } }

/-- The lamps of sections 5.9 and 6.9: calibrated, READY, all drives 750 ‰, 4000 µs, spill 60 ‰, reservoir full. -/
def lamps : Lamps :=
  { Lamps.restarted with
      supply := .ready, health := Banks.all .good
      fullScale := { la := some 24000, lb := some 22000, ra := some 23000, rb := some 21000 }
      drive := Banks.all 750, spill := 60, reservoir := 80000 }

/-- `s` with these lamps. -/
def lighted (s : State) : State := { s with lamps := lamps }

/-- The turner in a phase of a forward turn of leaf 2 from opening 2. -/
def turning (state : TurnerState) (step : TurnerStep) : State :=
  { placed volume 2 with
      turner :=
        { State.reset.turner with
            state := state, step := step, direction := some .forward, manual := some (state = .manualWait)
            leaf := some 2, plateHeld := some false, attempt := some 1, airLevel := some 2 } }

/-- A capture of BOTH at opening 2 in a state. -/
def capturing (state : CaptureState) : State :=
  { lighted (placed volume 2) with
      capture :=
        { Capture.restarted .onReceipt with
            state := state, sides := some .both, opening := some 2, take := some 1, hold := some false
            release := some .onReceipt, manual := some false, progress := Sides.both .triggered } }

/-- A pending entry of that capture. -/
def pendingEntry : Entry :=
  { opening := 2, timestamp := 5
    body := .capture
      { take := 1, sides := .both, frames := Sides.both none, doses := Sides.both 0, durations := Sides.both 0
        banks := Banks.all false, flags := EntryFlags.empty, status := .pending } }

/-- That capture with its entry in the log, in a state from EXPOSING on. -/
def entered (state : CaptureState) (progress : Progress) : State :=
  let s := capturing state
  { s with
      store := (placed { volume with log := [pendingEntry], captureCount := 1 } 2).store
      lamps := { s.lamps with holder := .capture, fixedBanks := Banks.all true }
      capture :=
        { s.capture with
            entry := some 0, progress := Sides.both progress, frame := Sides.both (some 1)
            trigger := Sides.both (progress = .triggered) } }

/-- The bodies of the open volume's log. -/
def log (s : State) : Option (List EntryBody) := (openVolume? s).map fun v => v.log.map Entry.body

/-! ## Well-formed commands -/

/-- OPEN_VOLUME's fields at the top of their widths. -/
def widest : RawProfile :=
  { presence := 65535, shelfMark := List.replicate 40 0x41, partNumber := 255, leaves := 65535, firstFolio := 65535
    thickness := 65535, angleLimit := 255, initialAngle := 255, glassMode := 255, forceLimit := 65535, airLevel := 255
    pageAllowance := 4294967295, volumeAllowance := 4294967295, warning := 255, releaseMode := 255 }

theorem test_wf_profile_refuses :
    [ { widest with presence := 65536 }, { widest with shelfMark := List.replicate 39 0x41 },
      { widest with partNumber := 256 }, { widest with leaves := 65536 }, { widest with firstFolio := 65536 },
      { widest with thickness := 65536 }, { widest with angleLimit := 256 }, { widest with initialAngle := 256 },
      { widest with glassMode := 256 }, { widest with forceLimit := 65536 }, { widest with airLevel := 256 },
      { widest with pageAllowance := 4294967296 }, { widest with volumeAllowance := 4294967296 },
      { widest with warning := 256 }, { widest with releaseMode := 256 } ].all (fun p => !p.wf) = true
      ∧ widest.wf = true := by
  decide

theorem test_wf_refuses_tags :
    [ .openVolume 256 widest, .extendVolume 256 1, .closeVolume 256, .exportVolume 256 0, .discardVolume 256 0,
      .clearStore { tag := 256, cut := none }, .listVolumes 256, .readFaces 256 0 0 1, .setMark 256 1 1, .clearMark 256 1, .place 256 1,
      .readOpening 256, .turn 256 1 0, .park 256, .manualDone 256 1, .cancelTurn 256,
      .setTurner 256 100 100 100 100 100 1, .readTurner 256, .setGlass 256 0, .raiseGlass 256, .setAngle 256 80,
      .readMechanics 256, .lampsOn 256, .lampsOff 256, .setLighting 256 0 0 0 0 100 100 0, .setAiming 256 0 0,
      .setIdle 256 1 1 1 0, .referenceCheck 256 1, .setChecks 256 1 0 1 2, .readLamps 256, .capture 256 1,
      .frameReceived 256 1 1, .accept 256, .reject 256, .setCapture 256 0 50 0 0 0, .readCapture 256, .resume 256,
      .setAux 256 0 0 0 0 0 0 0 0, .readAux 256, .status 256, .setAttention 256 0 0, .identify 256,
      .resetRequest 256 ].all (fun i : Instr => !i.wf) = true := by
  decide

theorem test_wf_refuses_fields :
    [ .openVolume 0 { widest with leaves := 65536 }, .extendVolume 0 65536, .exportVolume 0 256, .discardVolume 0 256,
      .readFaces 0 256 0 0, .readFaces 0 0 65536 0, .readFaces 0 0 0 256, .setMark 0 65536 0, .setMark 0 0 256,
      .clearMark 0 65536, .place 0 65536, .turn 0 256 0, .turn 0 0 256, .manualDone 0 256,
      .setTurner 0 65536 0 0 0 0 0, .setTurner 0 0 65536 0 0 0 0, .setTurner 0 0 0 65536 0 0 0,
      .setTurner 0 0 0 0 65536 0 0, .setTurner 0 0 0 0 0 65536 0, .setTurner 0 0 0 0 0 0 256, .setGlass 0 65536,
      .setAngle 0 256, .setLighting 0 65536 0 0 0 0 0 0, .setLighting 0 0 65536 0 0 0 0 0,
      .setLighting 0 0 0 65536 0 0 0 0, .setLighting 0 0 0 0 65536 0 0 0, .setLighting 0 0 0 0 0 65536 0 0,
      .setLighting 0 0 0 0 0 0 65536 0, .setLighting 0 0 0 0 0 0 0 65536, .setAiming 0 256 0, .setAiming 0 0 256,
      .setIdle 0 65536 0 0 0, .setIdle 0 0 65536 0 0, .setIdle 0 0 0 65536 0, .setIdle 0 0 0 0 65536,
      .referenceCheck 0 256, .setChecks 0 256 0 0 0, .setChecks 0 0 256 0 0, .setChecks 0 0 0 65536 0,
      .setChecks 0 0 0 0 65536, .capture 0 256, .frameReceived 0 256 0, .frameReceived 0 0 4294967296,
      .setCapture 0 256 0 0 0 0, .setCapture 0 0 65536 0 0 0, .setCapture 0 0 0 65536 0 0, .setCapture 0 0 0 0 65536 0,
      .setCapture 0 0 0 0 0 256, .setAux 0 256 0 0 0 0 0 0 0, .setAux 0 0 256 0 0 0 0 0 0, .setAux 0 0 0 256 0 0 0 0 0,
      .setAux 0 0 0 0 256 0 0 0 0, .setAux 0 0 0 0 0 256 0 0 0, .setAux 0 0 0 0 0 0 256 0 0, .setAux 0 0 0 0 0 0 0 256 0,
      .setAux 0 0 0 0 0 0 0 0 256, .setAttention 0 65536 0, .setAttention 0 0 256 ].all (fun i : Instr => !i.wf)
      = true := by
  decide

theorem test_wf_refuses_readings :
    [ .powerOn { Pins.atRest with straps := 4 }, .powerOn { Pins.atRest with force := 65536 },
      .powerOn { Pins.atRest with position := { left := 80001, right := 0 } },
      .resetLine { Pins.atRest with position := { left := 0, right := 80001 } },
      .resetLine { Pins.atRest with angle := 256 }, .separationTime 4, .platenSettled .left 80001, .angleSettled 256,
      .glassForceReading 65536 ].all (fun i : Instr => !i.wf) = true
      ∧ [ .powerOn Pins.atRest, .separationTime 3, .platenSettled .right 80000, .glassForceReading 65535,
          .referencePulseEnd 70000 ].all Instr.wf = true := by
  decide

/-! ## The queue, the link -/

theorem test_step_runs_the_front_command :
    (match step { State.reset with pending := [.lampsOn 1, .gap] } with
      | .next t => decide (t.pending = [.gap] ∧ t.lamps.supply = .settling ∧ t.link.queue = [{ kind := 0x20, tag := 1 }])
      | _ => false) = true := by
  decide +kernel

/-- A word spells no command, and withFetchWord leaves the state as it is (notes/assumptions/21.md). -/
theorem test_words_spell_no_command :
    decodeTableWord 8 0x40 = none ∧ State.reset.withFetchWord 8 0x40 = State.reset := by
  exact ⟨rfl, rfl⟩

/-- Idle steps: 10 ms charge 1000 units from empty, and never above 80000 (R92). -/
theorem witness_IdleStepsChargeTheReservoir :
    (let s : State := lighted State.reset;
      s.pending = [] ∧ s.lamps.reservoirUs < 1000 ∧ s.lamps.reservoir ≤ 80000 ∧ s.lamps.idleUs < 1000000
        ∧ s.lamps.settleUs ≤ s.lamps.settleRun * 1000)
      ∧ (let s : State := { State.reset with lamps := { lamps with reservoirUs := 999, reservoir := 0 } };
        s.lamps.reservoirUs < 1000 ∧ (tick s).lamps.reservoir = 100 ∧ (tick (lighted s)).lamps.reservoir = 80000)
      ∧ (let ticking (l : Lamps) : State := { State.reset with lamps := { l with idleUs := 999999 } };
        (tick (ticking lamps)).lamps.idleElapsed = 1
          ∧ (tick (ticking { lamps with idleElapsed := lamps.tRest - 1 })).lamps.idleElapsed = lamps.tRest - 1
          ∧ (tick { ticking lamps with capture := (capturing .arming).capture }).lamps.idleElapsed = 0)
      ∧ (tick (entered .exposing .lit)).capture.litUs = Sides.both 1 := by
  decide +kernel

/-- "The CRC of the nine ASCII bytes "123456789" is 0x29B1" (R160). -/
theorem test_crc_of_the_nine_digits :
    crc16 [0x31, 0x32, 0x33, 0x34, 0x35, 0x36, 0x37, 0x38, 0x39] = 0x29B1 := by
  decide +kernel

theorem witness_RequestFramesReachTheirBlocks :
    (Instr.setGlass 7 600).wf = true ∧ State.reset.link.framer = .hunt
      ∧ requestBytes (.setGlass 7 600) = some ([0xC3, 2, 0, 0x18, 7, 0x58, 2] ++ le 2 (crc16 [2, 0, 0x18, 7, 0x58, 2]).toNat)
      ∧ (requestBytes (.setGlass 7 600)).map (receiveAll (opened volume)) = some (after (.setGlass 7 600) (opened volume)) := by
  decide +kernel

/-- A framer in a state. -/
def framed (f : Framer) : State := { State.reset with link := { State.reset.link with framer := f } }

/-- STATUS with tag 5, its two check bytes still to come. -/
def statusBody : List Byte := le 2 0 ++ [0x40, 5]

theorem witness_FramerTakesBytes :
    ofLe [0xE8, 0x03] = 1000 ∧ (after (.byteReceived 0x03) (framed (.length (some 0xE8)))).link.framer = .header 1000 none
      ∧ (after (.byteReceived 0xC3) State.reset).link.framer = .length none
      ∧ (after (.byteReceived 5) (framed (.header 0 (some 0x40)))).link.framer = .check 0 0x40 5 [] none
      ∧ (after (.byteReceived 5) (framed (.header 1 (some 0x18)))).link.framer = .payload 1 0x18 5 []
      ∧ (after (.byteReceived 9) (framed (.payload 1 0x18 5 []))).link.framer = .check 1 0x18 5 [9] none
      ∧ ofLe (le 2 (crc16 statusBody).toNat) = (crc16 (le 2 0 ++ [0x40, 5])).toNat
      ∧ (after (.byteReceived (BitVec.ofNat 8 ((crc16 statusBody).toNat / 256)))
          (framed (.check 0 0x40 5 [] (some (BitVec.ofNat 8 (crc16 statusBody).toNat))))).link.replies.map Reply.tag = [5] := by
  decide +kernel

theorem witness_FramerTakesBytes_errors :
    1000 < ofLe [0xE9, 0x03]
      ∧ (after (.byteReceived 0x03) (framed (.length (some 0xE9)))).summary.latches.link
          = some { detail := 3, arg := 1001, repeated := false }
      ∧ ofLe [0, 0] ≠ (crc16 (le 2 0 ++ [0x40, 5])).toNat
      ∧ (after (.byteReceived 0) (framed (.check 0 0x40 5 [] (some 0)))).summary.latches.link
          = some { detail := 1, arg := 0, repeated := false }
      ∧ (after .gap (framed (.payload 12 0x18 5 [1]))).summary.latches.link
          = some { detail := 2, arg := 12, repeated := false }
      ∧ (after .gap (framed (.length (some 1)))).link.framer = .hunt := by
  decide +kernel

/-- A reply waiting, with its place in the queue or a QUEUE_FULL refusal. -/
def waiting (full : Bool) : Reply :=
  { kind := 0x15, tag := 1, answer := if full then .refused .queueFull 0 else taken [], queueFull := full }

/-- The Link Port with `queued` requests whose replies wait and `refused` QUEUE_FULL refusals. -/
def loaded (queued refused : Nat) : State :=
  { State.reset with
      link :=
        { State.reset.link with
            queue := List.replicate queued { kind := 0x15, tag := 1 }
            replies := List.replicate queued (waiting false) ++ List.replicate refused (waiting true)
            sending := some { what := .reply, kind := 0x95, tag := 1, payload := [0] } } }

theorem ready_loaded : Ready (loaded 3 4) := ⟨rfl, by decide⟩

theorem witness_RequestsAreAnsweredOnce :
    requestParts (.readTurner 9) = some (0x15, 9, [])
      ∧ (loaded 4 3).link.resetting = false ∧ 4 ≤ (loaded 4 3).link.queue.length ∧ waitingRefusals (loaded 4 3).link < 4
      ∧ (after (.readTurner 9) (loaded 4 3)).link.replies.length = 8
      ∧ ¬ waitingRefusals (loaded 4 4).link < 4
      ∧ (after (.readTurner 9) (loaded 4 4)).link = (loaded 4 4).link
      ∧ (after (.readTurner 9) (loaded 3 4)).link.queue.length = 4
      ∧ (let s := framed (.check 0 0x99 5 [] (some (BitVec.ofNat 8 (crc16 [0, 0, 0x99, 5]).toNat)));
        requestLength? 0x99 = none
          ∧ (after (.byteReceived (BitVec.ofNat 8 ((crc16 [0, 0, 0x99, 5]).toNat / 256))) s).link.replies.map Reply.answer
              = [.refused .unknownKind 0])
      ∧ (let s := framed (.check 0 0x18 5 [] (some (BitVec.ofNat 8 (crc16 [0, 0, 0x18, 5]).toNat)));
        requestLength? 0x18 = some 2
          ∧ (after (.byteReceived (BitVec.ofNat 8 ((crc16 [0, 0, 0x18, 5]).toNat / 256))) s).link.replies.map Reply.answer
              = [.refused .badLength 0]) := by
  decide +kernel

/-- R164, R170, R171: the bytes of a refusal, and of a reply with a present and an absent item. -/
theorem test_reply_bytes :
    (Answer.refused .wrongFrame 2).payload 0x31 = [0x31, 17, 2] ∧ (Answer.refused .wrongFrame 2).kindByte 0x31 = 0xFF
      ∧ (taken [u 1 5, ou 1 none, ou 2 (some 7)]).payload 0x15 = [1, 2, 0, 0, 0, 5, 0, 7, 0]
      ∧ (started []).payload 0x11 = [2] ∧ deferredAnswer.payload 0x10 = [3] ∧ (started []).kindByte 0x11 = 0x91 := by
  decide +kernel

/-- A running export stream of slot 0 at chunk `next`. -/
def streaming (start : SlotState) (next : Nat) : Stream :=
  { slot := .s0, start := start, entries := 0, faces := 10, next := next
    header :=
      { profile := profile, marks := [], captureCount := 0, incidentCount := 0, restartCount := 0, logComplete := true
        dose := { whole := 0, rem := 0 }, clock := 5 } }

/-- A CLOSED slot 0 with that stream, the Link Port as given. -/
def exporting (next : Nat) (link : Link) : State :=
  { State.reset with
      store := { slots := slots (.closed volume) .free .free .free, stream := some (streaming .closed next) }
      link := link }

/-- The Link Port with a chunk waiting at an age, an attention frame queued or not, and replies. -/
def ports (age : Option Nat) (attention : Bool) (replies : List Reply) : Link :=
  { State.reset.link with chunkAge := age, attentionQueued := attention, replies := replies }

/-- LINK latched, with attention outstanding. -/
def told : Summary :=
  { State.reset.summary with
      latches := { Latches.empty with link := some { detail := 3, arg := 0, repeated := false } }, outstanding := true }

theorem witness_ArbiterChoosesInOrder :
    (let s := exporting 0 (ports (some 4) true [waiting false]);
      s.link.sending = none ∧ s.link.resetting = false ∧ (transmit s).link.sending.map Sending.what = some .chunk)
      ∧ (let s : State := { exporting 0 (ports (some 3) true [waiting false]) with summary := told };
        anyEnabledLatched s.summary = true ∧ (transmit s).link.sending.map Sending.what = some .attention)
      ∧ (let s := exporting 0 (ports (some 3) true [waiting false]);
        anyEnabledLatched s.summary = false ∧ (transmit s).link.sending.map Sending.what = some .reply)
      ∧ (transmit (exporting 0 (ports (some 0) false []))).link.sending.map Sending.what = some .chunk
      ∧ (transmit (exporting 0 (ports none false []))).link.sending = none
      ∧ (let s := exporting 0 { ports (some 4) true [waiting false] with resetting := true };
        (transmit s).link.sending.map Sending.what = some .reply)
      ∧ (let s := exporting 0 { ports (some 4) true [] with resetting := true }; transmit s = s) := by
  decide +kernel

/-- Slot 0 with a log of 49 entries and 97 faces in its snapshot: R32 makes 1 + 3 + 2 + 1 chunks of it. Each clause of
the chunks' contents at its first and last chunk: the slot, the type, the index of the first record and the count. -/
theorem witness_ArbiterChoosesInOrder_chunks :
    (let v : Volume := { volume with log := List.replicate 49 { opening := 2, timestamp := 0, body := .incident .skipped 0 0 } };
      let q := slots (.closed v) .free .free .free;
      let chunk (next : Nat) : List Byte := chunkPayload q { streaming .closed next with entries := 49, faces := 97 };
      (q.get .s0).volume? = some v
        ∧ ([0, 1, 3, 4, 5, 6].map fun n => (chunk n).take 6)
          = [ [0, 1, 0, 0, 0, 0], [0, 2, 0, 0, 24, 0], [0, 2, 48, 0, 1, 0], [0, 3, 0, 0, 96, 0], [0, 3, 96, 0, 1, 0],
              [0, 4, 0, 0, 0, 0] ]
        ∧ (chunk 6).drop 6 = [49, 0, 97, 0, 3]) := by
  decide +kernel

/-- LINK latched with mask and elevated class as given, beside STORE. -/
def twoLatched (mask : BitVec 9) (elevated : Option CondClass) : State :=
  { exporting 0 (ports none true []) with
      summary :=
        { told with
            mask := mask, elevated := elevated
            latches := { told.latches with store := some { detail := 1, arg := 256, repeated := true } } } }

/-- R155: the elevated class when it is latched, else the lowest-numbered enabled latched class. -/
theorem witness_ArbiterChoosesInOrder_class :
    (let frame (mask : BitVec 9) (elevated : Option CondClass) : Option (List Byte) :=
        (transmit (twoLatched mask elevated)).link.sending.map Sending.payload;
      frame 0x1FF none = some [7, 1, 0, 1, 1, 0x40, 1] ∧ frame 0x1FF (some .link) = some [9, 3, 0, 0, 0, 0x40, 1]
        ∧ frame 0x1FF (some .halt) = some [7, 1, 0, 1, 1, 0x40, 1] ∧ frame 0x100 none = some [9, 3, 0, 0, 0, 0x40, 1]
        ∧ frame 0x001 none = none) := by
  decide +kernel

/-- `s` with a frame of one kind on the line. -/
def sends (what : SendingKind) (s : State) : State :=
  { s with link := { s.link with sending := some { what := what, kind := 0, tag := 0, payload := [] } } }

theorem witness_FramesSentWhole :
    (let s := sends .reply (exporting 0 (ports (some 3) false [waiting false, waiting true]));
      s.link.resetting = false ∧ (after .frameSent s).link.replies = [waiting true]
        ∧ (after .frameSent s).link.sending.map Sending.what = some .chunk)
      ∧ (after .frameSent (sends .attention (exporting 0 (ports (some 1) false [waiting false])))).link.chunkAge = some 2
      ∧ (let s := sends .chunk (exporting 1 (ports none false [waiting false]));
        totalChunks 0 10 = 3 ∧ (after .frameSent s).link.chunkAge = some 0)
      ∧ (let s := sends .chunk (exporting 2 (ports none false []));
        ¬ 2 + 1 < totalChunks 0 10 ∧ (after .frameSent s).store = { slots := slots (.exported volume) .free .free .free, stream := none }) := by
  decide +kernel

/-- A taken RESET, its reply on the line. -/
def resetting : State :=
  sends .reply
    { opened volume with
        link :=
          { State.reset.link with
              resetting := true, rate := 460800, queue := [{ kind := 0x49, tag := 1 }]
              replies := [{ kind := 0x49, tag := 1, answer := taken [], queueFull := false }] } }

theorem ready_opened : Ready (opened volume) := ⟨rfl, by decide⟩

theorem witness_ResetRestartsAfterItsReply :
    (after (.resetRequest 1) (opened volume)).link.resetting = true
      ∧ (taken []).isOwn = true
      ∧ (after .frameSent resetting).tracker.state = .uncertain
      ∧ (after .frameSent resetting).link.rate = 460800
      ∧ ((openVolume? (after .frameSent resetting)).map Volume.restartCount) = some 1 := by
  decide +kernel

/-! ## Restarts -/

theorem witness_RestartGivesEveryBlockItsValues :
    openSlot? (lighted State.reset).store.slots = none
      ∧ (after (.powerOn { Pins.atRest with straps := 3 }) (lighted State.reset)).link.rate = 921600
      ∧ (after (.resetLine { Pins.atRest with aux := { Pins.atRest.aux with aux2 := true } }) State.reset).pause.state
          = .paused
      ∧ (after (.resetLine { Pins.atRest with aux := { Pins.atRest.aux with aux2 := true } }) State.reset).link.sending.map
          Sending.payload = some [1, 2, 0, 0, 0, 1, 0]
      ∧ (after (.resetLine { Pins.atRest with home := false }) State.reset).turner.state = .halted := by
  decide +kernel

/-- A log that fills the whole pool but for `left` entries, in slot 1. -/
def filler (left : Nat) : Volume :=
  { volume with log := List.replicate (16384 - left) { opening := 0, timestamp := 0, body := .incident .skipped 0 0 } }

theorem witness_RestartHandlesTheOpenVolume :
    (let s := entered .exposing .lit;
      (openSlot? s.store.slots).isSome = true ∧ freeEntries s = 16383
        ∧ (openVolume? (after (.powerOn Pins.atRest) s)).map (fun v => (v.restartCount, v.incidentCount, v.clock))
            = some (1, 1, 5)
        ∧ (after (.powerOn Pins.atRest) s).summary.latches.uncertain
            = some { detail := 3, arg := 1, repeated := false }) := by
  decide +kernel

/-- The attention frame of a restart with a volume open names UNCERTAIN, or HALT where the lines hold a pause. -/
theorem witness_RestartHandlesTheOpenVolume_attention :
    (let frame (pins : Pins) := (after (.powerOn pins) (entered .exposing .lit)).link.sending.map Sending.payload;
      frame Pins.atRest = some [2, 3, 1, 0, 0, 2, 0]
        ∧ frame { Pins.atRest with aux := { Pins.atRest.aux with aux2 := true } } = some [1, 2, 0, 0, 0, 3, 0]) := by
  decide +kernel

/-- The restart that RESET asked for: cause 3, the rate kept; the same with no volume OPEN. -/
theorem witness_RestartHandlesTheOpenVolume_request :
    resetReplyOnLine resetting
      ∧ (after .frameSent resetting).summary.latches.uncertain = some { detail := 3, arg := 3, repeated := false }
      ∧ log (after .frameSent resetting) = some [.incident .restart 3 1]
      ∧ (let bare : State := { resetting with store := State.reset.store };
        resetReplyOnLine bare ∧ openSlot? bare.store.slots = none ∧ (after .frameSent bare).link.rate = 460800
          ∧ (after .frameSent bare).tracker.state = .noVolume) :=
  ⟨⟨rfl, _, _, _, rfl, rfl, rfl, rfl, rfl⟩, by decide +kernel, by decide +kernel,
    ⟨rfl, _, _, _, rfl, rfl, rfl, rfl, rfl⟩, by decide +kernel, by decide +kernel, by decide +kernel⟩


/-! ## The Accounting Store -/

/-- A volume whose log holds `n` entries. -/
def filled (n : Nat) : Volume :=
  { volume with log := List.replicate n { opening := 0, timestamp := 0, body := .incident .skipped 0 0 } }

/-- `s` with slot 1 CLOSED, its log holding `n` entries. -/
def crowded (n : Nat) (s : State) : State :=
  { s with store := { s.store with slots := { s.store.slots with s1 := .closed (filled n) } } }

/-- How many log entries a crowded part has left, so that the clauses of every statement that asks for 0, 8, 9, 257 or
258 free log entries are met: by `crowded 16384`, `crowded 16376`, `crowded 16375`, `crowded 16127`, `crowded 16126`. -/
theorem witness_free_entries (n : Nat) (v : Volume) (k : Nat) (h : v.log = []) :
    freeEntries (crowded n (placed v k)) = 16384 - n ∧ freeEntries (crowded n (opened v)) = 16384 - n
      ∧ freeEntries (crowded n State.reset) = 16384 - n
      ∧ openSlot? (crowded n (placed v k)).store.slots = some (.s0, v)
      ∧ openSlot? (crowded n (opened v)).store.slots = some (.s0, v)
      ∧ openSlot? (crowded n State.reset).store.slots = none := by
  refine ⟨?_, ?_, ?_, rfl, rfl, rfl⟩ <;>
    simp [freeEntries, usedEntries, crowded, placed, opened, stored, slots, filled, State.reset, Slot.entryCount, Slot.volume?,
      Config.logPool, h]

theorem ready_reset : Ready State.reset := ⟨rfl, by decide⟩
theorem ready_crowded (n : Nat) (v : Volume) (k : Nat) :
    Ready (crowded n State.reset) ∧ Ready (crowded n (opened v)) ∧ Ready (crowded n (placed v k)) :=
  ⟨⟨rfl, Nat.zero_lt_succ _⟩, ⟨rfl, Nat.zero_lt_succ _⟩, ⟨rfl, Nat.zero_lt_succ _⟩⟩

/-- OPEN_VOLUME's fields of a good profile. -/
def raw : RawProfile :=
  { presence := 0x3FFF, shelfMark := padTo 40 [0x41], partNumber := 1, leaves := 4000, firstFolio := 17
    thickness := 150, angleLimit := 120, initialAngle := 100, glassMode := 0, forceLimit := 600, airLevel := 2
    pageAllowance := 600, volumeAllowance := 50000, warning := 80, releaseMode := 0 }

/-- A volume of L leaves. -/
def long (leaves : Nat) : Volume := { volume with profile := { profile with leaves := leaves } }

/-- The ranges of R5, and the clauses of R25 in their order. Section 2.11: with 8404 face records held, 8002 more are
refused at field 3; the lowest-numbered FREE slot is taken. -/
theorem witness_OpenVolume :
    refusedAll (opened volume) [(.openVolume 1 { raw with leaves := 0 }, .wrongState, 0)]
      ∧ refusedAll State.reset
        [ (.openVolume 1 { raw with leaves := 4001 }, .badValue, 3), (.openVolume 1 { raw with thickness := 19 }, .badValue, 5),
          (.openVolume 1 { raw with initialAngle := 121 }, .badValue, 7), (.openVolume 1 { raw with airLevel := 5 }, .badValue, 10),
          (.openVolume 1 { raw with presence := 0x3FFE }, .badValue, 1) ]
      ∧ refusedAll (stored (slots (.closed volume) (.closed volume) (.exported volume) (.closed volume)))
        [(.openVolume 1 raw, .storeFull, 0)]
      ∧ refusedAll (stored (slots (.exported (long 1200)) (.closed (long 3000)) .free .free)) [(.openVolume 1 raw, .storeFull, 3)]
      ∧ freeFaces (stored (slots .free (.closed (long 3000)) .free .free)) = 10382
      ∧ answer (.openVolume 1 raw) (stored (slots .free (.closed (long 3000)) .free .free))
          = some (taken [u 1 0, u 2 2380, u 2 16384]) := by
  decide +kernel

/-- Section 2.13: the back board's record moves with it. -/
theorem witness_ExtendVolume :
    refusedAll State.reset [(.extendVolume 1 1, .noVolume, 0)]
      ∧ refusedAll (opened (long 3999)) [(.extendVolume 1 0, .badValue, 1), (.extendVolume 1 2, .badValue, 1)]
      ∧ refusedAll (turning .lift .running) [(.extendVolume 1 1, .busy, 0)]
      ∧ refusedAll (capturing .arming) [(.extendVolume 1 1, .busy, 0)]
      ∧ refusedAll (stored (slots (.opened (long 91)) (.closed (long 4000)) (.closed (long 4000)) .free))
        [(.extendVolume 1 99, .storeFull, 1)]
      ∧ (let fs := [(7, { dose := { whole := 120, rem := 400 }, exposures := 3 })];
        let s := placed { long 3 with faces := fs } 4;
        facesWf fs = true
          ∧ answer (.extendVolume 1 2) s = some (taken [u 2 3, u 2 5, u 2 16372, u 2 16383])
          ∧ (openVolume? (after (.extendVolume 1 2) s)).map (fun v => (v.faces, v.log.map Entry.body))
              = some ([(11, { dose := { whole := 120, rem := 400 }, exposures := 3 })], [.incident .extended 3 5])
          ∧ (after (.extendVolume 1 2) s).mech.targets = some { left := 450, right := 300 }) := by
  decide +kernel

/-- 299 leaves of 400 µm at opening 99 leave the right side at 80400 µm; an extension by one logs 80800 µm, and nothing
more where the visit has logged that side. -/
theorem witness_ExtendVolume_limits :
    (let thick : Volume := { volume with profile := { profile with leaves := 299, thickness := 400 } };
      let s := placed thick 99;
      let once := computeTargets s 99;
      log (after (.extendVolume 1 1) s) = some [.incident .extended 299 300, .incident .platenLimit 2 80800]
        ∧ log once = some [.incident .platenLimit 2 80400] ∧ once.mech.platens.right.logged = true
        ∧ log (after (.extendVolume 1 1) once) = some [.incident .platenLimit 2 80400, .incident .extended 299 300]) := by
  decide +kernel

/-- One capture entry of section 2.12. -/
def covers (opening : Nat) (sides : CaptureSides) (status : EntryStatus) : Entry :=
  { opening := opening, timestamp := 0
    body := .capture
      { take := 1, sides := sides, frames := Sides.both none, doses := Sides.both 0, durations := Sides.both 0
        banks := Banks.all false, flags := EntryFlags.empty, status := status } }

/-- The pamphlet of section 2.12, but for its incidents. -/
def pamphlet : Volume :=
  { long 3 with
      captureCount := 7
      log :=
        [ covers 1 .both .accepted, covers 2 .both .void, covers 2 .both .accepted, covers 3 .both .rejected,
          covers 3 .right .accepted, covers 4 .left .rejected, covers 4 .left .accepted ] }

/-- Section 2.12: faces 4 and 7 are uncovered. -/
theorem witness_CloseVolume :
    refusedAll State.reset [(.closeVolume 1, .noVolume, 0)]
      ∧ refusedAll (turning .manualWait .running) [(.closeVolume 1, .wrongState, 0)]
      ∧ refusedAll (entered .receiptWait .done) [(.closeVolume 1, .wrongState, 0)]
      ∧ refusedAll (opened { volume with log := [pendingEntry] }) [(.closeVolume 1, .wrongState, 0)]
      ∧ refusedAll { opened volume with lamps := { lamps with holder := .check (newCheck .requested (Banks.all true)) } }
        [(.closeVolume 1, .busy, 0)]
      ∧ answer (.closeVolume 1) (placed pamphlet 4)
          = some (taken [u 1 0, u 2 2, .bytes (2 :: ([4, 7] : List Nat).flatMap (le 2))])
      ∧ (after (.closeVolume 1) (placed pamphlet 4)).tracker.state = .noVolume
      ∧ ((after (.closeVolume 1) (placed pamphlet 4)).store.slots.s0.volume?.bind fun v => v.log.getLast?.map Entry.body)
          = some (.incident .closed 2 7) := by
  decide +kernel

/-- Section 2.12: a log of 14 entries and 8 faces makes 4 chunks; 6002 faces make 63 chunks of their own. -/
theorem witness_ExportVolume :
    refusedAll (opened volume) [(.exportVolume 1 4, .badValue, 1), (.exportVolume 1 3, .wrongState, 1)]
      ∧ refusedAll (exporting 0 (ports none false [])) [(.exportVolume 1 0, .busy, 0)]
      ∧ answer (.exportVolume 1 0) (stored (slots (.closed pamphlet) .free .free .free))
          = some (taken [u 1 0, u 1 SlotState.closed.code, u 2 7, u 2 8, u 2 4])
      ∧ answer (.exportVolume 1 0) (stored (slots (.closed (long 3000)) .free .free .free))
          = some (taken [u 1 0, u 1 SlotState.closed.code, u 2 0, u 2 6002, u 2 65]) := by
  decide +kernel

/-- Section 2.11: a CLOSED slot is refused NOT_EXPORTED; the EXPORTED one returns its 2402 face records. -/
theorem witness_SlotsFreed :
    (let s := stored (slots (.exported (long 1200)) (.closed (long 3000)) .free .free);
      refusedAll s
          [ (.discardVolume 1 4, .badValue, 1), (.discardVolume 1 2, .wrongState, 1), (.discardVolume 1 1, .notExported, 1) ]
        ∧ answer (.discardVolume 1 0) s = some (taken [u 1 0, u 2 10382, u 2 16384])
        ∧ answer (.clearStore { tag := 1, cut := none }) s = some (taken [u 1 2, u 2 16384, u 2 16384]))
      ∧ refusedAll (opened volume) [(.discardVolume 1 0, .wrongState, 1), (.clearStore { tag := 1, cut := none }, .wrongState, 0)]
      ∧ refusedAll (exporting 0 (ports none false []))
          [(.discardVolume 1 0, .busy, 1), (.clearStore { tag := 1, cut := none }, .busy, 0)]
      ∧ (let cut (writes : Nat) (s : State) : Slots :=
          (after (.clearStore { tag := 1, cut := some { writes := writes, power := true, pins := Pins.atRest } }) s).store.slots;
        let s := stored (slots (.exported volume) .free (.closed volume) (.exported volume));
        s.link.resetting = false ∧ s.link.queue.length < 4 ∧ openSlot? s.store.slots = none ∧ s.store.stream = none ∧ cut 0 s = s.store.slots
          ∧ cut 2 s = slots .free .free .free (.exported volume)
          ∧ cut 4 (exporting 0 (ports none false [])) = slots (.closed volume) .free .free .free) := by
  decide +kernel

theorem witness_ReadsChangeNothing :
    [ .listVolumes 1, .readOpening 1, .readTurner 1, .readMechanics 1, .readLamps 1, .readCapture 1, .identify 1,
      .readFaces 1 0 9 1 ].all (fun i => taken? i (placed volume 2)) = true
      ∧ refusedAll (placed volume 2)
        [ (.readFaces 1 4 0 1, .badValue, 1), (.readFaces 1 1 0 1, .wrongState, 1), (.readFaces 1 0 0 0, .badValue, 3),
          (.readFaces 1 0 0 97, .badValue, 3), (.readFaces 1 0 9 2, .badValue, 2) ] := by
  decide +kernel

/-- R98's list in READ_LAMPS: a check of LB and RA that a hood opening ended after its first pulse sends one result; an
absent record sends a count of 0. -/
theorem witness_ReadsChangeNothing_lastCheck :
    (let record : CheckRecord :=
      { kind := .requested, banks := { la := false, lb := true, ra := true, rb := false }
        results := { la := none, lb := some { reading := 22800, verdict := .drift }, ra := none, rb := none }
        bound := none, outcome := .endedHood };
      (recordItems (some record)).map Item.body = [[0, 6, 1, 0x10, 0x59, 2], [0, 0, 0, 0], [1]]
        ∧ presenceBits (recordItems (some record)) = 5
        ∧ (recordItems none).map Item.body = [[0, 0, 0], [0, 0, 0, 0], [0]]) := by
  decide +kernel

/-- A mark record. -/
def mark (leaf : Nat) : Mark := { leaf := leaf, kinds := { foldout := false, plate := true, hold := false } }

/-- The marks of the open volume. -/
def marks (s : State) : Option (List Nat) := (openVolume? s).map fun v => v.marks.map Mark.leaf

theorem witness_MarksEdited :
    refusedAll State.reset [(.setMark 1 1 1, .noVolume, 0), (.clearMark 1 1, .noVolume, 0)]
      ∧ refusedAll (opened volume)
        [ (.setMark 1 0 1, .badValue, 1), (.setMark 1 5 1, .badValue, 1), (.setMark 1 4 0, .badValue, 2),
          (.setMark 1 4 8, .badValue, 2), (.clearMark 1 0, .badValue, 1), (.clearMark 1 5, .badValue, 1) ]
      ∧ refusedAll (opened { long 100 with marks := (List.range 64).map fun k => mark (k + 1) })
        [(.setMark 1 65 1, .storeFull, 0)]
      ∧ [mark 1, mark 3].Pairwise (fun a b => a.leaf < b.leaf)
      ∧ marks (after (.setMark 1 2 7) (opened { volume with marks := [mark 1, mark 3] })) = some [1, 2, 3]
      ∧ marks (after (.setMark 1 3 7) (opened { volume with marks := [mark 1, mark 3] })) = some [1, 3]
      ∧ marks (after (.clearMark 1 1) (opened { volume with marks := [mark 1, mark 3] })) = some [3]
      ∧ marks (after (.clearMark 1 2) (opened { volume with marks := [mark 1, mark 3] })) = some [1, 3] := by
  decide +kernel

theorem witness_VolumeClockAdvances :
    openSlot? (opened { volume with clock := 4294967295 }).store.slots = some (.s0, { volume with clock := 4294967295 })
      ∧ (openVolume? (after .volumeClockTick (opened { volume with clock := 4294967295 }))).map Volume.clock = some 4294967295
      ∧ (openVolume? (after .volumeClockTick (opened { volume with clock := 4294967294 }))).map Volume.clock = some 4294967295
      ∧ openSlot? State.reset.store.slots = none := by
  decide +kernel

theorem witness_IncidentAppend :
    openSlot? State.reset.store.slots = none ∧ (openSlot? (placed volume 2).store.slots).isSome = true
      ∧ freeEntries (placed volume 2) ≠ 0
      ∧ log (appendIncident (placed volume 2) .closed 3 4) = some [.incident .closed 3 4]
      ∧ ((openVolume? (appendIncident (placed volume 2) .closed 3 4)).bind fun v => v.log.head?)
          = some { opening := 2, timestamp := 5, body := .incident .closed 3 4 } := by
  decide +kernel

theorem witness_FrozenRecordsStay :
    (let s := exporting 2 (ports none false []);
      s.store.slots.get .s0 = .closed volume
        ∧ (match step { sends .chunk s with pending := [.frameSent] } with
          | .next t => decide (t.store.slots.get .s0 = .exported volume)
          | _ => false) = true)
      ∧ (stored (slots (.exported volume) .free .free .free)).store.slots.get .s0 = .exported volume := by
  decide +kernel

/-! ## The Dose Unit -/

/-- The volume of section 6.9 before its capture, at opening 12. -/
def dosed : Volume :=
  { long 300 with
      faces := [(22, { dose := { whole := 412, rem := 640 }, exposures := 0 }), (23, { dose := { whole := 300, rem := 0 }, exposures := 0 })]
      dose := { whole := 9800, rem := 900 } }

/-- Section 6.9: the left strobe's charge. -/
theorem witness_ChargeIsExact :
    facesWf dosed.faces = true ∧ (22 : Nat) ≠ 23
      ∧ (let w := chargeVolume { left := 22, right := 23 } { left := 138000, right := 8280 } (some .left) dosed;
        facesGet w.faces 22 = { dose := { whole := 550, rem := 640 }, exposures := 1 }
          ∧ facesGet w.faces 23 = { dose := { whole := 308, rem := 280 }, exposures := 0 }
          ∧ w.dose = { whole := 9947, rem := 180 }) := by
  decide +kernel

/-- Section 6.9: the first take of BOTH passes, the second fails on face 22; reaching the allowance exactly passes. -/
theorem witness_PredictedChargesKeepTheAllowances :
    predict dosed { left := 22, right := 23 } { left := 145920, right := 140280 } = none
      ∧ predict dosed { left := 22, right := 23 } { left := 187360, right := 300000 } = none
      ∧ predict dosed { left := 22, right := 23 } { left := 187361, right := 300001 } = some 22
      ∧ predict dosed { left := 22, right := 23 } { left := 187360, right := 300001 } = some 23
      ∧ predict { dosed with dose := { whole := 49999, rem := 999 } } { left := 22, right := 23 } { left := 1, right := 1 }
          = some 65535 := by
  decide +kernel

/-- Section 6.9: the left strobe carries face 22 over 80 % of its 600 lx·s, 480,000 lx·ms, which latches DOSE WARN; one
lx·ms less does not. -/
theorem witness_PredictedChargesKeepTheAllowances_warning :
    (let s := lighted (placed dosed 12);
      let warned (left : Nat) : Option Nat :=
        (charge s { left := 22, right := 23 } { left := left, right := 0 } (some .left)).summary.latches.dose.map Latched.arg;
      openSlot? s.store.slots = some (.s0, dosed) ∧ warned 138000 = some 22 ∧ warned 67360 = some 22
        ∧ warned 67359 = none) := by
  decide +kernel

/-- Sections 6.9 to 6.11: the left strobe at 4000 µs and cut at 2500 µs, the RB pulse predicted and read at 21630. -/
theorem witness_SettlesNeverRaise :
    strobeDose lamps (Banks.all true) .left 4000 = { left := 138000, right := 8280 }
      ∧ strobeDose lamps (Banks.all true) .left 2500 = { left := 86250, right := 5175 }
      ∧ pulseDose lamps .rb 60000 = { left := 720, right := 12000 }
      ∧ pulseDose lamps .rb 21630 = { left := 260, right := 4326 }
      ∧ facesWf dosed.faces = true ∧ facesWf volume.faces = true
      ∧ (let totals (s : State) (l r : Nat) : Option (Nat × Nat) :=
          (openVolume? s).map fun v => ((facesGet v.faces l).dose.total, (facesGet v.faces r).dose.total);
        let charged := chargePulse (lighted (placed dosed 12)) { slot := .s0, faces := { left := 22, right := 23 } } .rb;
        charged.dose.pulseSettle.isSome = true ∧ totals charged 22 23 = some (413360, 312000)
          ∧ totals (settlePulse charged 21630) 22 23 = some (412900, 304326)
          ∧ (let s := endStrobe (chargeStrobe (entered .exposing .triggered) .left) .left 2500 .awaitFall;
            totals s 2 3 = some (86250, 5175) ∧ s.dose.captureSettle.isSome = true)
          ∧ (let s := endStrobe (chargeStrobe (entered .exposing .done) .left) .left 2500 .done;
            s.dose.captureSettle = none ∧ s.capture.faceDoses = { left := 86250, right := 5175 })) := by
  decide +kernel

/-! ## The Opening Tracker -/

/-- Section 4.5: 300 leaves of 400 µm at opening 99 are clamped on the right, at opening 101 they are not. -/
theorem witness_VisitsStartAndEnd :
    (let s := opened { volume with profile := { profile with leaves := 300, thickness := 400 } };
      (openSlot? s.store.slots).isSome = true ∧ s.capture.state ≠ .arming ∧ s.capture.state ≠ .exposing
        ∧ (visitStart s 99).mech.targets = some { left := 39200, right := 80800 }
        ∧ log (visitStart s 99) = some [.incident .platenLimit 2 80800]
        ∧ log (visitStart s 101) = some [])
      ∧ (let s := entered .acceptWait .done;
        s.capture.state = .acceptWait ∧ (leavePlaced s).capture.lastOutcome = .voidStop
          ∧ (leavePlaced s).tracker.lastPlaced = some 2) := by
  decide +kernel

theorem ready_placed (v : Volume) (n : Nat) : Ready (placed v n) ∧ Ready (opened v) := by
  exact ⟨⟨rfl, Nat.zero_lt_succ _⟩, ⟨rfl, Nat.zero_lt_succ _⟩⟩

/-- Section 1.6, steps 3 and 8: the first PLACE writes no RESEAT, a later one from UNCERTAIN has detail 0. -/
theorem witness_PlaceTaken :
    refusedAll State.reset [(.place 1 1, .wrongState, 0)]
      ∧ refusedAll (opened volume) [(.place 1 0, .badValue, 1), (.place 1 6, .badValue, 1)]
      ∧ refusedAll (turning .lift .glassWait) [(.place 1 5, .wrongState, 0)]
      ∧ refusedAll (entered .acceptWait .done) [(.place 1 1, .wrongState, 0)]
      ∧ taken? (.place 1 5) (opened volume) = true
      ∧ (let s := opened { long 3 with placedBefore := false };
        log (after (.place 1 1) s) = some [] ∧ (after (.place 1 1) s).tracker.n = some 1
          ∧ (after (.place 1 1) s).mech.targets = some { left := 0, right := 450 })
      ∧ (let s : State :=
          { opened volume with
              tracker := { state := .uncertain, slot := some .s0, n := none, lastPlaced := some 2, doseLogged := false } };
        log (after (.place 1 2) s) = some [.incident .reseat 0 2]) := by
  decide +kernel

/-! ## The Leaf Turner -/

/-- PLACED at `n` with the capture RELEASED. -/
def released (v : Volume) (n : Nat) : State :=
  { placed v n with capture := { (capturing .released).capture with progress := Sides.both .done } }

/-- `s` with another pause state. -/
def paused (p : PauseState) (s : State) : State := { s with pause := { s.pause with state := p } }

/-- Section 1.6, step 6: leaf 2 carries PLATE, so the air level is 1 and the skip flag writes SKIPPED. -/
theorem witness_TurnTaken :
    refusedAll State.reset [(.turn 1 1 0, .noVolume, 0)]
      ∧ refusedAll (opened volume) [(.turn 1 0 0, .badValue, 1), (.turn 1 3 0, .badValue, 1), (.turn 1 2 4, .badValue, 2), (.turn 1 1 3, .wrongState, 0)]
      ∧ refusedAll (paused .pausedBroken (released volume 2)) [(.turn 1 1 0, .uncertain, 0)]
      ∧ refusedAll (turning .halted .running) [(.turn 1 1 1, .wrongState, 0)]
      ∧ refusedAll (turning .lift .running) [(.turn 1 1 1, .busy, 0)]
      ∧ refusedAll (released volume 5) [(.turn 1 1 0, .endOfVolume, 0)]
      ∧ refusedAll (released volume 1) [(.turn 1 2 0, .endOfVolume, 0)]
      ∧ refusedAll (capturing .arming) [(.turn 1 1 0, .busy, 0)]
      ∧ refusedAll (entered .acceptWait .done) [(.turn 1 1 1, .wrongState, 0)]
      ∧ refusedAll (placed volume 2) [(.turn 1 1 2, .wrongState, 0)]
      ∧ answer (.turn 1 2 0) (paused .paused (released volume 2)) = some deferredAnswer
      ∧ taken? (.turn 1 1 0) (released volume 4) = true
      ∧ (let s := after (.turn 1 1 1) (placed { volume with marks := [mark 2] } 2);
        log s = some [.incident .skipped 2 1] ∧ s.turner.airLevel = some 1 ∧ s.turner.leaf = some 2
          ∧ s.turner.state = .lift ∧ s.turner.step = .running)
      ∧ (let fold : Mark := { leaf := 2, kinds := { foldout := true, plate := false, hold := false } };
        let s := after (.turn 1 1 0) (released { volume with marks := [mark 1, fold] } 2);
        [mark 1, fold].Pairwise (fun a b => a.leaf < b.leaf) ∧ marksOf [mark 1, fold] 2 = fold.kinds
          ∧ s.turner.state = .manualWait ∧ s.turner.manual = some true ∧ s.turner.airLevel = none
          ∧ s.turner.plateHeld = some false) := by
  decide +kernel

/-- `s` with the glass in a state, its claim held or not. -/
def glassed (g : GlassState) (claim : Bool) (s : State) : State :=
  { s with mech := { s.mech with glass := { s.mech.glass with state := g, claim := claim } } }

theorem witness_RaisesAskedByTheTurner :
    (turnerAsksRaise (glassed .pressed true (turning .lift .glassWait)) .turn).mech.glass.keptRaise = true
      ∧ (turnerAsksRaise (glassed .pressed false (turning .lift .glassWait)) .turn).mech.glass.state = .raising
      ∧ (turnerRaised (turning .lift .glassWait)).turner.step = .running
      ∧ (turnerRaised (turning .reach .glassWait)).turner.state = .reach
      ∧ (turnerRaised (turning .manualWait .glassWait)).turner.step = .running
      ∧ (let s : State :=
          { turning .halted .running with
              turner := { (turning .halted .running).turner with parkWaiting := true }
              pins := { Pins.atRest with home := false } };
        s.pins.home = false ∧ (turnerRaised s).turner.purpose = some .park) := by
  decide +kernel

/-- R48, R59: a raise that fails ends the turn with TURN_FAILED, cause 2 and 0 attempts, and a park with PARK_FAILED; a
park whose home sensor is set ends at once. -/
theorem witness_RaisesAskedByTheTurner_ends :
    (let failed := turnerRaiseFailed (turning .lift .glassWait);
      failed.turner.state = .idle ∧ failed.turner.lastOutcome = .glassFailed ∧ log failed = some [.incident .turnFailed 2 0]
        ∧ failed.summary.latches.turn = some { detail := 2, arg := 2, repeated := false })
      ∧ (let t := turning .halted .running;
        let s : State :=
          { t with turner := { t.turner with parkWaiting := true }, pins := { t.pins with home := true } };
        s.turner.step = .running ∧ s.turner.state = .halted ∧ s.turner.parkWaiting = true ∧ s.pins.home = true
          ∧ (turnerRaised s).turner.lastOutcome = .parked ∧ (turnerRaised s).turner.state = .idle
          ∧ (turnerRaiseFailed s).turner.lastOutcome = .parkFailed
          ∧ (turnerRaiseFailed s).summary.latches.turn = some { detail := 3, arg := 1, repeated := false })
      ∧ turnerRaised (turning .carry .running) = turning .carry .running := by
  decide +kernel

theorem ready_turning (state : TurnerState) (step : TurnerStep) : Ready (turning state step) :=
  ⟨rfl, Nat.zero_lt_succ _⟩

theorem witness_CancelAndPark :
    taken? (.cancelTurn 1) (turning .manualWait .running) = true ∧ taken? (.cancelTurn 1) (turning .lift .glassWait) = true
      ∧ refusedAll (turning .lift .running) [(.cancelTurn 1, .wrongState, 0), (.park 1, .wrongState, 0)]
      ∧ refusedAll (paused .pausedBroken (turning .halted .running)) [(.park 1, .wrongState, 0)]
      ∧ refusedAll
          { turning .halted .running with turner := { (turning .halted .running).turner with parkWaiting := true } }
          [(.park 1, .busy, 0)]
      ∧ refusedAll { turning .halted .running with capture := (capturing .arming).capture } [(.park 1, .busy, 0)]
      ∧ answer (.park 1) (turning .halted .running) = some (started []) := by
  decide +kernel

/-- Section 3.11: completed by hand, the turn appends MANUAL_TURN with its direction and leaf. -/
theorem witness_ManualDone :
    refusedAll (turning .manualWait .glassWait) [(.manualDone 1 1, .wrongState, 0)]
      ∧ refusedAll (turning .manualWait .running) [(.manualDone 1 2, .badValue, 1)]
      ∧ (let s := turning .manualWait .running;
        refusedAll { s with turner := { s.turner with direction := none } } [(.manualDone 1 1, .badValue, 1)])
      ∧ (turning .manualWait .running).turner.direction = some .forward ∧ (turning .manualWait .running).tracker.n = some 2
      ∧ answer (.manualDone 1 1) (turning .manualWait .running) = some (taken [u 2 3])
      ∧ log (after (.manualDone 1 1) (turning .manualWait .running)) = some [.incident .manualTurn 1 2]
      ∧ (after (.manualDone 1 1) (turning .manualWait .running)).tracker.n = some 3 := by
  decide +kernel

/-- Sections 3.10 and 1.6: a forward turn from LIFT to LAY, where the platens go to the offsets of the next opening. -/
theorem witness_ArmPhases :
    inPhase (turning .reach .running).turner .reach = true ∧ inPhase (turning .lift .running).turner .lift = true
      ∧ (after (.farEndSensor true) (turning .reach .running)).turner.state = .lift
      ∧ (after (.holdSensor true) (turning .lift .running)).turner.state = .separate
      ∧ (after (.separationTime 1) (turning .separate .running)).turner.state = .carry
      ∧ (after (.farEndSensor true) (turning .carry .running)).turner.state = .lay
      ∧ (let s := after (.farEndSensor true) (turning .carry .running);
        s.mech.platens.left.setpoint = 300 ∧ s.mech.platens.right.setpoint = 300)
      ∧ (let t := turning .carry .running;
        let s : State := { t with turner := { t.turner with direction := some .back } };
        inPhase s.turner .carry = true ∧ (after (.homeSensor true) s).turner.state = .lay)
      ∧ (after (.cupEmptySensor true) (turning .lay .running)).turner.layEmpty = true := by
  decide +kernel

/-- The hypotheses of the entry into LAY, and a home sensor set where it ends nothing. -/
theorem witness_ArmPhases_elsewhere :
    (let s := turning .carry .running;
      openSlot? s.store.slots = some (.s0, volume) ∧ s.tracker.n = some 2 ∧ s.turner.direction = some .forward
        ∧ inPhase s.turner .ret = false ∧ (after (.homeSensor true) s).turner = s.turner
        ∧ (after (.homeSensor true) s).pins.home = true) := by
  decide +kernel

/-- R52, R56: the valve stays closed in LAY until the leaf is let go; a time-out before that keeps the vacuum. -/
theorem test_lay_keeps_the_vacuum :
    (let t := turning .carry .running;
      let s : State := { t with turner := { t.turner with valveClosed := true }, pins := { t.pins with hold := true } };
      let lay := after (.farEndSensor true) s;
      lay.turner.state = .lay ∧ lay.turner.valveClosed = true
        ∧ (after .turnTimeout lay).turner.valveClosed = true ∧ (after .turnTimeout lay).turner.cupHeld = true
        ∧ (after (.holdSensor false) lay).turner.valveClosed = false
        ∧ (after (.holdSensor false) s).turner.valveClosed = true
        ∧ (after (.cupEmptySensor true) lay).turner.valveClosed = false) := by
  decide +kernel

/-- Sections 3.10 and 3.11: the second attempt runs at level 3; three failed attempts end the turn. -/
theorem witness_FailedAttempts :
    inPhase (turning .separate .running).turner .separate = true
      ∧ (after (.separationTime 2) (turning .separate .running)).turner.state = .restore
      ∧ log (after (.separationTime 0) (turning .separate .running)) = some [.incident .noLift 1 2]
      ∧ log (after .liftTimeout (turning .lift .running)) = some [.incident .noLift 1 1]
      ∧ (after .restoreDescentEnd (turning .restore .running)).turner.restoreReleased = true
      ∧ (let t := turning .restore .running;
        let s : State := { t with turner := { t.turner with restoreReleased := true } };
        s.turner.airLevel = some 2 ∧ s.turner.attempt = some 1 ∧ 1 < s.turner.settings.limit
          ∧ log (after .restoreReleaseWait s) = some [.incident .doubleLeaf 1 2]
          ∧ (after .restoreReleaseWait s).turner.attempt = some 2 ∧ (after .restoreReleaseWait s).turner.airLevel = some 3
          ∧ (after .restoreReleaseWait s).turner.state = .lift)
      ∧ (let t := turning .lift .running;
        let s : State := { t with turner := { t.turner with attempt := some 3 }, pins := { t.pins with home := false } };
        ¬ 3 < s.turner.settings.limit ∧ (after .liftTimeout s).turner.purpose = some .failureReturn) := by
  decide +kernel

/-- The arm in RETURN, for a purpose. -/
def returning (p : Purpose) : State :=
  { turning .ret .running with
      turner := { (turning .ret .running).turner with purpose := some p }, pins := { Pins.atRest with home := false } }

/-- Section 3.11's end: TURN_FAILED with cause 1 and the attempts made. -/
theorem witness_ReturnEnds :
    inPhase (returning .turn).turner .ret = true
      ∧ (after (.homeSensor true) (returning .turn)).tracker.n = some 3
      ∧ (after (.homeSensor true) (returning .turn)).summary.latches.turn = some { detail := 1, arg := 3, repeated := false }
      ∧ (returning .failureReturn).turner.attempt = some 1
      ∧ log (after (.homeSensor true) (returning .failureReturn)) = some [.incident .turnFailed 1 1]
      ∧ (after (.homeSensor true) (returning .park)).turner.lastOutcome = .parked
      ∧ (enterReturn (turning .lift .running) .failureReturn).turner.lastOutcome = .failed := by
  decide +kernel

/-- Section 1.6, step 7: the arm times out in CARRY. -/
theorem witness_TurnTimeoutHalts :
    (let s := after .turnTimeout (turning .carry .running);
      s.turner.state = .halted ∧ log s = some [.incident .turnTimeout 2 0] ∧ s.tracker.state = .uncertain
        ∧ s.tracker.lastPlaced = some 2)
      ∧ log (after .turnTimeout (turning .reach .running)) = some [.incident .turnTimeout 1 0]
      ∧ log (after .turnTimeout (turning .lay .running)) = some [.incident .turnTimeout 3 0]
      ∧ log (after .turnTimeout (returning .failureReturn)) = some [.incident .turnTimeout 4 0]
      ∧ (after .turnTimeout (returning .park)).turner.lastOutcome = .parkFailed
      ∧ log (after .turnTimeout (returning .park)) = some [] := by
  decide +kernel

/-- The ranges of R63, R102 and R137, at both ends of each. -/
theorem witness_SettingsReplacedTogether :
    refusedAll (turning .lift .running) [(.setTurner 1 0 0 0 0 0 0, .wrongState, 0)]
      ∧ refusedAll State.reset
        [ (.setTurner 1 99 100 100 100 100 1, .badValue, 1), (.setTurner 1 100 10001 0 100 100 1, .badValue, 2),
          (.setTurner 1 100 100 99 100 100 1, .badValue, 3), (.setTurner 1 100 100 100 10001 100 1, .badValue, 4),
          (.setTurner 1 100 100 100 100 99 1, .badValue, 5), (.setTurner 1 100 100 100 100 100 0, .badValue, 6),
          (.setTurner 1 100 100 100 100 100 6, .badValue, 6), (.setChecks 1 0 2 0 0, .badValue, 1),
          (.setChecks 1 256 0 1 2, .badValue, 1), (.setChecks 1 1 2 0 0, .badValue, 2), (.setChecks 1 1 1 0 2, .badValue, 3),
          (.setChecks 1 1 1 501 900, .badValue, 3), (.setChecks 1 1 1 30 30, .badValue, 4),
          (.setChecks 1 1 1 30 901, .badValue, 4), (.setCapture 1 2 0 0 0 0, .badValue, 1),
          (.setCapture 1 1 49 0 0 0, .badValue, 2), (.setCapture 1 1 5001 0 0 0, .badValue, 2),
          (.setCapture 1 1 50 5001 0 0, .badValue, 3), (.setCapture 1 1 50 5000 5001 0, .badValue, 4),
          (.setCapture 1 1 50 0 0 2, .badValue, 5) ]
      ∧ refusedAll (capturing .arming) [(.setCapture 1 0 50 0 0 0, .wrongState, 0)]
      ∧ refusedAll { State.reset with lamps := { lamps with waitingCheck := some (newCheck .requested (Banks.all true)) } }
        [(.setChecks 1 1 0 1 2, .busy, 0)]
      ∧ [ .setTurner 1 100 10000 100 10000 100 5, .setChecks 1 255 1 500 900, .setCapture 1 1 5000 5000 5000 1 ].all
          (fun i => taken? i State.reset) = true
      ∧ (after (.setChecks 1 5 1 30 200) { State.reset with lamps := { lamps with counter := 39 } }).lamps.counter = 5 := by
  decide +kernel

/-! ## Cradle Mechanics -/

/-- Section 4.6: SET_GLASS(800) under a limit of 600 gf is taken as 600, clamped. -/
theorem witness_GlassAndAngleRequests :
    refusedAll State.reset [(.setGlass 1 0, .noVolume, 0), (.setAngle 1 80, .noVolume, 0)]
      ∧ refusedAll (opened volume) [(.setGlass 1 2001, .badValue, 1), (.setAngle 1 79, .badValue, 1), (.setAngle 1 141, .badValue, 1)]
      ∧ answer (.setGlass 1 800) (opened volume) = some (taken [u 2 600, u 1 1])
      ∧ answer (.setGlass 1 600) (opened volume) = some (taken [u 2 600, u 1 0])
      ∧ answer (.setAngle 1 140) (opened volume) = some (taken [u 1 120, u 1 1])
      ∧ refusedAll (turning .lift .running) [(.setAngle 1 90, .wrongState, 0)]
      ∧ refusedAll (glassed .pressed true (placed volume 2)) [(.setAngle 1 90, .wrongState, 0), (.raiseGlass 1, .busy, 0)]
      ∧ answer (.raiseGlass 1) (placed volume 2) = some (taken [u 1 0])
      ∧ (after (.raiseGlass 1) (glassed .pressed false (placed volume 2))).mech.glass.state = .raising := by
  decide +kernel

/-- A glass in LOWERING or PRESSED towards 300 gf, its claim held. -/
def pressing (g : GlassState) : State :=
  let s := glassed g true (capturing .arming)
  { s with
      mech :=
        { s.mech with
            glass := { s.mech.glass with press := some { target := 300, pressedAt := 285, overforceAt := 660 } } } }

/-- Section 4.6: leaf 41 carries PLATE, so the target is 300, the threshold 285 and the overforce 660 gf. -/
theorem witness_PressesAndForce :
    (let s := placed { volume with marks := [mark 2] } 2;
      (startLowering s).mech.glass.press = some { target := 300, pressedAt := 285, overforceAt := 660 }
        ∧ (startLowering s).mech.glass.state = .lowering)
      ∧ (let s := placed { volume with marks := [mark 2] } 2;
        let low : State := { s with mech := { s.mech with glass := { s.mech.glass with requestedForce := 1 } } };
        startLowering low = pressFailed low)
      ∧ (let held (mode : GlassMode) : State :=
          let s := placed { volume with profile := { profile with glassMode := mode } } 2
          { s with mech := { s.mech with glass := { s.mech.glass with heldPress := true } } };
        (heldPressGo (held .press)).mech.glass.state = .lowering
          ∧ (heldPressGo (held .none)).mech.glass.state = .raised ∧ (heldPressGo (held .none)).mech.glass.heldPress = false)
      ∧ (after (.glassForceReading 284) (pressing .lowering)).mech.glass.state = .lowering
      ∧ (after (.glassForceReading 285) (pressing .lowering)).mech.glass.state = .pressed
      ∧ (after (.glassForceReading 660) (pressing .lowering)).mech.glass.state = .pressed
      ∧ (after (.glassForceReading 661) (pressing .lowering)).mech.glass.state = .raising
      ∧ log (after (.glassForceReading 661) (pressing .pressed)) = some [.incident .glassFault 2 661]
      ∧ (pressing .raised).mech.glass.press.isSome = true ∧ (placed volume 2).mech.glass.press = none := by
  decide +kernel

/-- A held press left by a volume that was closed while the glass rose: its force is 0, so it is dropped. -/
theorem witness_PressesAndForce_noVolume :
    (let s : State :=
        { State.reset with
            mech := { State.reset.mech with glass := { State.reset.mech.glass with heldPress := true } } };
      openSlot? s.store.slots = none ∧ s.mech.glass.state = .raised ∧ s.mech.glass.requestedForce = 0
        ∧ (heldPressGo s).mech.glass.heldPress = false ∧ (heldPressGo s).mech.glass.state = .raised) := by
  decide +kernel

theorem witness_MechanicsMovesEnd :
    (after (.raisedStopSensor true) (glassed .raising false (turning .lift .running))).mech.glass.state = .raised
      ∧ (let s := turnerAsksRaise (glassed .pressed false (turning .lift .glassWait)) .turn;
        s.mech.glass.waiters = [.turn] ∧ (after (.raisedStopSensor true) s).turner.step = .running
          ∧ (after .glassMoveTimeout s).mech.glass.state = .halted
          ∧ (after .glassMoveTimeout s).turner.lastOutcome = .glassFailed)
      ∧ log (after .glassMoveTimeout (pressing .lowering)) = some [.incident .glassFault 1 0]
      ∧ (after (.platenSettled .left 300) (turning .lay .running)).pins.position.left = 300
      ∧ (after (.angleSettled 100) (placed volume 2)).pins.angle = 100 := by
  decide +kernel

/-- The clamp of R65 at the travel of 80000 µm: the move starts at once under a RAISED glass, pending under one that must rise. -/
theorem witness_MechanicsMovesEnd_clamp :
    (let moved (g : GlassState) (claim : Bool) : Mechanics :=
        (setPlatens (glassed g claim (placed volume 2)) { left := 80001, right := 80000 }).mech;
      (moved .raised false).platens.left.setpoint = 80000 ∧ (moved .raised false).platens.right.setpoint = 80000
        ∧ (moved .raised false).platens.left.pending = false ∧ (moved .pressed false).platens.left.pending = true
        ∧ (moved .pressed false).glass.state = .raising ∧ (moved .pressed true).glass.keptRaise = true) := by
  decide +kernel

/-! ## The Lamp Controller -/

/-- `s` at an idle stage. -/
def staged (i : IdleStage) (s : State) : State := { s with lamps := { s.lamps with idleStage := i } }

/-- Section 5.10: REST at 20 s, DARK at 120 s, OFF at 600 s; the CAPTURE's supply starts a settle with the counter at K. -/
theorem witness_SupplyAndIdleTimer :
    answer (.lampsOn 1) (lighted State.reset) = some (taken [u 1 2])
      ∧ (after (.lampsOn 1) State.reset).lamps.supply = .settling ∧ (after (.lampsOn 1) State.reset).lamps.counter = 40
      ∧ (after (.lampsOn 1) { State.reset with lamps := { Lamps.restarted with settle := 0 } }).lamps.supply = .ready
      ∧ (after .supplySettled (after (.lampsOn 1) State.reset)).summary.latches.lamp
          = some { detail := 3, arg := 0, repeated := false }
      ∧ refusedAll (capturing .arming) [(.lampsOff 1, .busy, 0)]
      ∧ (after (.lampsOff 1) (lighted State.reset)).lamps.reservoir = 0 ∧ taken? (.lampsOff 1) State.reset = true
      ∧ idleHeld (lighted State.reset) = false ∧ idleHeld (capturing .arming) = true
      ∧ (20 : Nat) ≤ 120 ∧ (120 : Nat) ≤ 600
      ∧ (after .idleStageExpiry (lighted State.reset)).lamps.idleStage = .rest
      ∧ (after .idleStageExpiry (staged .rest (lighted State.reset))).lamps.idleStage = .dark
      ∧ (let s := after .idleStageExpiry (staged .dark (lighted State.reset));
        s.lamps.idleStage = .expired ∧ s.lamps.supply = .off ∧ s.lamps.reservoir = 0) := by
  decide +kernel

/-- The ranges of R87, R89 and R91, at both ends of each. -/
theorem witness_LightingSettings :
    refusedAll State.reset
        [ (.setLighting 1 1001 1001 0 0 0 0 0, .badValue, 1), (.setLighting 1 1000 1001 0 0 0 0 0, .badValue, 2),
          (.setLighting 1 0 0 1001 0 0 0 0, .badValue, 3), (.setLighting 1 0 0 0 1001 0 0 0, .badValue, 4),
          (.setLighting 1 0 0 0 0 99 0 0, .badValue, 5), (.setLighting 1 0 0 0 0 100 20001 0, .badValue, 6),
          (.setLighting 1 0 0 0 0 100 100 251, .badValue, 7), (.setAiming 1 101 0, .badValue, 1),
          (.setAiming 1 100 101, .badValue, 2), (.setIdle 1 0 0 0 0, .badValue, 1), (.setIdle 1 20 19 0 0, .badValue, 2),
          (.setIdle 1 20 3601 0 0, .badValue, 2), (.setIdle 1 20 120 119 0, .badValue, 3),
          (.setIdle 1 20 120 3601 0, .badValue, 3), (.setIdle 1 20 120 600 10001, .badValue, 4) ]
      ∧ refusedAll (capturing .arming) [(.setLighting 1 0 0 0 0 100 100 0, .busy, 0)]
      ∧ [ .setLighting 1 1000 1000 1000 1000 20000 100 250, .setAiming 1 100 100, .setIdle 1 1 1 3600 10000 ].all
          (fun i => taken? i State.reset) = true
      ∧ answer (.setAiming 1 5 1) (lighted (placed volume 2)) = some (taken [u 1 5, u 1 1, u 1 1])
      ∧ answer (.setAiming 1 5 1) State.reset = some (taken [u 1 5, u 1 1, u 1 0]) := by
  decide +kernel

/-- R86's table at the left side: both banks FAILED, one UNCALIBRATED, one FAILED, both GOOD with one at drive 0. -/
theorem witness_LightingSettings_sides :
    (let status (la lb : Health) (da db : Nat) : SideStatus :=
        sideStatus
          { lamps with health := { lamps.health with la := la, lb := lb }, drive := { lamps.drive with la := da, lb := db } }
          .left;
      status .failed .failed 750 750 = .noLight ∧ status .good .good 0 0 = .noLight
        ∧ status .good .uncalibrated 750 750 = .notCalibrated ∧ status .failed .good 750 750 = .usable true
        ∧ status .failed .good 750 0 = .noLight ∧ status .good .good 0 750 = .usable false) := by
  decide +kernel

/-- Section 6.12: PLACED at opening 7 with the aiming level at 5 ‰ and P = 20,000 lx·s, face 12 at the given total. -/
def aiming (total : Nat) : State :=
  let v : Volume :=
    { long 300 with
        profile := { profile with leaves := 300, pageAllowance := 20000, volumeAllowance := 50000000 }
        faces := [(12, { dose := Dose.ofTotal total, exposures := 0 })] }
  { placed v 7 with lamps := { lamps with aimingLevel := 5 } }

/-- Section 6.12: one interval charges 24,400 and 23,400 lx·ms; the third is cut. -/
theorem witness_AimingLight :
    (let s := aimRetest (aiming 19950300);
      s.dose.aiming = some { elapsedUs := 0, level := 5, lux := { left := 244, right := 234 } }
        ∧ (openVolume? s).map (fun v => ((facesGet v.faces 12).dose, (facesGet v.faces 13).dose))
            = some ({ whole := 19974, rem := 700 }, { whole := 23, rem := 400 })
        ∧ ((openVolume? (after .aimingInterval s)).map fun v => (facesGet v.faces 12).dose) = some { whole := 19999, rem := 100 }
        ∧ (after .aimingInterval (after .aimingInterval s)).lamps.aimingCut = true)
      ∧ (let s := aimRetest (aiming 19999100);
        s.lamps.aimingCut = true ∧ s.dose.aiming = none ∧ log s = some [.incident .doseLimit 3 12]
          ∧ s.tracker.doseLogged = true)
      ∧ (let s := aimRetest (aiming 19950300);
        let lost : State := { s with tracker := { s.tracker with state := .uncertain, n := none } };
        s.dose.aiming.isSome = true ∧ (aimRetest lost).dose.aiming = none
          ∧ after .aimingInterval lost = lost) := by
  decide +kernel

/-- The lighting resource held by a check of one bank, bound to faces 22 and 23 at opening 12. -/
def checking (b : Bank) (lit hood : Bool) (v : Volume) : State :=
  let check : Check :=
    { newCheck .periodic (oneBank b) with
        bound := some { slot := .s0, faces := { left := 22, right := 23 } }, lit := lit, hoodEnded := hood }
  { placed v 12 with lamps := { lamps with holder := .check check, counter := 40, pointer := b } }

/-- An open hood. -/
def hooded (s : State) : State := { s with pause := { s.pause with hoodOpen := true } }

/-- Sections 5.9 and 6.11: a check waits and is granted before the capture; a BOTH capture costs 12,000 units. -/
theorem witness_ChecksAndGrants :
    refusedAll State.reset [(.referenceCheck 1 0, .badValue, 1), (.referenceCheck 1 16, .badValue, 1)]
      ∧ refusedAll (checking .rb false false volume) [(.referenceCheck 1 1, .busy, 0)]
      ∧ refusedAll (hooded State.reset) [(.referenceCheck 1 15, .hoodOpen, 0)]
      ∧ refusedAll (after .turnTimeout (turning .carry .running)) [(.referenceCheck 1 15, .uncertain, 0)]
      ∧ refusedAll (lighted (placed { dosed with faces := [(22, { dose := { whole := 580, rem := 0 }, exposures := 0 })] } 12))
          [(.referenceCheck 1 15, .doseFace, 0)]
      ∧ answer (.referenceCheck 1 15) (lighted (placed dosed 12)) = some (started [])
      ∧ (let c := newCheck .requested (Banks.all true);
        let s : State := { placed dosed 12 with lamps := { lamps with waitingCheck := some c, waitingCapture := true } };
        s.lamps.holder = .free ∧ s.lamps.supply = .ready ∧ s.pause.hoodOpen = false ∧ c.kind = .requested
          ∧ predict dosed { left := 22, right := 23 } (checkDose s.lamps c.banks) = none
          ∧ (after .lightingGrant s).lamps.holder
              = .check { c with bound := some { slot := .s0, faces := { left := 22, right := 23 } } })
      ∧ (let s : State := { capturing .arming with lamps := { lamps with waitingCapture := true } };
        s.capture.sides = some .both ∧ (sideStatus s.lamps .left).isUsable = true ∧ (sideStatus s.lamps .right).isUsable = true
          ∧ (after .lightingGrant s).lamps.holder = .capture ∧ (after .lightingGrant s).lamps.captureCost = 12000)
      ∧ (let s : State := { capturing .arming with lamps := { lamps with waitingCapture := true, health := Banks.all .failed } };
        (after .lightingGrant s).capture.lastOutcome = .endedLight)
      ∧ (let waits (kind : CheckKind) (s : State) : State :=
          { s with lamps := { lamps with waitingCheck := some (newCheck kind (Banks.all true)) } };
        let crowd := placed { dosed with faces := [(22, { dose := { whole := 580, rem := 0 }, exposures := 0 })] } 12;
        let outcome (s : State) := (after .lightingGrant s).lamps.lastCheck.map CheckRecord.outcome;
        outcome (waits .requested crowd) = some .refusedDose
          ∧ outcome (waits .requested (after .turnTimeout (turning .carry .running))) = some .endedUncertain
          ∧ (after .lightingGrant (waits .full crowd)).lamps.deferrals = 1
          ∧ (after .lightingGrant (waits .full crowd)).lamps.waitingCheck = none
          ∧ grantNext (hooded (waits .full crowd)) = hooded (waits .full crowd)) := by
  decide +kernel

/-- The health, F_b and latched detail of a bank that the pulse of section 5.9 leaves. -/
def judged (b : Bank) (reading : Nat) : Health × Option Nat × Option Latched :=
  let s := after (.referencePulseEnd reading) (after .referencePulseStart (checking b false false dosed))
  (s.lamps.health.get b, s.lamps.fullScale.get b, s.summary.latches.lamp)

/-- Sections 5.9 and 6.11: the three readings, the charge of the RB pulse and its settle. -/
theorem witness_ReferencePulses :
    judged .rb 21630 = (.good, some 21630, none)
      ∧ judged .la 22800 = (.good, some 22800, some { detail := 1, arg := 1, repeated := false })
      ∧ judged .lb 4000 = (.failed, some 22000, some { detail := 2, arg := 2, repeated := false })
      ∧ judged .lb 17578 = (.failed, some 22000, some { detail := 2, arg := 2, repeated := false })
      ∧ judged .lb 17579 = (.good, some 17579, some { detail := 1, arg := 2, repeated := false })
      ∧ (let s := after .referencePulseStart (checking .rb false false dosed);
        s.lamps.reservoir = 79800
          ∧ ((openVolume? s).map fun v => ((facesGet v.faces 22).dose.total, (facesGet v.faces 23).dose.total))
              = some (413360, 312000)
          ∧ ((openVolume? (after (.referencePulseEnd 21630) s)).map fun v =>
                ((facesGet v.faces 22).dose.total, (facesGet v.faces 23).dose.total)) = some (412900, 304326)
          ∧ (after (.referencePulseEnd 21630) s).lamps.counter = 0
          ∧ (after (.referencePulseEnd 21630) s).lamps.pointer = .la)
      ∧ (after (.referencePulseEnd 999) (checking .rb true true dosed)).lamps.health.rb = .failed
      ∧ (after (.referencePulseEnd 1000) { State.reset with lamps := { lamps with
            health := Banks.all .uncalibrated, fullScale := Banks.all none
            holder := .check { newCheck .full (Banks.all true) with lit := true } } }).lamps.fullScale.la = some 1000 := by
  decide +kernel

/-! ## The Capture Unit -/

/-- 255 capture entries at opening 2. -/
def manyTakes : Volume := { volume with log := List.replicate 255 (covers 2 .both .void) }

/-- Section 6.9: the admission predicts 145,920 and 140,280 lx·ms; with 558,560 on face 22 it fails. -/
theorem witness_CaptureTaken :
    refusedAll State.reset [(.capture 1 0, .badValue, 1), (.capture 1 4, .badValue, 1), (.capture 1 3, .noVolume, 0)]
      ∧ refusedAll (after .turnTimeout (turning .carry .running)) [(.capture 1 1, .uncertain, 0)]
      ∧ refusedAll (opened volume) [(.capture 1 1, .wrongState, 0)]
      ∧ refusedAll (turning .lift .running) [(.capture 1 1, .busy, 0)]
      ∧ refusedAll (capturing .arming) [(.capture 1 1, .busy, 0)]
      ∧ refusedAll (paused .pausedBroken (placed volume 2)) [(.capture 1 1, .uncertain, 0)]
      ∧ refusedAll (hooded (placed volume 2)) [(.capture 1 1, .hoodOpen, 0)]
      ∧ refusedAll (placed volume 2) [(.capture 1 1, .noLight, 1), (.capture 1 3, .noLight, 1)]
      ∧ refusedAll { placed volume 2 with lamps := { lamps with health := { la := .good, lb := .uncalibrated, ra := .uncalibrated, rb := .good } } }
          [(.capture 1 2, .notCalibrated, 1), (.capture 1 3, .notCalibrated, 1)]
      ∧ refusedAll (lighted (placed { dosed with faces := [(22, { dose := { whole := 558, rem := 560 }, exposures := 0 })] } 12))
          [(.capture 1 1, .doseFace, 1)]
      ∧ refusedAll (lighted (placed manyTakes 2)) [(.capture 1 1, .storeFull, 0)]
      ∧ answer (.capture 1 1) (paused .paused (lighted (placed volume 2))) = some deferredAnswer
      ∧ answer (.capture 1 1) (lighted (placed dosed 12))
          = some (started [u 1 1, u 2 12, u 1 1, u 1 1, u 1 ReleaseMode.onAccept.code])
      ∧ (let earlier := [covers 12 .both .void, covers 11 .both .accepted, covers 12 .left .accepted];
        answer (.capture 1 1) (lighted (placed { dosed with log := earlier } 12))
          = some (started [u 1 1, u 2 12, u 1 3, u 1 1, u 1 ReleaseMode.onAccept.code]))
      ∧ (supplyOn State.reset).lamps.supply = .settling
      ∧ (pressRequest (glassed .halted false (placed volume 2))).mech.glass.state = .lowering
      ∧ (let s := pressRequest (glassed .raising false (placed volume 2));
        s.mech.glass.claim = true ∧ s.mech.glass.heldPress = true ∧ s.mech.glass.state = .raising)
      ∧ (let s := capturing .arming;
        let armed : State :=
          { s with capture := { s.capture with press := .pressed }, lamps := { s.lamps with fullCheck := true } };
        (armPump armed).lamps.waitingCapture = true
          ∧ (armPump armed).lamps.waitingCheck.map Check.kind = some .full ∧ armPump s = s) := by
  decide +kernel

/-- A granted capture of BOTH at opening 12 with no other log entry. -/
def granted (v : Volume) : State :=
  { placed v 12 with
      lamps := { lamps with holder := .capture, fixedBanks := Banks.all true, captureCost := 12000 }
      capture := { (capturing .arming).capture with opening := some 12 } }

theorem witness_LightingReady :
    (granted dosed).lamps.holder = .capture ∧ (granted dosed).capture.opening = some 12
      ∧ predict dosed { left := 22, right := 23 } (captureDose lamps (Banks.all true) .both) = none
      ∧ (after .lightingReady (granted dosed)).capture.state = .exposing
      ∧ (after .lightingReady (granted dosed)).capture.trigger = Sides.both true
      ∧ (let v : Volume := { dosed with faces := [(22, { dose := { whole := 558, rem := 560 }, exposures := 0 })] };
        (predict v { left := 22, right := 23 } (captureDose lamps (Banks.all true) .both)).isSome = true
          ∧ (after .lightingReady (granted v)).capture.lastOutcome = .endedDose)
      ∧ (crowded 16384 (granted dosed)).lamps.holder = .capture := by
  decide +kernel

/-- Section 6.10: the left strobe of a fresh opening, cut 2500 µs into its run. -/
theorem witness_ExposureEvents :
    log (after (.exposureActiveRise .left) (placed volume 2)) = some [.incident .strayFrame 1 1]
      ∧ (let s := entered .exposing .triggered;
        s.capture.trigger.left = true ∧ (after (.exposureActiveRise .left) s).capture.progress.left = .lit
          ∧ (after (.exposureActiveRise .left) s).lamps.reservoir = 74000
          ∧ ((openVolume? (after (.exposureActiveRise .left) s)).map fun v =>
              ((facesGet v.faces 2).dose.total, (facesGet v.faces 2).exposures, (facesGet v.faces 3).dose.total))
              = some (138000, 1, 8280))
      ∧ (after (.strobeDelayExpiry .right) (entered .exposing .delay)).capture.progress.right = .lit
      ∧ (let t := after (.exposureActiveRise .left) (entered .exposing .triggered);
        let s : State := { t with capture := { t.capture with litUs := Sides.both 2500 } };
        (after (.strobeEnd .left) s).capture.progress.left = .awaitFall
          ∧ (after (.exposureActiveFall .left) s).capture.flags.under = true
          ∧ ((openVolume? (after (.exposureActiveFall .left) s)).map fun v =>
              ((facesGet v.faces 2).dose.total, (facesGet v.faces 3).dose.total)) = some (86250, 5175))
      ∧ (after (.exposureActiveFall .left) (entered .exposing .delay)).capture.progress.left = .done
      ∧ (after (.exposureActiveFall .left) (entered .exposing .awaitFall)).capture.flags.under = false := by
  decide +kernel

/-- Section 7.12: one camera silent. -/
theorem witness_ExposureEnds :
    (let s := entered .exposing .done;
      s.dose.captureSettle = none ∧ s.capture.sides = some .both ∧ (exposurePump s).capture.state = .receiptWait
        ∧ (exposurePump s).lamps.counter = 1 ∧ (exposurePump s).lamps.holder = .free)
      ∧ (let s := entered .exposing .done;
        let due : State := { s with lamps := { s.lamps with counter := 39 } };
        (match (exposurePump due).lamps.holder with
          | .check c => decide (c.banks = oneBank .la)
          | _ => false) = true)
      ∧ (let s := entered .exposing .done;
        let flagged : State := { s with lamps := { s.lamps with fullCheck := true } };
        (match (exposurePump flagged).lamps.holder with
          | .check c => decide (c.banks = allBanks)
          | _ => false) = true)
      ∧ (let s := entered .exposing .done;
        let v : State := { s with capture := { s.capture with voiding := true } };
        (exposurePump v).capture.state = .none ∧ (exposurePump v).capture.lastOutcome = .voidTimeout)
      ∧ (let s := after (.cameraTimeout .right) (entered .exposing .triggered);
        s.capture.state = .none ∧ s.summary.latches.capture = some { detail := 2, arg := 2, repeated := false }) := by
  decide +kernel

/-- An exposure goes on until its sides are DONE and, while voiding, until no strobe is lit. -/
theorem witness_ExposureEnds_goesOn :
    (let s := entered .exposing .lit;
      let lit : State := { s with capture := { s.capture with voiding := true } };
      CaptureSides.both.has .left = true ∧ s.capture.sides = some .both ∧ s.capture.progress.left ≠ .done
        ∧ exposurePump s = s ∧ exposurePump lit = lit
        ∧ exposurePump (entered .released .done) = entered .released .done) := by
  decide +kernel

/-- R127, R128: the left strobe cut by its time-out awaits its fall while the right one runs on; with the right one ended
the capture is void. -/
theorem test_cut_side_awaits_its_fall :
    (let s := after (.cameraTimeout .left) (entered .exposing .lit);
      s.capture.voiding = true ∧ s.capture.progress = { left := .awaitFall, right := .lit }
        ∧ (after (.exposureActiveFall .left) s).capture.progress = { left := .done, right := .lit }
        ∧ (after (.exposureActiveFall .left) s).capture.duration.left = s.capture.duration.left
        ∧ (after (.strobeEnd .right) s).capture.lastOutcome = .voidTimeout) := by
  decide +kernel

/-- R67, R129: a target above the travel on a requested side gives the entry FOCUS_LIMIT. -/
theorem test_focus_limit_of_a_requested_side :
    (let s := entered .exposing .done;
      let focus (left : Nat) (sides : CaptureSides) : Bool :=
        focusLimited
          { s with
              capture := { s.capture with sides := some sides }
              mech := { s.mech with targets := some { left := left, right := 0 } } };
      focus 80001 .both = true ∧ focus 80000 .both = false ∧ focus 80001 .right = false) := by
  decide +kernel

/-- The table of R130, and the release decision of R131. -/
theorem witness_ReceiptsAndRelease :
    (entered .receiptWait .done).capture.sides = some .both
      ∧ refusedAll (entered .receiptWait .done)
          [ (.frameReceived 1 0 1, .badValue, 1), (.frameReceived 1 3 1, .badValue, 1), (.frameReceived 1 1 2, .wrongFrame, 2),
            (.accept 1, .wrongState, 0) ]
      ∧ refusedAll (capturing .arming) [(.frameReceived 1 1 1, .wrongState, 0), (.reject 1, .wrongState, 0)]
      ∧ refusedAll (entered .released .done) [(.frameReceived 1 1 1, .wrongState, 0)]
      ∧ refusedAll (entered .exposing .awaitFall) [(.frameReceived 1 1 1, .wrongState, 0)]
      ∧ (let s := entered .receiptWait .done;
        refusedAll { s with capture := { s.capture with sides := some .right } } [(.frameReceived 1 1 1, .wrongFrame, 1)]
          ∧ refusedAll { s with capture := { s.capture with sides := none } } [(.frameReceived 1 1 2, .wrongFrame, 2)])
      ∧ (let s := entered .receiptWait .done;
        let half : State := { s with capture := { s.capture with receipt := { left := true, right := false } } };
        answer (.frameReceived 1 1 1) half = some (taken [u 1 1, u 4 1, u 1 1, u 1 1])
          ∧ answer (.frameReceived 1 2 1) half = some (taken [u 1 2, u 4 1, u 1 0, u 1 0])
          ∧ (after (.frameReceived 1 2 1) half).capture.state = .released
          ∧ (after (.frameReceived 1 1 1) s).capture.state = .receiptWait)
      ∧ (after (.accept 1) (entered .acceptWait .done)).capture.state = .released
      ∧ (after (.reject 1) (entered .acceptWait .done)).capture.lastOutcome = .rejected
      ∧ (after (.reject 1) (entered .receiptWait .done)).capture.state = .none
      ∧ (let closed (status : EntryStatus) : EntryBody :=
          .capture
            { take := 1, sides := .both, frames := Sides.both none, doses := Sides.both 0, durations := Sides.both 0
              banks := Banks.all false, flags := EntryFlags.empty, status := status };
        log (after (.accept 1) (entered .acceptWait .done)) = some [closed .accepted]
          ∧ log (after (.reject 1) (entered .acceptWait .done)) = some [closed .rejected]
          ∧ log (setPendingStatus (opened { volume with log := [covers 2 .both .void, pendingEntry] }) .accepted)
              = some [(covers 2 .both .void).body, closed .accepted]) := by
  decide +kernel

/-! ## The Pause Logic -/

/-- A window open on a line, its sampled level the other one. -/
def windowed (line : AuxLine) (s : State) : State :=
  let a := s.pause.lines.get line
  { s with pause := { s.pause with lines := s.pause.lines.set line { a with window := true } } }

theorem witness_AuxiliaryLines :
    (after (.auxLevelChange .aux0 false) State.reset).pause.lines.aux0.window = true
      ∧ (after (.auxLevelChange .aux0 true) (windowed .aux0 State.reset)).pause.lines.aux0.window = false
      ∧ after (.auxEdge .aux0) State.reset = State.reset
      ∧ (after (.auxEdge .aux0) (windowed .aux0 State.reset)).pause.cause = some .stop
      ∧ (after (.auxEdge .aux1) (windowed .aux1 State.reset)).pause.lastPedal = .ignored
      ∧ (after (.auxEdge .aux2) (windowed .aux2 State.reset)).pause.hoodOpen = true
      ∧ (let t := after (.auxEdge .aux3) (windowed .aux3 State.reset); t.pause.lines.aux3.edges.count = 0)
      ∧ (let s := after (.setAux 1 1 0 2 0 3 0 4 2) State.reset;
        (after (.auxEdge .aux3) (windowed .aux3 s)).pause.lines.aux3.edges = { count := 1, last := some .falling }) := by
  decide +kernel

theorem witness_PedalAndHood :
    (pedalPress (turning .manualWait .running)).tracker.n = some 3
      ∧ (pedalPress (turning .manualWait .glassWait)).pause.lastPedal = .ignored
      ∧ (pedalPress (entered .acceptWait .done)).capture.state = .released
      ∧ (let s := lighted (placed volume 2);
        let p : State := { s with capture := { s.capture with pedalCapture := true } };
        (pedalPress p).capture.manual = some true
          ∧ (pedalPress { p with lamps := Lamps.restarted }).capture.lastOutcome = .refused .noLight)
      ∧ (pedalPress State.reset).pause.lastPedal = .ignored
      ∧ judgeHood State.reset = State.reset ∧ (judgeHood (hooded State.reset)).pause.hoodOpen = false := by
  decide +kernel

/-- The pedal's capture is taken with the flag MANUAL, a refused one is the same as the controller's; an open hood ends
a waiting check at once and a lit one at its pulse's end (R101). -/
theorem witness_PedalAndHood_captureAndCheck :
    (let s := lighted (placed dosed 12);
      openSlot? s.store.slots = some (.s0, dosed) ∧ s.tracker.n = some 12 ∧ s.pause.state = .running
        ∧ (captureArrives 1 true s).2.isOwn = true ∧ (captureArrives 1 true s).1.capture.flags.manual = true
        ∧ (captureArrives 1 false s).1.capture.flags.manual = false
        ∧ captureArrives 1 true State.reset = captureArrives 1 false State.reset)
      ∧ (let c := newCheck .requested (Banks.all true);
        let waits : State := { State.reset with lamps := { lamps with waitingCheck := some c } };
        (hoodEndsCheck waits).lamps.waitingCheck = none
          ∧ (hoodEndsCheck waits).lamps.lastCheck.map CheckRecord.outcome = some .endedHood)
      ∧ (let held (lit : Bool) := (hoodEndsCheck (checking .rb lit false dosed)).lamps;
        (held false).holder = .free ∧ (held false).lastCheck.map CheckRecord.outcome = some .endedHood
          ∧ (match (held true).holder with
            | .check c => c.hoodEnded
            | _ => false) = true) := by
  decide +kernel

/-- Sections 3.12 and 8.8: a stop before the arm moves is clean, one in CARRY is broken with phase 5. -/
theorem witness_StopSteps :
    stopTaken (paused .paused State.reset) .hood = paused .paused State.reset
      ∧ (stopTaken (turning .lift .glassWait) .stop).pause.state = .paused
      ∧ (stopTaken (glassed .raising false (placed volume 2)) .stop).mech.glass.state = .halted
      ∧ (let s := stopTaken (turning .carry .running) .stop;
        s.pause.state = .pausedBroken ∧ s.pause.brokenPhase = some 5 ∧ log s = some [.incident .pauseBroken 1 5]
          ∧ s.tracker.state = .uncertain ∧ s.summary.latches.halt = some { detail := 1, arg := 0, repeated := false })
      ∧ (stopTaken (returning .park) .hood).pause.brokenPhase = some 8
      ∧ (stopTaken (returning .turn) .hood).pause.brokenPhase = some 7
      ∧ (stopTaken (capturing .arming) .stop).capture.state = .none
      ∧ (let s := entered .exposing .triggered;
        let taken : State := { s with capture := { s.capture with receipt := Sides.both true } };
        let t := voidExposing taken .voidStop;
        t.capture.lastOutcome = .voidStop ∧ t.capture.receipt = Sides.both false ∧ t.lamps.holder = .free
          ∧ ((openVolume? t).map fun v => v.log.map Entry.body) =
            some [.capture
              { take := 1, sides := .both, frames := Sides.both (some 1), doses := Sides.both 0, durations := Sides.both 0
                banks := Banks.all false, flags := EntryFlags.empty, status := .void }])
      ∧ (pressLost (pressing .lowering)).capture.lastOutcome = .endedGlass
      ∧ (pressFailed (pressing .raised)).mech.glass.claim = false
      ∧ (let s := turning .reach .running; openSlot? { s with store := State.reset.store }.store.slots = none) := by
  decide +kernel

/-- A pause with a request deferred. -/
def deferring (d : Deferred) (s : State) : State := { s with pause := { s.pause with state := .paused, deferred := some d } }

/-- Section 8.9: the deferred capture is refused NO_LIGHT at RESUME, recorded and latched. -/
theorem witness_PauseRequests :
    refusedAll State.reset
        [ (.resume 1, .wrongState, 0), (.setAux 1 5 0 0 0 0 0 0 0, .badValue, 1), (.setAux 1 4 3 0 0 0 0 0 0, .badValue, 2),
          (.setAux 1 0 0 5 0 0 0 0 0, .badValue, 3), (.setAux 1 0 0 0 3 0 0 0 0, .badValue, 4),
          (.setAux 1 0 0 0 0 5 0 0 0, .badValue, 5), (.setAux 1 0 0 0 0 0 3 0 0, .badValue, 6),
          (.setAux 1 0 0 0 0 0 0 5 0, .badValue, 7), (.setAux 1 0 0 0 0 0 0 4 3, .badValue, 8) ]
      ∧ refusedAll (hooded (paused .paused State.reset)) [(.resume 1, .hoodOpen, 0)]
      ∧ refusedAll (paused .pausedBroken State.reset) [(.setAux 1 0 0 0 0 0 0 0 0, .wrongState, 0)]
      ∧ (after (.resume 1) (glassed .halted false (paused .paused State.reset))).mech.glass.state = .raising
      ∧ answer (.resume 1) (paused .paused State.reset) = some (taken [u 1 PauseState.paused.code, ou 1 none, .opt 2 none])
      ∧ (after (.resume 1) (deferring (.turn 1 0) (released volume 2))).turner.state = .lift
      ∧ (after (.resume 1) (deferring (.capture 1) (placed volume 2))).pause.lastDeferred = .refused .noLight
      ∧ answer (.resume 1) (deferring (.capture 1) (placed volume 2))
          = some (taken [u 1 PauseState.paused.code, ou 1 (some 0x30), .opt 2 (some (DeferredOutcome.refused .noLight).codes)])
      ∧ (after (.setAux 1 3 0 2 0 3 0 4 0) State.reset).pause.state = .paused
      ∧ (let s := after (.setAux 1 1 0 2 0 3 0 4 2) State.reset;
        (after (.readAux 1) (after (.auxEdge .aux3) (windowed .aux3 s))).pause.lines.aux3.edges = { count := 0, last := none })
      := by
  decide +kernel

/-! ## The Condition Summary -/

theorem witness_AttentionRaised :
    (latch State.reset (.linkGap 7)).summary.latches.link = some { detail := 2, arg := 7, repeated := false }
      ∧ (latch (latch State.reset (.linkGap 7)) (.linkBadCrc 3)).summary.latches.link
          = some { detail := 2, arg := 7, repeated := true }
      ∧ (latch State.reset (.linkGap 7)).link.attentionQueued = true
      ∧ (after (.status 1) { State.reset with summary := told }).summary.latches = Latches.empty
      ∧ refusedAll State.reset
          [ (.setAttention 1 512 0, .badValue, 1), (.setAttention 1 511 10, .badValue, 2), (.setAttention 1 255 9, .badValue, 2) ]
      ∧ answer (.setAttention 1 511 9) { State.reset with summary := { told with outstanding := false } }
          = some (taken [u 2 511, u 1 9, u 1 1])
      ∧ answer (.setAttention 1 255 8) { State.reset with summary := { told with outstanding := false } }
          = some (taken [u 2 255, u 1 8, u 1 0]) := by
  decide +kernel

/-! ## The invariants hold somewhere beyond the reset state -/

theorem witness_StepsKeepTheStore : StoreSound (opened { volume with marks := [mark 1, mark 3] }) := by
  refine ⟨?_, by decide, by decide⟩
  intro i v h
  cases i <;> simp [opened, stored, slots, Slots.get, Slot.volume?] at h
  subst h
  exact ⟨by decide, by simp [volume], by decide, by decide, by decide, by simp [volume], by decide, by decide⟩

theorem witness_StepsKeepTheTracker : TrackerSound (turning .carry .running) := by
  refine ⟨?_, rfl, by decide, by decide, ?_, ?_⟩
  · intro i v j w hi hj
    cases i <;> cases j <;> simp_all [turning, placed, opened, stored, slots, Slots.get]
  · intro n h
    cases h
    decide
  · intro _
    exact ⟨2, .forward, rfl, rfl, by decide, by decide⟩

theorem witness_StepsKeepTheLamps : LampsInRange lamps := by
  simp [LampsInRange, EachBank, InRange, OptInRange, lamps, Lamps.restarted, Banks.all, Sides.both, Config.reservoirFull,
    Config.hold16]

/-- The capture of `entered`, EXPOSING with both sides waiting, its next command the left camera's rise. -/
def exposing : State := { entered .exposing .triggered with pending := [.exposureActiveRise .left] }

theorem witness_StepsKeepTheAllowances :
    StoreSound exposing ∧ TrackerSound exposing ∧ LampsInRange exposing.lamps ∧ DoseSound exposing
      ∧ ∃ t, step exposing = .next t ∧ t.dose.captureSettle.isSome = true := by
  have only (i : SlotId) (v : Volume) (h : (exposing.store.slots.get i).volume? = some v) :
      v = { volume with log := [pendingEntry], captureCount := 1 } := by
    cases i <;> simp [exposing, entered, placed, opened, stored, slots, Slots.get, Slot.volume?] at h
    exact h.symm
  refine ⟨⟨fun i v h => ?_, by decide, by decide⟩, ⟨?_, rfl, by decide, by decide, ?_, ?_⟩,
    witness_StepsKeepTheLamps, ⟨fun i v h => ?_, ⟨?_, ?_⟩, ?_, ⟨?_, ?_, ?_⟩, ⟨?_, ?_⟩⟩, ⟨_, rfl, by decide +kernel⟩⟩
  · rw [only i v h]
    exact ⟨by decide, by simp [volume], by decide, by decide, by decide, by decide, by decide, by decide⟩
  · intro i v j w hi hj
    cases i <;> cases j <;> simp_all [exposing, entered, placed, opened, stored, slots, Slots.get]
  · intro n h
    cases h
    decide
  · intro h
    exact absurd rfl h.1
  · rw [only i v h]
    refine ⟨fun f => ?_, by decide⟩
    exact (by decide : FaceRec.zero.dose.total ≤ 600 * 1000)
  · intro c b h
    cases h
  · intro c h
    cases h
  · intro p h
    cases h
  · intro h
    cases h
  · intro _ side h
    cases side <;> cases h
  · intro side _
    cases side <;> exact ⟨rfl, rfl, rfl⟩
  · intro _
    refine ⟨rfl, ⟨2, .s0, _, rfl, by decide, rfl, by decide +kernel⟩, ?_⟩
    intro side h
    cases side <;> cases h
  · intro q h
    cases h

theorem witness_StepsKeepThePause :
    PauseSound (stopTaken (turning .carry .running) .stop).pause
      ∧ PauseSound (deferring (.capture 1) (stopTaken State.reset .stop)).pause := by
  unfold PauseSound
  decide +kernel

theorem witness_StepsKeepTheLink : LinkSound (loaded 3 4).link := by
  refine ⟨by decide, by decide, by decide, ?_⟩
  intro a h
  cases h

end Sys2Proof.Tests
end

-- ==== Proofs: writes in place ====
section
/-! What a command may make of the slots without opening, extending, closing, exporting or freeing one: records of OPEN
volumes rewritten in place, each within its widths. Said once for every operation, and used for both the store's and the
tracker's laws. -/

namespace Sys2Proof.Machine

open Sys2Proof.Config

/-! ## The law of a write in place -/

/-- A slot is left as it was, or an OPEN one has its record rewritten: the profile stays, and a sound record stays
sound. -/
inductive SlotInPlace : Slot → Slot → Prop
  | same (a : Slot) : SlotInPlace a a
  | rewritten {v w : Volume} (profile : w.profile = v.profile) (sound : VolumeSound v → VolumeSound w) :
      SlotInPlace (.opened v) (.opened w)

/-- Every slot is rewritten in place, and the log entries do not outgrow their pool (R21). -/
structure InPlace (q r : Slots) : Prop where
  slot : ∀ i, SlotInPlace (q.get i) (r.get i)
  pool : usedEntries q ≤ logPool → usedEntries r ≤ logPool

theorem SlotInPlace.trans {a b c : Slot} (h : SlotInPlace a b) (k : SlotInPlace b c) : SlotInPlace a c := by
  cases h with
  | same => exact k
  | rewritten hp hs =>
    cases k with
    | same => exact .rewritten hp hs
    | rewritten kp ks => exact .rewritten (kp.trans hp) (ks ∘ hs)

@[simp] theorem InPlace.refl (q : Slots) : InPlace q q := ⟨fun _ => .same _, id⟩

theorem InPlace.trans {q r t : Slots} (h : InPlace q r) (k : InPlace r t) : InPlace q t :=
  ⟨fun i => (h.slot i).trans (k.slot i), k.pool ∘ h.pool⟩

/-- A write to one OPEN slot is in place when the log grows into free entries only. -/
theorem InPlace.set {q : Slots} {i : SlotId} {v w : Volume} (hi : q.get i = .opened v) (hp : w.profile = v.profile)
    (hs : VolumeSound v → VolumeSound w) (hl : w.log.length ≤ v.log.length + (logPool - usedEntries q)) :
    InPlace q (q.set i (.opened w)) where
  slot j := by
    by_cases e : i = j
    · subst e; rw [hi, Slots.get_set_self]; exact .rewritten hp hs
    · rw [Slots.get_set, if_neg e]; exact .same _
  pool h := by
    have := usedEntries_set q i (.opened w)
    simp only [hi, Slot.entryCount, Slot.volume?] at this
    omega

/-- A write that keeps the profile, the number of log entries and the widths of any record it meets. -/
structure KeepsRecord (f : Volume → Volume) : Prop where
  profile : ∀ v, (f v).profile = v.profile
  entries : ∀ v, (f v).log.length = v.log.length
  sound : ∀ v, VolumeSound v → VolumeSound (f v)

@[simp] theorem onOpen_inPlace {q : Slots} {s : State} (h : InPlace q s.store.slots) {f : Volume → Volume}
    (hf : KeepsRecord f) : InPlace q (onOpen s f).store.slots := by
  unfold onOpen
  split
  case h_1 i v hv =>
    exact h.trans (.set (openSlot?_get hv) (hf.profile v) (hf.sound v) (by rw [hf.entries]; omega))
  case h_2 => exact h

@[simp] theorem onOpenSlot_inPlace {q : Slots} {s : State} (h : InPlace q s.store.slots) (i : SlotId)
    {f : Volume → Volume}
    (hf : KeepsRecord f) : InPlace q (onOpenSlot s i f).store.slots := by
  unfold onOpenSlot
  split
  case h_1 v hv => exact h.trans (.set hv (hf.profile v) (hf.sound v) (by rw [hf.entries]; omega))
  case h_2 => exact h

/-! ## Face records: what a write lists -/

/-- A bound that the all-zero record meets, and every listed record, is met by every record read. -/
theorem facesGet_of_forall {P : FaceRec → Prop} {fs : List (Nat × FaceRec)} (hz : P FaceRec.zero)
    (h : ∀ p ∈ fs, P p.2) (f : Nat) : P (facesGet fs f) := by
  induction fs with
  | nil => exact hz
  | cons p rest ih =>
    rw [facesGet]
    split
    · exact h _ List.mem_cons_self
    · exact ih fun p hp => h p (List.mem_cons_of_mem _ hp)

theorem mem_facesSet {fs : List (Nat × FaceRec)} {f : Nat} {r : FaceRec} {p : Nat × FaceRec}
    (h : p ∈ facesSet fs f r) : p ∈ fs ∨ p = (f, r) := by
  induction fs with
  | nil => unfold facesSet at h; split at h <;> simp_all
  | cons x rest ih =>
    obtain ⟨g, y⟩ := x
    unfold facesSet at h
    grind

/-- A bound on every listed record is kept by the write of a record that meets it. -/
theorem facesSet_forall {P : FaceRec → Prop} {fs : List (Nat × FaceRec)} (h : ∀ p ∈ fs, P p.2) (f : Nat) {r : FaceRec}
    (hr : P r) : ∀ p ∈ facesSet fs f r, P p.2 := by
  intro p hp
  rcases mem_facesSet hp with k | rfl
  · exact h p k
  · exact hr

/-! ## Records within their widths -/

/-- A face record within its widths (R22). -/
def RecordSound (r : FaceRec) : Prop := r.dose.rem < 1000 ∧ r.exposures ≤ hold16

theorem recordSound_facesGet {v : Volume} (h : VolumeSound v) (f : Nat) : RecordSound (facesGet v.faces f) := by
  obtain ⟨-, hrec, -⟩ := h
  exact facesGet_of_forall (P := RecordSound) ⟨by decide, by decide⟩ hrec f

/-- Two face records written, each within its widths, and the volume's dose keep the volume sound. -/
theorem accountWritten_sound {v : Volume} (h : VolumeSound v) (faces : Sides Nat) {a b : FaceRec} (ha : RecordSound a)
    (hb : RecordSound b) {d : Dose} (hd : d.rem < 1000) :
    VolumeSound { v with faces := facesSet (facesSet v.faces faces.left a) faces.right b, dose := d } := by
  obtain ⟨hwf, hrec, -, rest⟩ := h
  exact ⟨facesSet_wf (facesSet_wf hwf _ _) _ _,
    facesSet_forall (P := RecordSound) (facesSet_forall (P := RecordSound) hrec _ ha) _ hb, hd, rest⟩

theorem chargeVolume_sound {v : Volume} (h : VolumeSound v) (faces dose : Sides Nat) (own : Option Side) :
    VolumeSound (chargeVolume faces dose own v) := by
  have below (more : Nat) (d : Dose) : (d.add more).rem < 1000 := Nat.mod_lt _ (by decide)
  have counted (f : Nat) (side : Side) : (if own = some side then min ((facesGet v.faces f).exposures + 1) hold16
      else (facesGet v.faces f).exposures) ≤ hold16 := by
    obtain ⟨-, he⟩ := recordSound_facesGet h f
    split
    · exact Nat.min_le_right _ _
    · exact he
  exact accountWritten_sound h faces ⟨below _ _, counted _ _⟩ ⟨below _ _, counted _ _⟩ (below _ _)

theorem settleVolume_sound {v : Volume} (h : VolumeSound v) (faces totals : Sides Nat) (t : Nat) :
    VolumeSound (settleVolume faces totals t v) := by
  have below (total : Nat) : (Dose.ofTotal total).rem < 1000 := Nat.mod_lt _ (by decide)
  refine accountWritten_sound h faces ?_ ?_ (below _)
  · exact ⟨below _, (recordSound_facesGet h _).right⟩
  · exact ⟨below _, (recordSound_facesGet h _).right⟩

/-- A write to an entry's body leaves its timestamp. -/
@[simp] theorem onPending_timestamp (f : CaptureEntry → CaptureEntry) (e : Entry) :
    (e.onPending f).timestamp = e.timestamp := by
  unfold Entry.onPending; (repeat' split) <;> rfl

theorem newestTimestamp_le {v : Volume} (h : ∀ e ∈ v.log, e.timestamp ≤ hold32) : newestTimestamp v ≤ hold32 := by
  unfold newestTimestamp
  cases hl : v.log.getLast? with
  | none => exact Nat.zero_le _
  | some e => exact h e (List.mem_of_getLast? hl)

/-! ## The writes that keep a record -/

@[simp] theorem chargeVolume_keeps (faces dose : Sides Nat) (own : Option Side) :
    KeepsRecord (chargeVolume faces dose own) :=
  ⟨fun _ => rfl, fun _ => rfl, fun _ h => chargeVolume_sound h faces dose own⟩

@[simp] theorem settleVolume_keeps (faces totals : Sides Nat) (t : Nat) : KeepsRecord (settleVolume faces totals t) :=
  ⟨fun _ => rfl, fun _ => rfl, fun _ h => settleVolume_sound h faces totals t⟩

@[simp] theorem onPending_keeps (f : CaptureEntry → CaptureEntry) :
    KeepsRecord fun v => { v with log := v.log.map (Entry.onPending f) } where
  profile _ := rfl
  entries _ := by simp
  sound v h := by
    obtain ⟨hwf, hrec, hrem, hrestarts, hclock, hlog, hmarks⟩ := h
    exact ⟨hwf, hrec, hrem, hrestarts, hclock, by simpa using hlog, hmarks⟩

@[simp] theorem restartRecord_keeps : KeepsRecord restartRecord where
  profile _ := rfl
  entries _ := by simp [restartRecord]
  sound v h := by
    obtain ⟨hwf, hrec, hrem, -, -, hlog, hmarks⟩ := h
    exact ⟨hwf, hrec, hrem, Nat.min_le_right _ _, newestTimestamp_le hlog, by simpa [restartRecord] using hlog, hmarks⟩

@[simp] theorem clockTick_keeps : KeepsRecord clockTick where
  profile _ := rfl
  entries _ := rfl
  sound v h := by
    obtain ⟨hwf, hrec, hrem, hrestarts, -, hlog, hmarks⟩ := h
    exact ⟨hwf, hrec, hrem, hrestarts, Nat.min_le_right _ _, hlog, hmarks⟩

/-- A write to fields that no width concerns. -/
theorem keepsRecord_of_eq {f : Volume → Volume}
    (h : ∀ v, (f v).profile = v.profile ∧ (f v).log = v.log ∧ (f v).faces = v.faces ∧ (f v).dose = v.dose
      ∧ (f v).restartCount = v.restartCount ∧ (f v).clock = v.clock ∧ (f v).marks = v.marks) : KeepsRecord f where
  profile v := (h v).1
  entries v := by rw [(h v).2.1]
  sound v k := by
    obtain ⟨-, hlog, hfaces, hdose, hrestarts, hclock, hmarks⟩ := h v
    unfold VolumeSound
    rwa [hlog, hfaces, hdose, hrestarts, hclock, hmarks]

theorem placedBefore_keeps : KeepsRecord fun v => { v with placedBefore := true } :=
  keepsRecord_of_eq fun _ => ⟨rfl, rfl, rfl, rfl, rfl, rfl, rfl⟩

/-! ## Appends (R42) -/

theorem storeEntry_inPlace {q : Slots} {s : State} (h : InPlace q s.store.slots) (free : freeEntries s ≠ 0)
    (body : EntryBody) : InPlace q (storeEntry s body).store.slots := by
  unfold storeEntry onOpen
  split
  case h_1 i v hv =>
    refine h.trans (.set (openSlot?_get hv) rfl ?_ ?_)
    · rintro ⟨hwf, hrec, hrem, hrestarts, hclock, hlog, hmarks⟩
      refine ⟨hwf, hrec, hrem, hrestarts, hclock, fun e he => ?_, hmarks⟩
      rcases List.mem_append.mp he with k | k
      · exact hlog e k
      · rw [List.mem_singleton.mp k]; exact hclock
    · unfold freeEntries at free
      simp only [List.length_append, List.length_singleton]
      omega
  case h_2 => exact h

@[simp] theorem loseEntry_inPlace {q : Slots} {s : State} (h : InPlace q s.store.slots) (code : Nat) :
    InPlace q (loseEntry s code).store.slots := by
  simp only [loseEntry, latch_frame]
  exact onOpen_inPlace h (keepsRecord_of_eq fun _ => ⟨rfl, rfl, rfl, rfl, rfl, rfl, rfl⟩)

@[simp] theorem appendIncident_inPlace {q : Slots} {s : State} (h : InPlace q s.store.slots) (kind : IncidentKind)
    (detail second : Nat) : InPlace q (appendIncident s kind detail second).store.slots := by
  unfold appendIncident
  split
  · exact h
  · split
    · exact loseEntry_inPlace h _
    · next free =>
      simp only [latchLow_frame]
      exact onOpen_inPlace (storeEntry_inPlace h free _)
        (keepsRecord_of_eq fun _ => ⟨rfl, rfl, rfl, rfl, rfl, rfl, rfl⟩)

@[simp] theorem appendCapture_inPlace {q : Slots} {s : State} (h : InPlace q s.store.slots) (free : freeEntries s ≠ 0)
    (take : Nat) (sides : CaptureSides) : InPlace q (appendCapture s take sides).store.slots := by
  simp only [appendCapture, latchLow_frame]
  exact onOpen_inPlace (storeEntry_inPlace h free _)
    (keepsRecord_of_eq fun _ => ⟨rfl, rfl, rfl, rfl, rfl, rfl, rfl⟩)

section

variable {q : Slots} {s : State} (h : InPlace q s.store.slots)
include h

/-! ## The log and the doses -/

@[simp] theorem onPendingEntry_inPlace (f : CaptureEntry → CaptureEntry) :
    InPlace q (onPendingEntry s f).store.slots :=
  onOpen_inPlace h (onPending_keeps _)

@[simp] theorem setPendingStatus_inPlace (status : EntryStatus) :
    InPlace q (setPendingStatus s status).store.slots :=
  onOpen_inPlace h (onPending_keeps _)

@[simp] theorem logDoseLimit_inPlace (cause named : Nat) : InPlace q (logDoseLimit s cause named).store.slots := by
  unfold logDoseLimit; (repeat' split) <;> simp [h]

@[simp] theorem doseRefused_inPlace (named : Nat) : InPlace q (doseRefused s named).store.slots := by
  simp [h, doseRefused]

@[simp] theorem charge_inPlace (faces dose : Sides Nat) (own : Option Side) :
    InPlace q (charge s faces dose own).store.slots := by
  unfold charge; (repeat' split) <;> simp [h]

@[simp] theorem chargeStrobe_inPlace (side : Side) : InPlace q (chargeStrobe s side).store.slots := by
  unfold chargeStrobe; (repeat' split) <;> simp [h]

@[simp] theorem settleStrobe_inPlace (side : Side) (actual : Nat) :
    InPlace q (settleStrobe s side actual).store.slots := by
  unfold settleStrobe; (repeat' split) <;> simp [h]

@[simp] theorem chargePulse_inPlace (bound : BoundFaces) (b : Bank) :
    InPlace q (chargePulse s bound b).store.slots := by
  unfold chargePulse; (repeat' split) <;> simp [h]

@[simp] theorem settlePulse_inPlace (reading : Nat) : InPlace q (settlePulse s reading).store.slots := by
  unfold settlePulse; (repeat' split) <;> simp [h]

/-! ## The lamps and the arbiter -/

@[simp] theorem aimCut_inPlace (named : Nat) : InPlace q (aimCut s named).store.slots := by
  simp [h, aimCut]

@[simp] theorem aimStart_inPlace : InPlace q (aimStart s).store.slots := by
  unfold aimStart; dsimp only; (repeat' split) <;> simp [h]

@[simp] theorem aimRetest_inPlace : InPlace q (aimRetest s).store.slots := by
  unfold aimRetest; (repeat' split) <;> simp [h]

/-! ## Cradle Mechanics -/

@[simp] theorem logPlaten_inPlace (side : Side) : InPlace q (logPlaten s side).store.slots := by
  unfold logPlaten; (repeat' split) <;> simp [h]

@[simp] theorem computeTargets_inPlace (n : Nat) : InPlace q (computeTargets s n).store.slots := by
  unfold computeTargets; (repeat' split) <;> simp [h]

@[simp] theorem glassFault_inPlace (fault : GlassFault) : InPlace q (glassFault s fault).store.slots := by
  simp [h, glassFault]

/-! ## Grants -/

@[simp] theorem grantCheck_inPlace (c : Check) : InPlace q (grantCheck s c).store.slots := by
  unfold grantCheck; dsimp only; (repeat' split) <;> simp [h]

@[simp] theorem grantNext_inPlace : InPlace q (grantNext s).store.slots := by
  unfold grantNext; dsimp only; (repeat' split) <;> simp [h]

@[simp] theorem releaseLighting_inPlace : InPlace q (releaseLighting s).store.slots := by
  simp [h, releaseLighting]

@[simp] theorem withdrawLighting_inPlace : InPlace q (withdrawLighting s).store.slots := by
  unfold withdrawLighting; (repeat' split) <;> simp [h]

@[simp] theorem serveCounter_inPlace : InPlace q (serveCounter s).store.slots := by
  unfold serveCounter; dsimp only; (repeat' split) <;> simp [h]

/-! ## The press -/

@[simp] theorem captureEndArming_inPlace (outcome : CaptureOutcome) :
    InPlace q (captureEndArming s outcome).store.slots := by
  simp [h, captureEndArming]

@[simp] theorem pressFailed_inPlace : InPlace q (pressFailed s).store.slots := by
  unfold pressFailed; (repeat' split) <;> simp [h]

@[simp] theorem startLowering_inPlace : InPlace q (startLowering s).store.slots := by
  unfold startLowering; (repeat' split) <;> simp [h]

@[simp] theorem heldPressGo_inPlace : InPlace q (heldPressGo s).store.slots := by
  unfold heldPressGo; (repeat' split) <;> simp [h]

@[simp] theorem mechPump_inPlace : InPlace q (mechPump s).store.slots := by
  simp [h, mechPump]

@[simp] theorem pressRequest_inPlace : InPlace q (pressRequest s).store.slots := by
  unfold pressRequest; (repeat' split) <;> simp [h]

/-! ## Strobes and the end of a capture -/

@[simp] theorem endStrobe_inPlace (side : Side) (actual : Nat) (next : Progress) :
    InPlace q (endStrobe s side actual next).store.slots := by
  simp [h, endStrobe]

@[simp] theorem cutStrobe_inPlace (side : Side) : InPlace q (cutStrobe s side).store.slots := by
  unfold cutStrobe; (repeat' split) <;> simp [h]

@[simp] theorem writeResults_inPlace (status : EntryStatus) : InPlace q (writeResults s status).store.slots :=
  onOpen_inPlace h (onPending_keeps _)

@[simp] theorem finishVoid_inPlace (outcome : CaptureOutcome) : InPlace q (finishVoid s outcome).store.slots := by
  simp [h, finishVoid]

@[simp] theorem voidExposing_inPlace (outcome : CaptureOutcome) : InPlace q (voidExposing s outcome).store.slots := by
  have cut := cutStrobe_inPlace (cutStrobe_inPlace (s := markVoiding s) (by simpa using h) .left) .right
  simp [voidExposing, cut]

@[simp] theorem voidOrder_inPlace : InPlace q (voidOrder s).store.slots := by
  unfold voidOrder; (repeat' split) <;> simp [h]

@[simp] theorem pressLost_inPlace : InPlace q (pressLost s).store.slots := by
  unfold pressLost; (repeat' split) <;> simp [h]

@[simp] theorem releaseDecision_inPlace : InPlace q (releaseDecision s).store.slots := by
  unfold releaseDecision; (repeat' split) <;> simp [h]

@[simp] theorem exposureComplete_inPlace : InPlace q (exposureComplete s).store.slots := by
  have served := serveCounter_inPlace (writeResults_inPlace (s := closeSettle s) (by simpa using h) .pending)
  unfold exposureComplete; dsimp only; split <;> simp [served]

@[simp] theorem exposurePump_inPlace : InPlace q (exposurePump s).store.slots := by
  unfold exposurePump; (repeat' split) <;> simp [h]

@[simp] theorem acceptCapture_inPlace : InPlace q (acceptCapture s).store.slots := by
  simp [h, acceptCapture]

@[simp] theorem captureChange_inPlace : InPlace q (captureChange s).store.slots := by
  unfold captureChange; (repeat' split) <;> simp [h]

/-! ## Visits -/

@[simp] theorem endVisit_inPlace : InPlace q (endVisit s).store.slots := by
  simp [h, endVisit]

@[simp] theorem visitStart_inPlace (n : Nat) : InPlace q (visitStart s n).store.slots := by
  simp [h, visitStart]

@[simp] theorem leavePlaced_inPlace : InPlace q (leavePlaced s).store.slots := by
  simp [h, leavePlaced]

@[simp] theorem enterUncertain_inPlace (why : Condition) : InPlace q (enterUncertain s why).store.slots := by
  unfold enterUncertain; (repeat' split) <;> simp [h]

@[simp] theorem turnCompleted_inPlace : InPlace q (turnCompleted s).store.slots := by
  unfold turnCompleted; (repeat' split) <;> simp [h]

/-! ## The turner's phases -/

@[simp] theorem endReturn_inPlace : InPlace q (endReturn s).store.slots := by
  unfold endReturn; (repeat' split) <;> simp [h]

@[simp] theorem enterReturn_inPlace (purpose : Purpose) : InPlace q (enterReturn s purpose).store.slots := by
  unfold enterReturn; dsimp only; (repeat' split) <;> simp [h]

@[simp] theorem layPump_inPlace : InPlace q (layPump s).store.slots := by
  unfold layPump; (repeat' split) <;> simp [h]

@[simp] theorem attemptEnds_inPlace (kind : IncidentKind) (second : Nat) :
    InPlace q (attemptEnds s kind second).store.slots := by
  unfold attemptEnds; dsimp only; (repeat' split) <;> simp [h]

@[simp] theorem restoreEnds_inPlace : InPlace q (restoreEnds s).store.slots := by
  simp [h, restoreEnds]

@[simp] theorem turnerRaised_inPlace : InPlace q (turnerRaised s).store.slots := by
  unfold turnerRaised; (repeat' split) <;> simp [h]

@[simp] theorem turnerRaiseFailed_inPlace : InPlace q (turnerRaiseFailed s).store.slots := by
  unfold turnerRaiseFailed; (repeat' split) <;> simp [h]

@[simp] theorem turnerAsksRaise_inPlace (w : RaiseWaiter) : InPlace q (turnerAsksRaise s w).store.slots := by
  unfold turnerAsksRaise; (repeat' split) <;> simp [h]

/-! ## The glass -/

@[simp] theorem glassReached_inPlace : InPlace q (glassReached s).store.slots := by
  unfold glassReached; dsimp only
  refine layPump_inPlace (mechPump_inPlace ?_)
  split <;> simp [h]

@[simp] theorem raiseTimedOut_inPlace : InPlace q (raiseTimedOut s).store.slots := by
  have faulted (halted : Glass) :=
    glassFault_inPlace (s := setGlass s halted) (by simpa using h) (.timeout s.pins.force)
  unfold raiseTimedOut; dsimp only; (repeat' split) <;> simp [faulted]

@[simp] theorem lowerTimedOut_inPlace : InPlace q (lowerTimedOut s).store.slots := by
  simp [h, lowerTimedOut]

@[simp] theorem manualCompletes_inPlace : InPlace q (manualCompletes s).store.slots := by
  have noted := appendIncident_inPlace h .manualTurn (s.turner.direction.getD .forward).code (s.turner.leaf.getD 0)
  unfold manualCompletes; dsimp only; split <;> simp [noted]

/-! ## Requests of the tracker and the turner -/

@[simp] theorem logReseat_inPlace (n : Nat) : InPlace q (logReseat s n).store.slots := by
  unfold logReseat; (repeat' split) <;> simp [h]

@[simp] theorem placeAt_inPlace (n : Nat) : InPlace q (placeAt s n).store.slots := by
  have visit := visitStart_inPlace (onOpen_inPlace (logReseat_inPlace h n) placedBefore_keeps) n
  unfold placeAt; dsimp only; split <;> simp [visit]

@[simp] theorem takePlace_inPlace (n : Nat) : InPlace q (takePlace n s).1.store.slots := by
  unfold takePlace; (repeat' split) <;> simp [h]

@[simp] theorem startTurn_inPlace (v : Volume) (d : Direction) (manualFlag : Bool) :
    InPlace q (startTurn s v d manualFlag).1.store.slots := by
  unfold startTurn; (repeat' split) <;> simp [h]

@[simp] theorem turnArrives_inPlace (direction flags : Nat) :
    InPlace q (turnArrives direction flags s).1.store.slots := by
  unfold turnArrives; dsimp only; (repeat' split) <;> simp [h]

@[simp] theorem takeTurn_inPlace (direction flags : Nat) : InPlace q (takeTurn direction flags s).1.store.slots := by
  simp [h, takeTurn]

@[simp] theorem takePark_inPlace : InPlace q (takePark s).1.store.slots := by
  unfold takePark; (repeat' split) <;> simp [h]

@[simp] theorem takeManualDone_inPlace (direction : Nat) : InPlace q (takeManualDone direction s).1.store.slots := by
  unfold takeManualDone; (repeat' split) <;> simp [h]

@[simp] theorem turnTimedOut_inPlace : InPlace q (turnTimedOut s).store.slots := by
  unfold turnTimedOut; (repeat' split) <;> simp [h]

@[simp] theorem takeSetAngle_inPlace (angle : Nat) : InPlace q (takeSetAngle angle s).1.store.slots := by
  unfold takeSetAngle; (repeat' split) <;> simp [h]

/-! ## The glass sensors -/

@[simp] theorem overforce_inPlace (force : Nat) : InPlace q (overforce s force).store.slots := by
  unfold overforce; dsimp only; (repeat' split) <;> simp [h]

@[simp] theorem readForce_inPlace (force : Nat) (p : PressTarget) : InPlace q (readForce s force p).store.slots := by
  unfold readForce; (repeat' split) <;> simp [h]

/-! ## Requests of the lamps -/

@[simp] theorem takeLampsOn_inPlace : InPlace q (takeLampsOn s).1.store.slots := by
  unfold takeLampsOn; (repeat' split) <;> simp [h]

@[simp] theorem takeLampsOff_inPlace : InPlace q (takeLampsOff s).1.store.slots := by
  unfold takeLampsOff; (repeat' split) <;> simp [h]

@[simp] theorem takeSetLighting_inPlace (drives : Banks Nat) (times : Sides Nat) (spill : Nat) :
    InPlace q (takeSetLighting drives times spill s).1.store.slots := by
  unfold takeSetLighting; (repeat' split) <;> simp [h]

@[simp] theorem takeSetAiming_inPlace (level rest : Nat) : InPlace q (takeSetAiming level rest s).1.store.slots := by
  unfold takeSetAiming; (repeat' split) <;> simp [h]

@[simp] theorem takeSetIdle_inPlace (rest dark supply settle : Nat) :
    InPlace q (takeSetIdle rest dark supply settle s).1.store.slots := by
  unfold takeSetIdle; (repeat' split) <;> simp [h]

@[simp] theorem takeReferenceCheck_inPlace (banks : Nat) : InPlace q (takeReferenceCheck banks s).1.store.slots := by
  unfold takeReferenceCheck; dsimp only; (repeat' split) <;> simp [h]

/-! ## Exposures and pulses -/

@[simp] theorem lightingReady_inPlace : InPlace q (lightingReady s).store.slots := by
  unfold lightingReady
  split
  · split
    · simp [h]
    · split
      · next free =>
        simp only [captureAppendable, Bool.and_eq_true, bne_iff_ne, ne_eq] at free
        exact appendCapture_inPlace h free.right _ _
      · simp [h]
  · exact h

@[simp] theorem pulseStart_inPlace (c : Check) (b : Bank) : InPlace q (pulseStart s c b).store.slots := by
  unfold pulseStart; (repeat' split) <;> simp [h]

@[simp] theorem endCheck_inPlace (c : Check) (outcome : CheckOutcome) :
    InPlace q (endCheck s c outcome).store.slots := by
  simp [h, endCheck]

@[simp] theorem checkGoesOn_inPlace (c : Check) : InPlace q (checkGoesOn s c).store.slots := by
  unfold checkGoesOn; (repeat' split) <;> simp [h]

@[simp] theorem verdictReport_inPlace (b : Bank) (r : Nat) (v : Verdict) :
    InPlace q (verdictReport s b r v).store.slots := by
  cases v <;> simp [h, verdictReport]

@[simp] theorem pulseEnd_inPlace (c : Check) (b : Bank) (rest : List Bank) (r : Nat) :
    InPlace q (pulseEnd s c b rest r).store.slots := by
  have read := settlePulse_inPlace
    (s := setLamps s { s.lamps with lastReading := s.lamps.lastReading.set b (some r) }) (by simpa using h) r
  simp [pulseEnd, read]

/-! ## Captures -/

@[simp] theorem startCapture_inPlace (v : Volume) (n : Nat) (sides : CaptureSides) (manual : Bool) :
    InPlace q (startCapture s v n sides manual).1.store.slots := by
  simp [h, startCapture]

@[simp] theorem captureArrives_inPlace (code : Nat) (manual : Bool) :
    InPlace q (captureArrives code manual s).1.store.slots := by
  unfold captureArrives; dsimp only; (repeat' split) <;> simp [h]

@[simp] theorem takeCapture_inPlace (code : Nat) : InPlace q (takeCapture code s).1.store.slots := by
  simp [h, takeCapture]

@[simp] theorem takeReceipt_inPlace (side : Side) : InPlace q (takeReceipt s side).store.slots := by
  unfold takeReceipt; dsimp only; (repeat' split) <;> simp [h]

@[simp] theorem takeFrameReceived_inPlace (camera number : Nat) :
    InPlace q (takeFrameReceived camera number s).1.store.slots := by
  unfold takeFrameReceived; dsimp only; (repeat' split) <;> simp [h]

@[simp] theorem takeAccept_inPlace : InPlace q (takeAccept s).1.store.slots := by
  unfold takeAccept; (repeat' split) <;> simp [h]

@[simp] theorem rejectCapture_inPlace : InPlace q (rejectCapture s).store.slots := by
  simp [h, rejectCapture]

@[simp] theorem takeReject_inPlace : InPlace q (takeReject s).1.store.slots := by
  unfold takeReject; (repeat' split) <;> simp [h]

@[simp] theorem startStrobe_inPlace (side : Side) : InPlace q (startStrobe s side).store.slots := by
  simp [h, startStrobe]

@[simp] theorem takeRise_inPlace (side : Side) : InPlace q (takeRise s side).store.slots := by
  unfold takeRise; (repeat' split) <;> simp [h]

@[simp] theorem strayFrame_inPlace (side : Side) : InPlace q (strayFrame s side).store.slots := by
  simp [h, strayFrame]

@[simp] theorem takeFall_inPlace (side : Side) : InPlace q (takeFall s side).store.slots := by
  unfold takeFall; (repeat' split) <;> simp [h]

@[simp] theorem cameraExpires_inPlace (side : Side) : InPlace q (cameraExpires s side).store.slots := by
  simp [h, cameraExpires]

/-! ## Stops, the pedal and RESUME -/

@[simp] theorem breakPause_inPlace (cause : PauseCause) (phase : Nat) :
    InPlace q (breakPause s cause phase).store.slots := by
  unfold breakPause; (repeat' split) <;> simp [h]

@[simp] theorem stopTaken_inPlace (cause : PauseCause) : InPlace q (stopTaken s cause).store.slots := by
  unfold stopTaken; dsimp only; (repeat' split) <;> simp [h]

@[simp] theorem hoodEndsCheck_inPlace : InPlace q (hoodEndsCheck s).store.slots := by
  unfold hoodEndsCheck; dsimp only; (repeat' split) <;> simp [h]

@[simp] theorem judgeHood_inPlace : InPlace q (judgeHood s).store.slots := by
  unfold judgeHood; dsimp only; (repeat' split) <;> simp [h]

@[simp] theorem pedalCaptures_inPlace : InPlace q (pedalCaptures s).store.slots := by
  unfold pedalCaptures; dsimp only; (repeat' split) <;> simp [h]

@[simp] theorem pedalPress_inPlace : InPlace q (pedalPress s).store.slots := by
  unfold pedalPress; (repeat' split) <;> simp [h]

@[simp] theorem startDeferred_inPlace (d : Deferred) : InPlace q (startDeferred s d).1.store.slots := by
  unfold startDeferred; (repeat' split) <;> simp [h]

@[simp] theorem resumeTaken_inPlace : InPlace q (resumeTaken s).store.slots := by
  unfold resumeTaken; split <;> simp [h]

@[simp] theorem takeResume_inPlace : InPlace q (takeResume s).1.store.slots := by
  unfold takeResume; (repeat' split) <;> simp [h]

@[simp] theorem takeSetAux_inPlace (funcs edges : Lines Nat) : InPlace q (takeSetAux funcs edges s).1.store.slots := by
  unfold takeSetAux; (repeat' split) <;> simp [h]

@[simp] theorem edgeActs_inPlace (line : AuxLine) (edge : EdgeKind) :
    InPlace q (edgeActs s line edge).store.slots := by
  unfold edgeActs; dsimp only; (repeat' split) <;> simp [h]

/-! ## Restarts -/

@[simp] theorem restartVolume_inPlace (slot : SlotId) (cause : RestartCause) :
    InPlace q (restartVolume s slot cause).store.slots := by
  simp [h, restartVolume]

end

end Sys2Proof.Machine
end

-- ==== Proofs: requests and events ====
section
/-! What the commands do to the slots: the request of each command as the function its block runs, the arrival of a
request from a law's point of view, and the commands that write in place only. -/

namespace Sys2Proof.Machine

open Sys2Proof.Config

/-! ## Marks (R7 to R9) -/

theorem mem_marksInsert {marks : List Mark} {m x : Mark} (sorted : marks.Pairwise fun a b => a.leaf < b.leaf) :
    x ∈ marksInsert marks m ↔ (x.leaf ≠ m.leaf ∧ x ∈ marks) ∨ x = m := by
  induction marks with
  | nil => simp [marksInsert]
  | cons y rest ih =>
    obtain ⟨above, sorted⟩ := List.pairwise_cons.mp sorted
    unfold marksInsert
    split
    · grind
    · split
      · grind
      · grind

theorem marksInsert_sorted {marks : List Mark} (m : Mark) (sorted : marks.Pairwise fun a b => a.leaf < b.leaf) :
    (marksInsert marks m).Pairwise fun a b => a.leaf < b.leaf := by
  induction marks with
  | nil => simp [marksInsert]
  | cons y rest ih =>
    obtain ⟨above, rising⟩ := List.pairwise_cons.mp sorted
    unfold marksInsert
    split
    · refine List.pairwise_cons.mpr ⟨fun x hx => ?_, sorted⟩
      rcases List.mem_cons.mp hx with rfl | k
      · assumption
      · have := above x k; omega
    · split
      · exact List.pairwise_cons.mpr ⟨fun x hx => by have := above x hx; omega, rising⟩
      · refine List.pairwise_cons.mpr ⟨fun x hx => ?_, ih rising⟩
        rcases (mem_marksInsert rising).mp hx with ⟨-, k⟩ | rfl
        · exact above x k
        · omega

/-- A mark set on a leaf without a record adds one record, and on a leaf with one replaces it. -/
theorem marksInsert_length {marks : List Mark} (m : Mark) (sorted : marks.Pairwise fun a b => a.leaf < b.leaf) :
    (marksInsert marks m).length = if marks.any (fun x => x.leaf = m.leaf) then marks.length else marks.length + 1 := by
  induction marks with
  | nil => rfl
  | cons y rest ih =>
    obtain ⟨above, rising⟩ := List.pairwise_cons.mp sorted
    have := ih rising
    unfold marksInsert
    split
    · grind
    · split
      · grind
      · grind

theorem takeSetMark_inPlace {q : Slots} {s : State} (h : InPlace q s.store.slots) (leaf kinds : Nat) :
    InPlace q (takeSetMark leaf kinds s).1.store.slots := by
  unfold takeSetMark
  split
  · exact h
  · next v hv =>
    obtain ⟨⟨i, w⟩, hw, rfl⟩ := Option.map_eq_some_iff.mp hv
    split
    · exact h
    · split
      · exact h
      · split
        · exact h
        · next k _ room =>
          simp only [onOpen_eq hw]
          refine h.trans (.set (openSlot?_get hw) rfl ?_ (Nat.le_add_right _ _))
          rintro ⟨hwf, hrec, hrem, hrestarts, hclock, hlog, hcount, hmarks⟩
          refine ⟨hwf, hrec, hrem, hrestarts, hclock, hlog, ?_, marksInsert_sorted _ hmarks⟩
          have := marksInsert_length { leaf := leaf, kinds := k } hmarks
          grind

theorem takeClearMark_inPlace {q : Slots} {s : State} (h : InPlace q s.store.slots) (leaf : Nat) :
    InPlace q (takeClearMark leaf s).1.store.slots := by
  unfold takeClearMark
  split
  · exact h
  · next v hv =>
    obtain ⟨⟨i, w⟩, hw, rfl⟩ := Option.map_eq_some_iff.mp hv
    split
    · exact h
    · simp only [onOpen_eq hw]
      refine h.trans (.set (openSlot?_get hw) rfl ?_ (Nat.le_add_right _ _))
      rintro ⟨hwf, hrec, hrem, hrestarts, hclock, hlog, hcount, hmarks⟩
      exact ⟨hwf, hrec, hrem, hrestarts, hclock, hlog, (List.length_filter_le _ _).trans hcount, hmarks.filter _⟩

@[simp] theorem restart_inPlace {q : Slots} {s : State} (h : InPlace q s.store.slots) (cause : RestartCause)
    (rate : Nat) : InPlace q (restart s cause rate).store.slots := by
  have up : InPlace q (blocksRestarted s cause rate).store.slots := h
  unfold restart; dsimp only; split <;> simp [up]

@[simp] theorem tick_slots (s : State) : (tick s).store.slots = s.store.slots := rfl

/-! ## The requests as the functions their blocks run -/

end Sys2Proof.Machine

namespace Sys2Proof

open Machine

/-- What the block that owns a request does with it; none for an event of the part, and for a CLEAR_STORE that a restart
cuts off. -/
def Instr.take? : Instr → Option (State → State × Answer)
  | .openVolume _ profile => some (takeOpenVolume profile)
  | .extendVolume _ count => some (takeExtendVolume count)
  | .closeVolume _ => some takeCloseVolume
  | .exportVolume _ slot => some (takeExportVolume slot)
  | .discardVolume _ slot => some (takeDiscardVolume slot)
  | .clearStore { cut := none, .. } => some takeClearStore
  | .listVolumes _ => some takeListVolumes
  | .readFaces _ slot first count => some (takeReadFaces slot first count)
  | .setMark _ leaf kinds => some (takeSetMark leaf kinds)
  | .clearMark _ leaf => some (takeClearMark leaf)
  | .place _ opening => some (takePlace opening)
  | .readOpening _ => some takeReadOpening
  | .turn _ direction flags => some (takeTurn direction flags)
  | .park _ => some takePark
  | .manualDone _ direction => some (takeManualDone direction)
  | .cancelTurn _ => some takeCancelTurn
  | .setTurner _ reach lift carry lay ret limit => some (takeSetTurner reach lift carry lay ret limit)
  | .readTurner _ => some takeReadTurner
  | .setGlass _ force => some (takeSetGlass force)
  | .raiseGlass _ => some takeRaiseGlass
  | .setAngle _ angle => some (takeSetAngle angle)
  | .readMechanics _ => some takeReadMechanics
  | .lampsOn _ => some takeLampsOn
  | .lampsOff _ => some takeLampsOff
  | .setLighting _ driveLA driveLB driveRA driveRB timeL timeR spill =>
    some (takeSetLighting { la := driveLA, lb := driveLB, ra := driveRA, rb := driveRB }
      { left := timeL, right := timeR } spill)
  | .setAiming _ level rest => some (takeSetAiming level rest)
  | .setIdle _ rest dark supply settle => some (takeSetIdle rest dark supply settle)
  | .referenceCheck _ banks => some (takeReferenceCheck banks)
  | .setChecks _ interval rotation tolerance failLimit => some (takeSetChecks interval rotation tolerance failLimit)
  | .readLamps _ => some takeReadLamps
  | .capture _ sides => some (takeCapture sides)
  | .frameReceived _ camera number => some (takeFrameReceived camera number)
  | .accept _ => some takeAccept
  | .reject _ => some takeReject
  | .setCapture _ mode timeout delayL delayR pedal => some (takeSetCapture mode timeout delayL delayR pedal)
  | .readCapture _ => some takeReadCapture
  | .resume _ => some takeResume
  | .setAux _ func0 edge0 func1 edge1 func2 edge2 func3 edge3 =>
    some (takeSetAux { aux0 := func0, aux1 := func1, aux2 := func2, aux3 := func3 }
      { aux0 := edge0, aux1 := edge1, aux2 := edge2, aux3 := edge3 })
  | .readAux _ => some takeReadAux
  | .status _ => some takeStatus
  | .setAttention _ mask elevated => some (takeSetAttention mask elevated)
  | .identify _ => some takeIdentify
  | .resetRequest _ => some takeReset
  | _ => none

end Sys2Proof

namespace Sys2Proof.Machine

open Sys2Proof.Config

/-- A request command is the arrival of its request. -/
theorem exec_of_take {i : Instr} {take : State → State × Answer} (h : i.take? = some take) :
    ∃ kind tag, ∀ s, exec i s = .next (arrive s kind tag take) := by
  unfold Instr.take? at h
  split at h
  case h_44 => exact absurd h nofun
  all_goals
    cases h
    exact ⟨_, _, fun _ => rfl⟩

/-- A frame in the hands of the Link Port is one of the requests, or it is refused. -/
theorem takeFrame_cases (kind : Nat) (p : List Byte) (s : State) :
    (∃ i take, Instr.take? i = some take ∧ takeFrame kind p s = take s)
      ∨ ∃ reason, takeFrame kind p s = refuse s reason 0 := by
  unfold takeFrame
  split
  · exact .inr ⟨_, rfl⟩
  · split
    · unfold takeKind
      split
      · exact .inl ⟨.openVolume 0 _, _, rfl, rfl⟩
      · exact .inl ⟨.extendVolume 0 _, _, rfl, rfl⟩
      · exact .inl ⟨.closeVolume 0, _, rfl, rfl⟩
      · exact .inl ⟨.exportVolume 0 _, _, rfl, rfl⟩
      · exact .inl ⟨.discardVolume 0 _, _, rfl, rfl⟩
      · exact .inl ⟨.clearStore ⟨0, none⟩, _, rfl, rfl⟩
      · exact .inl ⟨.listVolumes 0, _, rfl, rfl⟩
      · exact .inl ⟨.readFaces 0 _ _ _, _, rfl, rfl⟩
      · exact .inl ⟨.setMark 0 _ _, _, rfl, rfl⟩
      · exact .inl ⟨.clearMark 0 _, _, rfl, rfl⟩
      · exact .inl ⟨.place 0 _, _, rfl, rfl⟩
      · exact .inl ⟨.readOpening 0, _, rfl, rfl⟩
      · exact .inl ⟨.turn 0 _ _, _, rfl, rfl⟩
      · exact .inl ⟨.park 0, _, rfl, rfl⟩
      · exact .inl ⟨.manualDone 0 _, _, rfl, rfl⟩
      · exact .inl ⟨.cancelTurn 0, _, rfl, rfl⟩
      · exact .inl ⟨.setTurner 0 _ _ _ _ _ _, _, rfl, rfl⟩
      · exact .inl ⟨.readTurner 0, _, rfl, rfl⟩
      · exact .inl ⟨.setGlass 0 _, _, rfl, rfl⟩
      · exact .inl ⟨.raiseGlass 0, _, rfl, rfl⟩
      · exact .inl ⟨.setAngle 0 _, _, rfl, rfl⟩
      · exact .inl ⟨.readMechanics 0, _, rfl, rfl⟩
      · exact .inl ⟨.lampsOn 0, _, rfl, rfl⟩
      · exact .inl ⟨.lampsOff 0, _, rfl, rfl⟩
      · exact .inl ⟨.setLighting 0 _ _ _ _ _ _ _, _, rfl, rfl⟩
      · exact .inl ⟨.setAiming 0 _ _, _, rfl, rfl⟩
      · exact .inl ⟨.setIdle 0 _ _ _ _, _, rfl, rfl⟩
      · exact .inl ⟨.referenceCheck 0 _, _, rfl, rfl⟩
      · exact .inl ⟨.setChecks 0 _ _ _ _, _, rfl, rfl⟩
      · exact .inl ⟨.readLamps 0, _, rfl, rfl⟩
      · exact .inl ⟨.capture 0 _, _, rfl, rfl⟩
      · exact .inl ⟨.frameReceived 0 _ _, _, rfl, rfl⟩
      · exact .inl ⟨.accept 0, _, rfl, rfl⟩
      · exact .inl ⟨.reject 0, _, rfl, rfl⟩
      · exact .inl ⟨.setCapture 0 _ _ _ _ _, _, rfl, rfl⟩
      · exact .inl ⟨.readCapture 0, _, rfl, rfl⟩
      · exact .inl ⟨.resume 0, _, rfl, rfl⟩
      · exact .inl ⟨.setAux 0 _ _ _ _ _ _ _ _, _, rfl, rfl⟩
      · exact .inl ⟨.readAux 0, _, rfl, rfl⟩
      · exact .inl ⟨.status 0, _, rfl, rfl⟩
      · exact .inl ⟨.setAttention 0 _ _, _, rfl, rfl⟩
      · exact .inl ⟨.identify 0, _, rfl, rfl⟩
      · exact .inl ⟨.resetRequest 0, _, rfl, rfl⟩
      · exact .inr ⟨_, rfl⟩
    · exact .inr ⟨_, rfl⟩

/-! ## The events -/

/-- The events that only write in place: all but a cut CLEAR_STORE, a received byte and the end of a frame. -/
theorem event_inPlace {i : Instr} {s t : State} (hi : i.take? = none) (hclear : ∀ run, i ≠ .clearStore run)
    (hbyte : ∀ b, i ≠ .byteReceived b) (hsent : i ≠ .frameSent) (hx : exec i s = .next t) :
    InPlace s.store.slots t.store.slots := by
  cases i
  case clearStore run => exact absurd rfl (hclear run)
  case byteReceived b => exact absurd rfl (hbyte b)
  case frameSent => exact absurd rfl hsent
  case platenSettled side position =>
    obtain rfl := Host.Outcome.next.inj hx
    have moved := mechPump_inPlace
      (s := { s with pins := { s.pins with position := s.pins.position.set side position } })
      (.refl s.store.slots)
    simp [moved]
  case strobeEnd side =>
    obtain rfl := Host.Outcome.next.inj hx
    have ended := endStrobe_inPlace (.refl s.store.slots) side (s.lamps.duration.get side) .awaitFall
    split <;> simp [ended]
  case gap | powerOn | resetLine | auxLevelChange | auxEdge | homeSensor | farEndSensor | holdSensor | cupEmptySensor
      | separationTime | restoreDescentEnd | restoreReleaseWait | liftTimeout | turnTimeout | angleSettled
      | glassForceReading | raisedStopSensor | glassMoveTimeout | supplySettled | idleStageExpiry | lightingGrant
      | lightingReady | referencePulseStart | referencePulseEnd | aimingInterval | exposureActiveRise
      | strobeDelayExpiry | exposureActiveFall | cameraTimeout | volumeClockTick =>
    obtain rfl := Host.Outcome.next.inj hx
    (repeat' split) <;> simp [powerOn, resetLine]
  all_goals exact absurd hi nofun

/-! ## Laws that the Link Port does not concern -/

/-- A law of the store, the tracker and the turner alone. -/
def CoreLaw (P : State → Prop) : Prop :=
  ∀ s t : State, t.store.slots = s.store.slots → t.tracker = s.tracker → t.turner = s.turner → P s → P t

/-- A request keeps a law that its block keeps. -/
theorem arrive_keeps {P : State → Prop} (hP : CoreLaw P) {s : State} (h : P s) (kind tag : Nat)
    {take : State → State × Answer} (ht : ∀ u, P u → P (take u).1) : P (arrive s kind tag take) := by
  unfold arrive
  dsimp only
  split
  · exact h
  · split
    · exact hP (take (enqueue s kind tag)).1 _ (by simp) (by simp) (by simp) (ht _ (hP s _ rfl rfl rfl h))
    · split
      · exact hP s _ (by simp) (by simp) (by simp) h
      · exact h

/-- A law that every request keeps is kept by a byte of the receive side. -/
theorem receive_keeps {P : State → Prop} (hP : CoreLaw P)
    (ht : ∀ i take, Instr.take? i = some take → ∀ u, P u → P (take u).1) {s : State} (h : P s) (b : Byte) :
    P (receive s b) := by
  have frame (kind : Nat) (p : List Byte) (u : State) (hu : P u) : P (takeFrame kind p u).1 := by
    rcases takeFrame_cases kind p u with ⟨i, take, hi, e⟩ | ⟨reason, e⟩
    · rw [e]; exact ht i take hi u hu
    · rw [e]; exact hu
  have error (why : Condition) : P (receiveError s why) := hP s _ (by simp) (by simp) (by simp) h
  have moved (f : Framer) : P (setFramer s f) := hP s _ rfl rfl rfl h
  unfold receive
  split
  case h_1 => split; exacts [moved _, h]
  case h_3 => split; exacts [error _, moved _]
  case h_6 => split <;> exact moved _
  case h_8 => -- the last check byte
    unfold frameReceived
    split
    · exact arrive_keeps hP (moved _) _ _ (frame _ _)
    · exact error _
  all_goals exact moved _

/-- The commands that are left to a law of the store, the tracker and the turner once the Link Port's part is told. -/
structure KeptByCommands (P : State → Prop) : Prop where
  core : CoreLaw P
  take : ∀ i take, Instr.take? i = some take → ∀ s, P s → P (take s).1
  restart : ∀ s cause rate, P s → P (restart s cause rate)
  clearCut : ∀ s writes, P s → P (clearCut s writes)
  endStream : ∀ s t, P s → P (endStream s t)
  event : ∀ i s t, i.take? = none → (∀ run, i ≠ .clearStore run) → (∀ b, i ≠ .byteReceived b) → i ≠ .frameSent →
    (∀ pins, i ≠ .powerOn pins) → (∀ pins, i ≠ .resetLine pins) → exec i s = .next t → P s → P t

section

variable {P : State → Prop} (hP : KeptByCommands P)
include hP

theorem KeptByCommands.powerOn {s : State} (h : P s) (pins : Pins) : P (powerOn s pins) :=
  hP.restart { s with pins := pins } _ _ (hP.core s _ rfl rfl rfl h)

theorem KeptByCommands.resetLine {s : State} (h : P s) (pins : Pins) : P (resetLine s pins) :=
  hP.restart { s with pins := pins } _ _ (hP.core s _ rfl rfl rfl h)

theorem KeptByCommands.frameSent {s t : State} (h : P s) (hx : exec .frameSent s = .next t) : P t := by
  have same (u : State) (hu : u.store.slots = s.store.slots) (ht : u.tracker = s.tracker) (hr : u.turner = s.turner) :
      P u := hP.core s u hu ht hr h
  obtain rfl := Host.Outcome.next.inj hx
  split
  · exact h
  · split
    · split
      · unfold replySent
        dsimp only
        split
        · exact hP.restart _ _ _ (same _ (by simp) (by simp) (by simp))
        · split <;> exact same _ (by simp) (by simp) (by simp)
      · exact same _ (by simp) (by simp) (by simp)
    · exact same _ (by simp) (by simp) (by simp)
    · unfold chunkSent
      dsimp only
      split
      · exact same _ (by simp) (by simp) (by simp)
      · next t _ =>
        split
        · have ended := hP.endStream { s with link := { s.link with sending := none } } t (same _ rfl rfl rfl)
          refine hP.core _ _ ?_ ?_ ?_ ended <;> simp
        · exact same _ (by simp) (by simp) (by simp)

theorem KeptByCommands.exec {i : Instr} {s t : State} (h : P s) (hx : exec i s = .next t) : P t := by
  rcases hi : i.take? with _ | take
  · obtain rfl | hsent := eq_or_ne i .frameSent
    · exact hP.frameSent h hx
    obtain ⟨b, rfl⟩ | hbyte := em (∃ b, i = .byteReceived b)
    · obtain rfl := Host.Outcome.next.inj hx
      exact receive_keeps hP.core hP.take h b
    obtain ⟨pins, rfl⟩ | hpower := em (∃ pins, i = .powerOn pins)
    · obtain rfl := Host.Outcome.next.inj hx
      exact hP.powerOn h pins
    obtain ⟨pins, rfl⟩ | hreset := em (∃ pins, i = .resetLine pins)
    · obtain rfl := Host.Outcome.next.inj hx
      exact hP.resetLine h pins
    obtain ⟨run, rfl⟩ | hclear := em (∃ run, i = .clearStore run)
    · obtain rfl := Host.Outcome.next.inj hx
      split
      · exact arrive_keeps hP.core h _ _ (hP.take (.clearStore ⟨0, none⟩) takeClearStore rfl)
      · split
        · exact hP.powerOn (hP.clearCut _ _ h) _
        · exact hP.resetLine (hP.clearCut _ _ h) _
    exact hP.event i s t hi (not_exists.mp hclear) (not_exists.mp hbyte) hsent (not_exists.mp hpower)
      (not_exists.mp hreset) hx h
  · obtain ⟨kind, tag, e⟩ := exec_of_take hi
    obtain rfl := Host.Outcome.next.inj ((e s).symm.trans hx)
    exact arrive_keeps hP.core h kind tag (hP.take i take hi)

theorem KeptByCommands.step {s t : State} (h : P s) (hx : step s = .next t) : P t := by
  unfold Machine.step at hx
  split at hx
  · next rest _ => exact hP.exec (hP.core s { s with pending := rest } rfl rfl rfl h) hx
  · obtain rfl := Host.Outcome.next.inj hx
    exact hP.core s _ rfl rfl rfl h

end

end Sys2Proof.Machine
end

-- ==== Proofs: the store's law ====
section
/-! StepsKeepTheStore: the commands that open, extend, close or free a slot, or end its stream, one lemma for each;
every other command writes in place. -/

namespace Sys2Proof.Machine

open Sys2Proof.Config

/-! ## What keeps the store sound -/

theorem storeSound_coreLaw : CoreLaw StoreSound := by
  intro s t hslots _ _ h
  unfold StoreSound
  rw [hslots]
  exact h

theorem SlotInPlace.faceCount_eq {a b : Slot} (h : SlotInPlace a b) : b.faceCount = a.faceCount := by
  cases h with
  | same => rfl
  | rewritten hp => simp [Slot.faceCount, Slot.volume?, hp]

theorem InPlace.usedFaces_eq {q r : Slots} (h : InPlace q r) : usedFaces r = usedFaces q := by
  have face (i : SlotId) := (h.slot i).faceCount_eq
  unfold usedFaces
  have h0 := face .s0; have h1 := face .s1; have h2 := face .s2; have h3 := face .s3
  simp only [Slots.get] at h0 h1 h2 h3
  rw [h0, h1, h2, h3]

theorem SlotInPlace.volumeSound {a b : Slot} (h : SlotInPlace a b) (ha : ∀ v, a.volume? = some v → VolumeSound v) :
    ∀ w, b.volume? = some w → VolumeSound w := by
  cases h with
  | same => exact ha
  | rewritten _ hs => rintro w ⟨⟩; exact hs (ha _ rfl)

/-- A write in place keeps the store sound. -/
theorem InPlace.storeSound {s t : State} (k : InPlace s.store.slots t.store.slots) (h : StoreSound s) :
    StoreSound t := by
  obtain ⟨hvol, hentries, hfaces⟩ := h
  exact ⟨fun i => (k.slot i).volumeSound (hvol i), k.pool hentries, k.usedFaces_eq ▸ hfaces⟩

/-- A slot written keeps the store sound when its record is within its widths and takes no more than the free entries
and the free face records. -/
theorem StoreSound.set {s t : State} (h : StoreSound s) {i : SlotId} {q : Slot}
    (ht : t.store.slots = s.store.slots.set i q) (hv : ∀ v, q.volume? = some v → VolumeSound v)
    (he : q.entryCount ≤ (s.store.slots.get i).entryCount + freeEntries s)
    (hf : q.faceCount ≤ (s.store.slots.get i).faceCount + freeFaces s) : StoreSound t := by
  obtain ⟨hvol, hentries, hfaces⟩ := h
  unfold StoreSound
  rw [ht]
  refine ⟨fun j w hw => ?_, ?_, ?_⟩
  · by_cases e : i = j
    · subst e; exact hv w (by simpa using hw)
    · exact hvol j w (by simpa [e] using hw)
  · have := usedEntries_set s.store.slots i q
    unfold freeEntries at he
    omega
  · have := usedFaces_set s.store.slots i q
    unfold freeFaces at hf
    omega

/-- A slot whose record moves to another state, or that is freed, takes no more of the pools. -/
theorem StoreSound.set_of_volume {s t : State} (h : StoreSound s) {i : SlotId} {q : Slot}
    (ht : t.store.slots = s.store.slots.set i q) (hq : q = .free ∨ q.volume? = (s.store.slots.get i).volume?) :
    StoreSound t := by
  have hvol := h.1 i
  refine h.set ht ?_ ?_ ?_ <;> rcases hq with rfl | e <;> simp_all [Slot.entryCount, Slot.faceCount, Slot.volume?]

/-! ## Opening, extending, closing and freeing -/

theorem newVolume_sound (p : Profile) : VolumeSound (newVolume p) := by
  simp [VolumeSound, newVolume, facesWf, facesWfFrom]

theorem takeOpenVolume_storeSound (raw : RawProfile) {s : State} (h : StoreSound s) :
    StoreSound (takeOpenVolume raw s).1 := by
  unfold takeOpenVolume
  (repeat' split) <;> try exact h
  next slot _ faces _ =>
    refine h.set (i := slot) rfl ?_ (Nat.zero_le _) ?_
    · rintro v ⟨⟩; exact newVolume_sound _
    · change 2 * raw.leaves + 2 ≤ _
      omega

theorem extendRecord_sound {v : Volume} (h : VolumeSound v) (count : Nat) : VolumeSound (extendRecord count v) := by
  have zero : RecordSound FaceRec.zero := ⟨by decide, by decide⟩
  have moved := recordSound_facesGet h (2 * v.profile.leaves + 1)
  obtain ⟨hwf, hrec, rest⟩ := h
  exact ⟨facesRenumber_wf hwf _ _,
    facesSet_forall (P := RecordSound) (facesSet_forall (P := RecordSound) hrec _ zero) _ moved, rest⟩

/-- After the record is extended, EXTEND_VOLUME writes in place. -/
theorem extendVolume_inPlace (s : State) (leaves count : Nat) :
    InPlace (onOpen s (extendRecord count)).store.slots (extendVolume s leaves count).store.slots := by
  let noted := appendIncident (onOpen s (extendRecord count)) .extended leaves (leaves + count)
  have renumbered : InPlace (onOpen s (extendRecord count)).store.slots
      (if s.tracker.n = some (leaves + 1) then aimDark noted else noted).store.slots := by
    split <;> simp [noted]
  have computed := computeTargets_inPlace renumbered
  unfold extendVolume
  dsimp only
  split
  · split <;> simp [noted, computed]
  · exact renumbered

theorem takeExtendVolume_storeSound (count : Nat) {s : State} (h : StoreSound s) :
    StoreSound (takeExtendVolume count s).1 := by
  unfold takeExtendVolume
  split
  · exact h
  · next slot v hopen =>
    dsimp only
    split
    · exact h
    · split
      · exact h
      · split
        · exact h
        · have hi := openSlot?_get hopen
          refine (extendVolume_inPlace s _ _).storeSound ?_
          rw [onOpen_eq hopen]
          refine h.set rfl ?_ ?_ ?_
          · rintro w ⟨⟩; exact extendRecord_sound (h.1 slot v (by rw [hi]; rfl)) _
          · rw [hi]; exact Nat.le_add_right _ _
          · rw [hi]
            simp only [Slot.faceCount, Slot.volume?, extendRecord]
            omega

/-- After the slot is closed, CLOSE_VOLUME writes in place. -/
theorem closeVolume_inPlace (s : State) (slot : SlotId) (v : Volume) :
    InPlace (closeSlot (appendIncident s .closed (uncovered v).length v.captureCount) slot).store.slots
      (closeVolume s slot v).store.slots := by
  unfold closeVolume; dsimp only; split <;> simp

theorem closeSlot_storeSound {s : State} (h : StoreSound s) (slot : SlotId) : StoreSound (closeSlot s slot) := by
  unfold closeSlot
  split
  · next v hv =>
    have sound := h.1 slot v (by rw [hv]; rfl)
    refine h.set rfl ?_ ?_ ?_
    · rintro w ⟨⟩; exact sound
    · rw [hv]; exact Nat.le_add_right _ _
    · rw [hv]; exact Nat.le_add_right _ _
  · exact h

theorem takeCloseVolume_storeSound {s : State} (h : StoreSound s) : StoreSound (takeCloseVolume s).1 := by
  unfold takeCloseVolume
  (repeat' split) <;> try exact h
  exact (closeVolume_inPlace _ _ _).storeSound
    (closeSlot_storeSound ((appendIncident_inPlace (.refl _) _ _ _).storeSound h) _)

theorem takeDiscardVolume_storeSound (field : Nat) {s : State} (h : StoreSound s) :
    StoreSound (takeDiscardVolume field s).1 := by
  unfold takeDiscardVolume
  (repeat' split) <;> try exact h
  exact h.set_of_volume rfl (.inl rfl)

theorem clearWrites_storeSound {s : State} (h : StoreSound s) (writes : Nat) (ids : List SlotId) :
    StoreSound { s with store := { s.store with slots := clearWrites s.store.slots writes ids } } := by
  induction ids generalizing s writes with
  | nil => cases writes <;> exact h
  | cons i rest ih =>
    cases writes with
    | zero => exact h
    | succ writes =>
      have freed : StoreSound (setSlot s i .free) := h.set_of_volume rfl (.inl rfl)
      unfold clearWrites
      split
      · exact ih freed writes
      · exact ih freed writes
      · exact ih h (writes + 1)

theorem takeClearStore_storeSound {s : State} (h : StoreSound s) : StoreSound (takeClearStore s).1 := by
  unfold takeClearStore
  (repeat' split) <;> try exact h
  exact clearWrites_storeSound h _ _

theorem clearCut_storeSound {s : State} (h : StoreSound s) (writes : Nat) : StoreSound (clearCut s writes) := by
  unfold clearCut
  split
  · exact h
  · exact clearWrites_storeSound h _ _

theorem endStream_storeSound {s : State} (h : StoreSound s) (t : Stream) : StoreSound (endStream s t) := by
  unfold endStream
  dsimp only
  split
  · next v _ hv => exact h.set_of_volume (i := t.slot) rfl (.inr (by rw [hv]; rfl))
  · exact h

/-! ## Every command -/

theorem take_storeSound {i : Instr} {take : State → State × Answer} (hi : i.take? = some take) {s : State}
    (h : StoreSound s) : StoreSound (take s).1 := by
  have inPlace (k : InPlace s.store.slots (take s).1.store.slots) : StoreSound (take s).1 := k.storeSound h
  unfold Instr.take? at hi
  split at hi <;> cases hi
  case h_1 => exact takeOpenVolume_storeSound _ h
  case h_2 => exact takeExtendVolume_storeSound _ h
  case h_3 => exact takeCloseVolume_storeSound h
  case h_4 => apply inPlace; unfold takeExportVolume; (repeat' split) <;> simp
  case h_5 => exact takeDiscardVolume_storeSound _ h
  case h_6 => exact takeClearStore_storeSound h
  case h_9 => exact inPlace (takeSetMark_inPlace (.refl _) _ _)
  case h_10 => exact inPlace (takeClearMark_inPlace (.refl _) _)
  all_goals exact inPlace (by simp)

theorem storeSound_kept : KeptByCommands StoreSound where
  core := storeSound_coreLaw
  take _ _ hi _ := take_storeSound hi
  restart _ cause rate h := (restart_inPlace (.refl _) cause rate).storeSound h
  clearCut _ writes h := clearCut_storeSound h writes
  endStream _ t h := endStream_storeSound h t
  event _ _ _ hi hclear hbyte hsent _ _ hx h := (event_inPlace hi hclear hbyte hsent hx).storeSound h

/-- Settles O55, by the inversion of every command: a write in place, or one of the commands that open, extend, close
or free a slot or end its stream. -/
theorem stepsKeepTheStore : Obligations.StepsKeepTheStore := fun _ _ h hx => storeSound_kept.step h hx

end Sys2Proof.Machine
end

-- ==== Proofs: the tracker's law ====
section
/-! StepsKeepTheTracker: the law split into what the tracker says of the slots and what a running turn asks of the
tracker, and one lemma for each operation that moves the tracker or the turner. -/

namespace Sys2Proof.Machine

open Sys2Proof.Config

/-! ## The OPEN slots of two stores -/

/-- The same slots are OPEN, with the same profiles. -/
def SameOpen (q r : Slots) : Prop := ∀ i, (r.get i).opened?.map Volume.profile = (q.get i).opened?.map Volume.profile

theorem InPlace.sameOpen {q r : Slots} (h : InPlace q r) : SameOpen q r := by
  intro i
  cases hq : q.get i <;> have k := h.slot i <;> rw [hq] at k <;> generalize r.get i = b at k <;> cases k
  case opened.rewritten hp _ => simp [Slot.opened?, hp]
  all_goals rfl

theorem SameOpen.opened {q r : Slots} (h : SameOpen q r) {i : SlotId} {w : Volume} (hw : r.get i = .opened w) :
    ∃ v, q.get i = .opened v := by
  have := h i
  rw [hw] at this
  cases hq : q.get i <;> simp_all [Slot.opened?]

theorem SameOpen.openSlot?_eq {q r : Slots} (h : SameOpen q r) :
    (openSlot? r).map (fun p => (p.1, p.2.profile)) = (openSlot? q).map fun p => (p.1, p.2.profile) := by
  have h0 := h .s0; have h1 := h .s1; have h2 := h .s2; have h3 := h .s3
  simp only [Slots.get] at h0 h1 h2 h3
  unfold openSlot?
  split <;> split <;> simp_all

theorem SameOpen.slot_eq {q r : Slots} (h : SameOpen q r) :
    (openSlot? r).map Prod.fst = (openSlot? q).map Prod.fst := by
  have := congrArg (Option.map Prod.fst) h.openSlot?_eq
  simpa [Option.map_map, Function.comp_def] using this

theorem SameOpen.openLeaves_eq {s t : State} (h : SameOpen s.store.slots t.store.slots) :
    openLeaves t = openLeaves s := by
  have := congrArg (Option.map Prod.snd) h.openSlot?_eq
  unfold openLeaves openVolume?
  cases hs : openSlot? s.store.slots <;> cases ht : openSlot? t.store.slots <;> simp_all

/-! ## The law in two parts -/

/-- What the tracker says of the slots: at most one is OPEN, the tracker stands at it, and it has an opening that exists
in PLACED only. -/
def TrackerStands (s : State) : Prop :=
  (∀ i v j w, s.store.slots.get i = .opened v → s.store.slots.get j = .opened w → i = j)
    ∧ s.tracker.slot = (openSlot? s.store.slots).map Prod.fst
    ∧ (s.tracker.state = .noVolume ↔ s.tracker.slot = none)
    ∧ (s.tracker.state = .placed ↔ s.tracker.n.isSome = true)
    ∧ ∀ n, s.tracker.n = some n → 1 ≤ n ∧ n ≤ openLeaves s + 1

/-- The turn recorded leads from the tracker's opening to one that exists. -/
def TurnFits (s : State) : Prop :=
  ∃ n d, s.tracker.n = some n ∧ s.turner.direction = some d ∧ 1 ≤ reached n d ∧ reached n d ≤ openLeaves s + 1

theorem trackerSound_iff {s : State} :
    TrackerSound s ↔ TrackerStands s ∧ (TurnRuns s.turner → TurnFits s) := by
  simp only [TrackerSound, TrackerStands, TurnFits, and_assoc]

theorem TrackerSound.stands {s : State} (h : TrackerSound s) : TrackerStands s := (trackerSound_iff.mp h).1

theorem TrackerSound.fits {s : State} (h : TrackerSound s) (runs : TurnRuns s.turner) : TurnFits s :=
  (trackerSound_iff.mp h).2 runs

theorem TrackerStands.sound {s : State} (h : TrackerStands s) (still : ¬ TurnRuns s.turner) : TrackerSound s :=
  trackerSound_iff.mpr ⟨h, fun runs => absurd runs still⟩

theorem TrackerStands.of_placed {s : State} (h : TrackerStands s) {n : Nat} (hn : s.tracker.n = some n) :
    s.tracker.state = .placed := h.2.2.2.1.mpr (by simp [hn])

/-- No turn runs without an opening. -/
theorem TrackerSound.still {s : State} (h : TrackerSound s) (hn : s.tracker.state ≠ .placed) : ¬ TurnRuns s.turner := by
  intro runs
  obtain ⟨n, -, e, -⟩ := h.fits runs
  exact hn (h.stands.of_placed e)

/-- The law of the tracker, over the OPEN slots as they were. -/
theorem TrackerStands.rebuild {s t : State} (h : TrackerStands s) (k : SameOpen s.store.slots t.store.slots)
    (slot : t.tracker.slot = (openSlot? s.store.slots).map Prod.fst)
    (none' : t.tracker.state = .noVolume ↔ t.tracker.slot = none)
    (placed : t.tracker.state = .placed ↔ t.tracker.n.isSome = true)
    (bound : ∀ n, t.tracker.n = some n → 1 ≤ n ∧ n ≤ openLeaves s + 1) : TrackerStands t := by
  obtain ⟨one, -⟩ := h
  refine ⟨fun i v j w hi hj => ?_, k.slot_eq ▸ slot, none', placed, k.openLeaves_eq ▸ bound⟩
  obtain ⟨v', hi'⟩ := k.opened hi
  obtain ⟨w', hj'⟩ := k.opened hj
  exact one i v' j w' hi' hj'

/-- A change that keeps the OPEN slots and the tracker keeps what the tracker says. -/
theorem TrackerStands.keep {s t : State} (h : TrackerStands s) (k : SameOpen s.store.slots t.store.slots)
    (state : t.tracker.state = s.tracker.state) (slot : t.tracker.slot = s.tracker.slot)
    (n : t.tracker.n = s.tracker.n) : TrackerStands t := by
  obtain ⟨-, at', none', placed, bound⟩ := id h
  exact h.rebuild k (slot.trans at') (state ▸ slot ▸ none') (state ▸ n ▸ placed) (n ▸ bound)

/-- A tracker moved while it stands at a volume: to PLACED with an opening that exists, or to UNCERTAIN with none. -/
theorem TrackerStands.move {s t : State} (h : TrackerStands s) (k : SameOpen s.store.slots t.store.slots)
    (vol : s.tracker.state ≠ .noVolume) (slot : t.tracker.slot = s.tracker.slot) (vol' : t.tracker.state ≠ .noVolume)
    (placed : t.tracker.state = .placed ↔ t.tracker.n.isSome = true)
    (bound : ∀ n, t.tracker.n = some n → 1 ≤ n ∧ n ≤ openLeaves s + 1) : TrackerStands t := by
  obtain ⟨-, at', none', -, -⟩ := id h
  refine h.rebuild k (slot.trans at') ?_ placed bound
  rw [slot]
  exact ⟨fun e => absurd e vol', fun e => absurd (none'.mpr e) vol⟩

theorem TurnFits.keep {s t : State} (h : TurnFits s) (k : SameOpen s.store.slots t.store.slots)
    (n : t.tracker.n = s.tracker.n) (direction : t.turner.direction = s.turner.direction) : TurnFits t := by
  unfold TurnFits
  rw [n, direction, k.openLeaves_eq]
  exact h

/-- A change that keeps the OPEN slots and the tracker, and starts no turn, keeps the law. -/
theorem TrackerSound.keep {s t : State} (h : TrackerSound s) (k : SameOpen s.store.slots t.store.slots)
    (state : t.tracker.state = s.tracker.state) (slot : t.tracker.slot = s.tracker.slot)
    (n : t.tracker.n = s.tracker.n)
    (turner : TurnRuns t.turner → TurnRuns s.turner ∧ t.turner.direction = s.turner.direction) : TrackerSound t :=
  trackerSound_iff.mpr ⟨h.stands.keep k state slot n, fun runs =>
    (h.fits (turner runs).1).keep k n (turner runs).2⟩

/-- A write in place that leaves the turner and what the law reads of the tracker. -/
theorem TrackerSound.quiet {s t : State} (h : TrackerSound s) (k : InPlace s.store.slots t.store.slots)
    (state : t.tracker.state = s.tracker.state) (slot : t.tracker.slot = s.tracker.slot)
    (n : t.tracker.n = s.tracker.n) (turner : t.turner = s.turner) : TrackerSound t :=
  h.keep k.sameOpen state slot n (by rw [turner]; exact fun runs => ⟨runs, rfl⟩)

theorem trackerSound_coreLaw : CoreLaw TrackerSound := fun s t hslots htracker hturner h =>
  h.keep (hslots ▸ fun _ => rfl) (by rw [htracker]) (by rw [htracker]) (by rw [htracker])
    (by rw [hturner]; exact fun runs => ⟨runs, rfl⟩)

/-! ## What the visits make of the tracker -/

@[simp] theorem visitStart_tracker (s : State) (n : Nat) :
    (visitStart s n).tracker.state = .placed ∧ (visitStart s n).tracker.slot = s.tracker.slot
      ∧ (visitStart s n).tracker.n = some n := by
  simp [visitStart]

@[simp] theorem leavePlaced_tracker (s : State) :
    (leavePlaced s).tracker.state = s.tracker.state ∧ (leavePlaced s).tracker.slot = s.tracker.slot
      ∧ (leavePlaced s).tracker.n = none := by
  simp [leavePlaced]

@[simp] theorem enterUncertain_tracker (s : State) (why : Condition) :
    (enterUncertain s why).tracker.state = .uncertain ∧ (enterUncertain s why).tracker.slot = s.tracker.slot
      ∧ (enterUncertain s why).tracker.n = if s.tracker.state = .placed then none else s.tracker.n := by
  unfold enterUncertain; dsimp only; split <;> simp

theorem visitStart_sound {s : State} (h : TrackerStands s) (vol : s.tracker.state ≠ .noVolume) {n : Nat}
    (low : 1 ≤ n) (high : n ≤ openLeaves s + 1) (still : ¬ TurnRuns s.turner) : TrackerSound (visitStart s n) := by
  refine (h.move (visitStart_inPlace (.refl _) n).sameOpen vol ?_ ?_ ?_ ?_).sound ?_ <;> simp [low, high, still]

theorem enterUncertain_stands {s : State} (h : TrackerStands s) (vol : s.tracker.state ≠ .noVolume) (why : Condition) :
    TrackerStands (enterUncertain s why) := by
  have none' : s.tracker.state ≠ .placed → s.tracker.n = none := fun e => by
    simpa using (not_congr h.2.2.2.1).mp e
  refine h.move (enterUncertain_inPlace (.refl _) why).sameOpen vol ?_ ?_ ?_ ?_ <;> simp <;> grind

theorem turnCompleted_sound {s : State} (h : TrackerStands s) (f : TurnFits s) (still : ¬ TurnRuns s.turner) :
    TrackerSound (turnCompleted s) := by
  obtain ⟨n, d, hn, hd, low, high⟩ := f
  have vol : s.tracker.state ≠ .noVolume := by simp [h.of_placed hn]
  simp only [turnCompleted, hn, hd]
  exact visitStart_sound h vol low high still

/-! ## The turner's phases -/

@[simp] theorem setPhase_turner (s : State) (state : TurnerState) :
    (setPhase s state).turner = { s.turner with state := state, step := .running, purpose := none } := rfl

@[simp] theorem turnerIdle_turner (s : State) (outcome : TurnOutcome) :
    (turnerIdle s outcome).turner
      = { s.turner with state := .idle, step := .running, purpose := none, lastOutcome := outcome } := rfl

@[simp] theorem openValve_turner (s : State) : (openValve s).turner = { s.turner with valveClosed := false } := rfl

@[simp] theorem enterLift_direction (s : State) : (enterLift s).turner.direction = s.turner.direction := rfl

@[simp] theorem enterReach_direction (s : State) : (enterReach s).turner.direction = s.turner.direction := by
  unfold enterReach; dsimp only; split <;> simp

@[simp] theorem startAttempt_direction (s : State) : (startAttempt s).turner.direction = s.turner.direction := by
  unfold startAttempt; split <;> simp

@[simp] theorem enterCarry_direction (s : State) : (enterCarry s).turner.direction = s.turner.direction := by
  unfold enterCarry; split <;> simp

@[simp] theorem enterLay_direction (s : State) : (enterLay s).turner.direction = s.turner.direction := by
  unfold enterLay; dsimp only; split <;> simp

@[simp] theorem not_turnRuns_idle {t : Turner} (h : t.state = .idle) : ¬ TurnRuns t := fun runs => runs.1 h

@[simp] theorem not_turnRuns_halted {t : Turner} (h : t.state = .halted) : ¬ TurnRuns t := fun runs => runs.2.1 h

@[simp] theorem turnerHalted_still (s : State) (outcome : TurnOutcome) :
    ¬ TurnRuns (turnerHalted s outcome).turner := not_turnRuns_halted rfl

/-- A turn that goes on: the tracker, the OPEN slots and the direction stand. -/
theorem TurnFits.sound {s t : State} (f : TurnFits s) (h : TrackerStands s) (k : InPlace s.store.slots t.store.slots)
    (tracker : t.tracker = s.tracker) (direction : t.turner.direction = s.turner.direction) : TrackerSound t :=
  trackerSound_iff.mpr ⟨h.keep k.sameOpen (by rw [tracker]) (by rw [tracker]) (by rw [tracker]),
    fun _ => f.keep k.sameOpen (by rw [tracker]) direction⟩

/-- A turner that works on no turn: the tracker and the OPEN slots stand. -/
theorem TrackerStands.sound_of_still {s t : State} (h : TrackerStands s) (k : InPlace s.store.slots t.store.slots)
    (tracker : t.tracker = s.tracker) (still : ¬ TurnRuns t.turner) : TrackerSound t :=
  (h.keep k.sameOpen (by rw [tracker]) (by rw [tracker]) (by rw [tracker])).sound still

/-- The end of RETURN: of a turn that fits, or of a failure return or a park. -/
theorem endReturn_sound {s : State} (h : TrackerStands s)
    (f : s.turner.purpose ≠ some .park → s.turner.purpose ≠ some .failureReturn → TurnFits s) :
    TrackerSound (endReturn s) := by
  unfold endReturn
  split
  · exact h.sound_of_still (by simp) (by simp) (by simp)
  · exact h.sound_of_still (by simp) (by simp) (by simp)
  · next park failure =>
    have idle : TrackerStands (turnerIdle s .done) := h.keep (fun _ => rfl) rfl rfl rfl
    have done := turnCompleted_sound idle ((f park failure).keep (fun _ => rfl) rfl rfl) (not_turnRuns_idle rfl)
    exact trackerSound_coreLaw _ _ (by simp) (by simp) (by simp) done

theorem enterReturn_sound {s : State} (h : TrackerStands s) (p : Purpose)
    (f : p ≠ .park → TurnFits s) : TrackerSound (enterReturn s p) := by
  unfold enterReturn
  dsimp only
  split
  · refine endReturn_sound (h.keep (fun _ => rfl) rfl rfl rfl) fun park _ => ?_
    exact (f fun e => park (by rw [e]; rfl)).keep (fun _ => rfl) rfl rfl
  · refine trackerSound_iff.mpr ⟨h.keep (fun _ => rfl) rfl rfl rfl, fun runs => ?_⟩
    exact (f fun e => runs.2.2 ⟨rfl, by rw [e]; rfl⟩).keep (fun _ => rfl) rfl rfl

theorem attemptEnds_sound {s : State} (h : TrackerStands s) (f : TurnFits s) (kind : IncidentKind) (second : Nat) :
    TrackerSound (attemptEnds s kind second) := by
  have noted := appendIncident_inPlace (.refl s.store.slots) kind (s.turner.attempt.getD 0) second
  unfold attemptEnds
  dsimp only
  split
  · exact f.sound h (by simp) (by simp) (by simp)
  · exact enterReturn_sound (h.keep noted.sameOpen (by simp) (by simp) (by simp)) _
      fun _ => f.keep noted.sameOpen (by simp) (by simp)

theorem layPump_sound {s : State} (h : TrackerSound s) : TrackerSound (layPump s) := by
  unfold layPump
  split
  · next going =>
    simp only [Bool.and_eq_true, decide_eq_true_eq, and_assoc] at going
    obtain ⟨lay, -⟩ := going
    exact enterReturn_sound h.stands .turn fun _ => h.fits (by simp [TurnRuns, lay])
  · exact h

theorem turnTimedOut_sound {s : State} (h : TrackerSound s) (hp : timeoutPhase s.turner.state ≠ 0) :
    TrackerSound (turnTimedOut s) := by
  unfold turnTimedOut
  split
  · exact h.stands.sound_of_still (by simp) (by simp) (by simp)
  · next notPark =>
    simp only [Bool.and_eq_true, decide_eq_true_eq] at notPark
    have runs : TurnRuns s.turner := by
      refine ⟨?_, ?_, notPark⟩ <;> intro e <;> rw [e] at hp <;> exact hp rfl
    obtain ⟨n, -, hn, -⟩ := h.fits runs
    have vol : s.tracker.state ≠ .noVolume := by simp [h.stands.of_placed hn]
    dsimp only
    refine (enterUncertain_stands (h.stands.keep (appendIncident_inPlace ?_ _ _ _).sameOpen ?_ ?_ ?_) ?_ _).sound ?_
      <;> simp [vol]

/-! ## The glass as the turner hears of it -/

theorem turnerRaised_sound {s : State} (h : TrackerSound s) : TrackerSound (turnerRaised s) := by
  unfold turnerRaised
  split
  · split
    · next e => exact (h.fits (by simp [TurnRuns, e])).sound h.stands (by simp) (by simp) (by simp)
    · next e => exact (h.fits (by simp [TurnRuns, e])).sound h.stands (by simp) (by simp) (by simp)
    · next e => exact (h.fits (by simp [TurnRuns, e])).sound h.stands (by simp) (by simp) rfl
    · exact h
  · split
    · refine enterReturn_sound ?_ _ fun e => absurd rfl e
      exact h.stands.keep (fun _ => rfl) rfl rfl rfl
    · exact h

theorem turnerRaiseFailed_sound {s : State} (h : TrackerSound s) : TrackerSound (turnerRaiseFailed s) := by
  unfold turnerRaiseFailed
  split
  · exact h.stands.sound_of_still (by simp) (by simp) (by simp)
  · split
    · exact h.keep (by simp [SameOpen]) (by simp) (by simp) (by simp) (by simp [TurnRuns])
    · exact h

theorem turnerAsksRaise_sound {s : State} (h : TrackerSound s) (w : RaiseWaiter) :
    TrackerSound (turnerAsksRaise s w) := by
  unfold turnerAsksRaise
  split
  · exact turnerRaised_sound h
  · exact trackerSound_coreLaw s _ (by simp) (by simp) (by simp) h

/-- The mechanics' pump moves neither the turner nor what the tracker says. -/
theorem mechPump_sound {s : State} (h : TrackerSound s) : TrackerSound (mechPump s) :=
  h.quiet (by simp) (by simp) (by simp) (by simp) (by simp)

theorem glassReached_sound {s : State} (h : TrackerSound s) : TrackerSound (glassReached s) := by
  have up : TrackerSound (setGlass s { s.mech.glass with state := .raised, waiters := [] }) :=
    trackerSound_coreLaw s _ rfl rfl rfl h
  unfold glassReached
  refine layPump_sound (mechPump_sound (trackerSound_coreLaw _ _ rfl rfl rfl ?_))
  split
  · exact up
  · exact turnerRaised_sound up

theorem pressFailed_sound {s : State} (h : TrackerSound s) : TrackerSound (pressFailed s) :=
  h.quiet (by simp) (by simp) (by simp) (by simp) (by simp)

theorem raiseTimedOut_sound {s : State} (h : TrackerSound s) : TrackerSound (raiseTimedOut s) := by
  have faulted := glassFault_inPlace (s := setGlass s { s.mech.glass with state := .halted }) (.refl s.store.slots)
    (.timeout s.pins.force)
  have emptied (g : Glass) : TrackerSound (setGlass (glassFault (setGlass s { s.mech.glass with state := .halted })
      (.timeout s.pins.force)) g) := h.quiet faulted (by simp) (by simp) (by simp) (by simp)
  have told (g : Glass) := turnerRaiseFailed_sound (emptied g)
  unfold raiseTimedOut
  dsimp only
  split
  · split
    · exact pressFailed_sound (emptied _)
    · exact emptied _
  · split
    · exact pressFailed_sound (told _)
    · exact told _

/-! ## Turns, taken and completed -/

theorem manualCompletes_sound {s : State} (h : TrackerSound s) (wait : s.turner.state = .manualWait) :
    TrackerSound (manualCompletes s) := by
  have fits := h.fits (by simp [TurnRuns, wait])
  have noted (d m : Nat) := (appendIncident_inPlace (.refl s.store.slots) .manualTurn d m).sameOpen
  unfold manualCompletes
  dsimp only
  have moved := turnCompleted_sound (s := turnerIdle (appendIncident s .manualTurn
      (s.turner.direction.getD .forward).code (s.turner.leaf.getD 0)) .done)
    (h.stands.keep (noted _ _) (by simp) (by simp) (by simp)) (fits.keep (noted _ _) (by simp) (by simp))
    (not_turnRuns_idle rfl)
  split
  · exact moved.quiet (by simp) (by simp) (by simp) (by simp) (by simp)
  · exact moved.quiet (by simp) (by simp) (by simp) (by simp) (by simp)

/-- The checks of R46 that pass: a volume, a direction and flags, the tracker PLACED, the turner IDLE, and an opening to
turn to. -/
theorem turnRefusal?_none {s : State} {direction flags : Nat} (h : turnRefusal? s direction flags = none) :
    ∃ v d skip manual, openVolume? s = some v ∧ directionOf? direction = some d
      ∧ turnFlagsOf? flags = some (skip, manual) ∧ s.tracker.state = .placed ∧ s.turner.state = .idle
      ∧ ¬ (d = .forward ∧ v.profile.leaves < openingField s) ∧ ¬ (d = .back ∧ openingField s < 2) := by
  unfold turnRefusal? at h
  split at h
  · contradiction
  · split at h
    · contradiction
    · contradiction
    · next v hv _ _ d skip manual hd hf =>
      refine ⟨v, d, skip, manual, hv, hd, hf, ?_⟩
      grind

@[simp] theorem openLeaves_setTurner (s : State) (t : Turner) : openLeaves (setTurner s t) = openLeaves s := rfl

theorem startTurn_sound {s : State} (h : TrackerSound s) {v : Volume} {d : Direction} {manualFlag : Bool}
    (hv : openVolume? s = some v) (placed : s.tracker.state = .placed)
    (last : ¬ (d = .forward ∧ v.profile.leaves < openingField s)) (first : ¬ (d = .back ∧ openingField s < 2)) :
    TrackerSound (startTurn s v d manualFlag).1 := by
  have leaves : openLeaves s = v.profile.leaves := by simp [openLeaves, hv]
  obtain ⟨n, hn⟩ := Option.isSome_iff_exists.mp (h.stands.2.2.2.1.mp placed)
  obtain ⟨low, high⟩ := h.stands.2.2.2.2 n hn
  simp only [openingField, hn, Option.getD_some] at last first
  have skipped : InPlace s.store.slots
      (if s.capture.state = .none then appendIncident s .skipped (openingField s) d.code else s).store.slots := by
    split <;> simp
  unfold startTurn
  refine turnerAsksRaise_sound (trackerSound_iff.mpr ⟨?_, fun _ => ?_⟩) _
  · refine h.stands.keep skipped.sameOpen ?_ ?_ ?_ <;> simp <;> split <;> simp
  · refine ⟨n, d, ?_, rfl, ?_⟩
    · simp only [setTurner_frame]
      split <;> simp [hn]
    · rw [openLeaves_setTurner, skipped.sameOpen.openLeaves_eq, leaves]
      cases d <;> simp [reached] at last first ⊢ <;> omega

theorem idleRestart_sound {s : State} (h : TrackerSound s) : TrackerSound (idleRestart s) :=
  trackerSound_coreLaw s _ rfl rfl rfl h

theorem turnArrives_sound {s : State} (h : TrackerSound s) (direction flags : Nat) :
    TrackerSound (turnArrives direction flags s).1 := by
  unfold turnArrives
  dsimp only
  split
  · exact idleRestart_sound h
  · next passed =>
    obtain ⟨v, d, skip, manual, hv, hd, hf, placed, -, last, first⟩ := turnRefusal?_none passed
    split
    · exact trackerSound_coreLaw s _ (by simp) (by simp) (by simp) h
    · rw [hv, hd, hf]
      exact startTurn_sound (idleRestart_sound h) hv placed last first

/-! ## PLACE -/

theorem placeAt_sound {s : State} (h : TrackerSound s) (vol : s.tracker.state ≠ .noVolume) {n : Nat} (low : 1 ≤ n)
    (high : n ≤ openLeaves s + 1) (still : ¬ TurnRuns s.turner) : TrackerSound (placeAt s n) := by
  have noted := onOpen_inPlace (logReseat_inPlace (.refl s.store.slots) n) placedBefore_keeps
  have visit : TrackerSound (visitStart (onOpen (logReseat s n) fun v => { v with placedBefore := true }) n) :=
    visitStart_sound (h.stands.keep noted.sameOpen (by simp) (by simp) (by simp)) (by simpa using vol) low
      (by rwa [noted.sameOpen.openLeaves_eq]) (by simpa using still)
  unfold placeAt
  dsimp only
  split
  · exact visit.quiet (by simp) (by simp) (by simp) (by simp) (by simp)
  · exact visit.quiet (by simp) (by simp) (by simp) (by simp) (by simp)

theorem takePlace_sound {s : State} (h : TrackerSound s) (n : Nat) : TrackerSound (takePlace n s).1 := by
  unfold takePlace
  split
  · exact h
  · next vol =>
    split
    · exact h
    · next range =>
      split
      · exact h
      · next taken =>
        refine placeAt_sound h vol (by omega) (by omega) ?_
        by_cases placed : s.tracker.state = .placed
        · simp only [placeHeld, placed] at taken
          exact not_turnRuns_idle (by simp_all)
        · exact h.still placed

/-! ## Stops, the pedal and RESUME -/

/-- A broken pause leaves the turner HALTED and the tracker UNCERTAIN where a volume is OPEN. -/
theorem breakPause_sound {s : State} (h : TrackerStands s) (still : ¬ TurnRuns s.turner) (cause : PauseCause)
    (phase : Nat) : TrackerSound (breakPause s cause phase) := by
  have noted := appendIncident_inPlace (.refl s.store.slots) .pauseBroken cause.code phase
  unfold breakPause
  split
  · exact h.sound still
  · next v hv =>
    have vol : s.tracker.state ≠ .noVolume := by
      obtain ⟨-, at', none', -⟩ := h
      simp only [openVolume?, Option.map_eq_some_iff] at hv
      obtain ⟨p, hp, -⟩ := hv
      simp [none', at', hp]
    refine (enterUncertain_stands (h.keep noted.sameOpen ?_ ?_ ?_) ?_ _).sound ?_ <;> simp [vol, still]

theorem stopTaken_sound {s : State} (h : TrackerSound s) (cause : PauseCause) : TrackerSound (stopTaken s cause) := by
  have after {u : State} (hu : TrackerSound u) :
      TrackerSound (latch (idleDark (voidOrder (haltGlass u))) cause.condition) :=
    hu.quiet (by simp) (by simp) (by simp) (by simp) (by simp)
  unfold stopTaken
  split
  · exact h
  · dsimp only
    split
    · refine after (breakPause_sound (h.stands.keep (by simp [SameOpen]) ?_ ?_ ?_) ?_ _ _) <;> simp
    · exact after (trackerSound_coreLaw s _ rfl rfl rfl h)

theorem judgeHood_sound {s : State} (h : TrackerSound s) : TrackerSound (judgeHood s) := by
  unfold judgeHood
  dsimp only
  split
  · exact h
  · split
    · refine stopTaken_sound (h.quiet ?_ ?_ ?_ ?_ ?_) _ <;> simp
    · exact trackerSound_coreLaw s _ rfl rfl rfl h

theorem pedalPress_sound {s : State} (h : TrackerSound s) : TrackerSound (pedalPress s) := by
  have recorded (a : PedalAction) : TrackerSound (recordPedal s a) := trackerSound_coreLaw s _ rfl rfl rfl h
  unfold pedalPress
  split
  · next wait =>
    split
    · exact manualCompletes_sound (recorded _) wait
    · exact recorded _
  · split
    · exact h.quiet (by simp) (by simp) (by simp) (by simp) (by simp)
    · split
      · exact h.quiet (by simp) (by simp) (by simp) (by simp) (by simp)
      · exact recorded _

theorem edgeActs_sound {s : State} (h : TrackerSound s) (line : AuxLine) (edge : EdgeKind) :
    TrackerSound (edgeActs s line edge) := by
  unfold edgeActs
  dsimp only
  split
  · exact stopTaken_sound h _
  · exact pedalPress_sound h
  · exact judgeHood_sound h
  · split
    · exact trackerSound_coreLaw s _ (by simp) (by simp) (by simp) h
    · exact h
  · exact h

theorem startDeferred_sound {s : State} (h : TrackerSound s) (d : Deferred) : TrackerSound (startDeferred s d).1 := by
  unfold startDeferred
  cases d with
  | turn direction flags =>
    exact turnArrives_sound (trackerSound_coreLaw s (setPause s { s.pause with deferred := none }) rfl rfl rfl h) _ _
  | capture sides => exact h.quiet (by simp) (by simp) (by simp) (by simp) (by simp)

theorem takeResume_sound {s : State} (h : TrackerSound s) : TrackerSound (takeResume s).1 := by
  have running : TrackerSound (resumeRunning s) := trackerSound_coreLaw s _ (by simp) (by simp) (by simp) h
  have resumed : TrackerSound (resumeTaken s) := by
    unfold resumeTaken
    split
    · next d _ => exact trackerSound_coreLaw _ _ (by simp) (by simp) (by simp) (startDeferred_sound running d)
    · exact running
  unfold takeResume
  (repeat' split)
  · exact h
  · exact h
  · exact resumed.quiet (by simp) (by simp) (by simp) (by simp) (by simp)

theorem takeSetAux_sound {s : State} (h : TrackerSound s) (funcs edges : Lines Nat) :
    TrackerSound (takeSetAux funcs edges s).1 := by
  unfold takeSetAux
  split
  · exact h
  · split
    · next new _ _ =>
      have judged := judgeHood_sound (trackerSound_coreLaw s
        (setPause s { s.pause with lines := setLines s.pause.lines new }) rfl rfl rfl h)
      exact judged.quiet (by simp) (by simp) (by simp) (by simp) (by simp)
    · exact h
    · exact h

/-! ## Volumes opened, extended, closed and freed -/

/-- Only the OPEN slot reads OPEN. -/
theorem TrackerStands.get_opened {s : State} (h : TrackerStands s) {i j : SlotId} {v w : Volume}
    (hi : openSlot? s.store.slots = some (i, v)) (hj : s.store.slots.get j = .opened w) : j = i :=
  h.1 j w i v hj (openSlot?_get hi)

/-- With one slot OPEN at most, the slot that reads OPEN is the one. -/
theorem openSlot?_of_get {q : Slots} (one : ∀ i v j w, q.get i = .opened v → q.get j = .opened w → i = j) {i : SlotId}
    {v : Volume} (hi : q.get i = .opened v) : openSlot? q = some (i, v) := by
  rcases h : openSlot? q with _ | ⟨j, w⟩
  · exact absurd hi (openSlot?_eq_none.mp h i v)
  · obtain rfl := one i v j w hi (openSlot?_get h)
    rw [openSlot?_get h] at hi
    cases hi
    rfl

theorem takeOpenVolume_sound {s : State} (h : TrackerSound s) (raw : RawProfile) :
    TrackerSound (takeOpenVolume raw s).1 := by
  unfold takeOpenVolume
  (repeat' split) <;> try exact h
  next notOpen _ _ _ slot _ _ _ =>
    have none' := Option.not_isSome_iff_eq_none.mp notOpen
    have still : ¬ TurnRuns s.turner := h.still fun placed => by
      obtain ⟨-, at', empty, -, -⟩ := h.stands
      rw [none'] at at'
      rw [empty.mpr at'] at placed
      contradiction
    have only (i : SlotId) (v w : Volume)
        (hi : (s.store.slots.set slot (.opened w)).get i = .opened v) : i = slot := by
      by_contra other
      rw [Slots.get_set, if_neg (Ne.symm other)] at hi
      exact openSlot?_eq_none.mp none' i v hi
    have one (w : Volume) (i : SlotId) (v : Volume) (j : SlotId) (x : Volume)
        (hi : (s.store.slots.set slot (.opened w)).get i = .opened v)
        (hj : (s.store.slots.set slot (.opened w)).get j = .opened x) : i = j :=
      (only i v w hi).trans (only j x w hj).symm
    refine TrackerStands.sound ⟨one _, ?_, by simp [openVolumeAt], by simp [openVolumeAt], nofun⟩ still
    exact (congrArg (Option.map Prod.fst) (openSlot?_of_get (one _) (Slots.get_set_self _ _ _))).symm

/-- An extension adds openings after the last and keeps the OPEN slot. -/
theorem extendRecord_stands {s : State} (h : TrackerStands s) (count : Nat) :
    TrackerStands (onOpen s (extendRecord count)) := by
  obtain ⟨one, at', none', placed, bound⟩ := id h
  rcases hopen : openSlot? s.store.slots with _ | ⟨slot, v⟩
  · rwa [onOpen_none hopen]
  · rw [onOpen_eq hopen]
    have set := openSlot?_set hopen (extendRecord count v)
    have only (i : SlotId) (w : Volume)
        (hi : (s.store.slots.set slot (.opened (extendRecord count v))).get i = .opened w) : i = slot := by
      by_contra other
      rw [Slots.get_set, if_neg (Ne.symm other)] at hi
      exact other (h.get_opened hopen hi)
    refine ⟨fun i w j x hi hj => (only i w hi).trans (only j x hj).symm, ?_, none', placed, fun n hn => ?_⟩
    · rw [setSlot_slots, set]
      exact at'.trans (by rw [hopen]; rfl)
    · obtain ⟨low, high⟩ := bound n hn
      have leaves : openLeaves s = v.profile.leaves := by simp [openLeaves, openVolume?, hopen]
      have leaves' : openLeaves (setSlot s slot (.opened (extendRecord count v))) = v.profile.leaves + count := by
        rw [openLeaves, openVolume?, setSlot_slots, set]
        rfl
      omega

theorem takeExtendVolume_sound {s : State} (h : TrackerSound s) (count : Nat) :
    TrackerSound (takeExtendVolume count s).1 := by
  unfold takeExtendVolume
  split
  · exact h
  · dsimp only
    split
    · exact h
    · split
      · exact h
      · next busy =>
        split
        · exact h
        · have still : ¬ TurnRuns s.turner := by
            simp only [turnerAway, Bool.or_eq_true, Bool.and_eq_true, bne_iff_ne, not_or, not_and] at busy
            exact fun runs => busy.1.1.1 runs.1 runs.2.1
          refine ((extendRecord_stands h.stands count).keep (extendVolume_inPlace s _ count).sameOpen ?_ ?_ ?_).sound ?_
            <;> simp [still]

theorem closeSlot_get_of_ne (s : State) {slot i : SlotId} (h : slot ≠ i) :
    (closeSlot s slot).store.slots.get i = s.store.slots.get i := by
  unfold closeSlot
  split <;> simp [Slots.get_set, h]

/-- A closed volume leaves no slot OPEN, and the tracker in NO_VOLUME. -/
theorem closeVolume_stands {s : State} (h : TrackerStands s) {slot : SlotId} {v : Volume}
    (hopen : openSlot? s.store.slots = some (slot, v)) : TrackerStands (closeVolume s slot v) := by
  have noted := (appendIncident_inPlace (.refl s.store.slots) .closed (uncovered v).length v.captureCount).sameOpen
  have closed := (closeVolume_inPlace s slot v).sameOpen
  have none' (i : SlotId) (w : Volume) : (closeVolume s slot v).store.slots.get i ≠ .opened w := by
    intro hi
    obtain ⟨x, hx⟩ := closed.opened hi
    by_cases e : slot = i
    · subst e
      unfold closeSlot at hx
      split at hx
      · simp at hx
      · next open' => exact open' _ hx
    · rw [closeSlot_get_of_ne _ e] at hx
      obtain ⟨y, hy⟩ := noted.opened hx
      exact e (h.get_opened hopen hy).symm
  refine ⟨fun i w _ _ hi => absurd hi (none' i w), ?_, ?_, ?_, ?_⟩
  · rw [openSlot?_eq_none.mpr none']
    simp [closeVolume]
  all_goals simp [closeVolume]

@[simp] theorem closeVolume_turner (s : State) (slot : SlotId) (v : Volume) :
    (closeVolume s slot v).turner = s.turner := by
  unfold closeVolume
  dsimp only
  split <;> simp

theorem takeCloseVolume_sound {s : State} (h : TrackerSound s) : TrackerSound (takeCloseVolume s).1 := by
  unfold takeCloseVolume
  split
  · exact h
  · next slot v hopen =>
    split
    · exact h
    · next away =>
      have still : ¬ TurnRuns s.turner := by
        simp only [turnerAway, Bool.and_eq_true, bne_iff_ne, not_and] at away
        exact fun runs => away runs.1 runs.2.1
      (repeat' split) <;> try exact h
      exact (closeVolume_stands h.stands hopen).sound (by simpa using still)

theorem SameOpen.set {q : Slots} {i : SlotId} {x : Slot} (old : ∀ v, q.get i ≠ .opened v) (new : ∀ v, x ≠ .opened v) :
    SameOpen q (q.set i x) := by
  intro j
  by_cases e : i = j
  · subst e
    rw [Slots.get_set_self, Slot.opened?_eq_none.mpr old, Slot.opened?_eq_none.mpr new]
  · rw [Slots.get_set, if_neg e]

theorem SameOpen.trans {q r t : Slots} (h : SameOpen q r) (k : SameOpen r t) : SameOpen q t := fun i =>
  (k i).trans (h i)

theorem clearWrites_sameOpen (q : Slots) (writes : Nat) (ids : List SlotId) :
    SameOpen q (clearWrites q writes ids) := by
  induction ids generalizing q writes with
  | nil => cases writes <;> exact fun _ => rfl
  | cons i rest ih =>
    cases writes with
    | zero => exact fun _ => rfl
    | succ writes =>
      unfold clearWrites
      split
      · next e => exact (SameOpen.set (by simp [e]) (by simp)).trans (ih _ writes)
      · next e => exact (SameOpen.set (by simp [e]) (by simp)).trans (ih _ writes)
      · exact ih q (writes + 1)

/-- A change of the slots that are not OPEN. -/
theorem TrackerSound.slots {s t : State} (h : TrackerSound s) (k : SameOpen s.store.slots t.store.slots)
    (tracker : t.tracker = s.tracker) (turner : t.turner = s.turner) : TrackerSound t :=
  h.keep k (by rw [tracker]) (by rw [tracker]) (by rw [tracker]) (by rw [turner]; exact fun runs => ⟨runs, rfl⟩)

theorem takeDiscardVolume_sound {s : State} (h : TrackerSound s) (field : Nat) :
    TrackerSound (takeDiscardVolume field s).1 := by
  unfold takeDiscardVolume
  (repeat' split) <;> try exact h
  next slot _ _ _ _ e => exact h.slots (SameOpen.set (i := slot) (by simp [e]) (by simp)) rfl rfl

theorem takeClearStore_sound {s : State} (h : TrackerSound s) : TrackerSound (takeClearStore s).1 := by
  unfold takeClearStore
  (repeat' split) <;> try exact h
  exact h.slots (clearWrites_sameOpen _ _ _) rfl rfl

theorem clearCut_sound {s : State} (h : TrackerSound s) (writes : Nat) : TrackerSound (clearCut s writes) := by
  unfold clearCut
  split
  · exact h
  · exact h.slots (clearWrites_sameOpen _ _ _) rfl rfl

theorem endStream_sound {s : State} (h : TrackerSound s) (t : Stream) : TrackerSound (endStream s t) := by
  unfold endStream
  dsimp only
  split
  · next e => exact h.slots (SameOpen.set (i := t.slot) (by simp [e]) (by simp)) rfl rfl
  · exact h

/-! ## Restarts -/

/-- After a restart with a slot OPEN the tracker is UNCERTAIN at it (R11, R17, R43). -/
theorem restart_tracker {s : State} {slot : SlotId} {v : Volume} (h : openSlot? s.store.slots = some (slot, v))
    (cause : RestartCause) (rate : Nat) :
    (restart s cause rate).tracker
      = { state := .uncertain, slot := some slot, n := none, lastPlaced := some 0, doseLogged := false } := by
  have h' : openSlot? (blocksRestarted s cause rate).store.slots = some (slot, v) := h
  unfold restart
  dsimp only
  rw [h']
  simp [restartVolume, blocksRestarted, trackerRestarted]

theorem restart_sound {s : State} (h : TrackerSound s) (cause : RestartCause) (rate : Nat) :
    TrackerSound (restart s cause rate) := by
  have same := (restart_inPlace (.refl s.store.slots) cause rate).sameOpen
  have still : ¬ TurnRuns (restart s cause rate).turner := by
    simp only [restart_values, turnerRestarted]
    split
    · exact not_turnRuns_idle rfl
    · exact not_turnRuns_halted rfl
  rcases hopen : openSlot? s.store.slots with _ | ⟨slot, v⟩
  · refine (h.stands.rebuild same ?_ ?_ ?_ ?_).sound still <;>
      simp [(restart_noVolume s cause rate hopen).2, trackerRestarted, hopen]
  · refine (h.stands.rebuild same ?_ ?_ ?_ ?_).sound still <;> simp [restart_tracker hopen, hopen]

/-! ## Every request and every event -/

theorem takePark_sound {s : State} (h : TrackerSound s) : TrackerSound (takePark s).1 := by
  unfold takePark
  split
  · exact h
  · next halted =>
    (repeat' split) <;> try exact h
    refine turnerAsksRaise_sound ?_ _
    refine h.stands.sound_of_still (.refl _) rfl ?_
    exact not_turnRuns_halted (by simpa using halted)

theorem takeManualDone_sound {s : State} (h : TrackerSound s) (direction : Nat) :
    TrackerSound (takeManualDone direction s).1 := by
  unfold takeManualDone
  split
  · exact h
  · next waits =>
    split
    · exact h
    · have done := manualCompletes_sound h (by simp_all)
      exact done.quiet (by simp) (by simp) (by simp) (by simp) (by simp)

theorem takeCancelTurn_sound {s : State} (h : TrackerSound s) : TrackerSound (takeCancelTurn s).1 := by
  unfold takeCancelTurn
  split
  · exact h
  · exact h.stands.sound_of_still (.refl _) rfl (not_turnRuns_idle rfl)

theorem takeSetTurner_sound {s : State} (h : TrackerSound s) (reach lift carry lay ret limit : Nat) :
    TrackerSound (takeSetTurner reach lift carry lay ret limit s).1 := by
  unfold takeSetTurner
  (repeat' split) <;> exact h

theorem aimRetest_sound {s : State} (h : TrackerSound s) : TrackerSound (aimRetest s) :=
  h.quiet (by simp) (by simp) (by simp) (by simp) (by simp)

theorem take_trackerSound {i : Instr} {take : State → State × Answer} (hi : i.take? = some take) {s : State}
    (h : TrackerSound s) : TrackerSound (take s).1 := by
  unfold Instr.take? at hi
  split at hi <;> cases hi
  case h_1 => exact takeOpenVolume_sound h _
  case h_2 => exact takeExtendVolume_sound h _
  case h_3 => exact takeCloseVolume_sound h
  case h_4 => unfold takeExportVolume; (repeat' split) <;> exact h
  case h_5 => exact takeDiscardVolume_sound h _
  case h_6 => exact takeClearStore_sound h
  case h_9 => exact h.quiet (takeSetMark_inPlace (.refl _) _ _) (by simp) (by simp) (by simp) (by simp)
  case h_10 => exact h.quiet (takeClearMark_inPlace (.refl _) _) (by simp) (by simp) (by simp) (by simp)
  case h_11 => exact takePlace_sound h _
  case h_13 => exact aimRetest_sound (turnArrives_sound h _ _)
  case h_14 => exact takePark_sound h
  case h_15 => exact takeManualDone_sound h _
  case h_16 => exact takeCancelTurn_sound h
  case h_17 => exact takeSetTurner_sound h _ _ _ _ _ _
  case h_37 => exact takeResume_sound h
  case h_38 => exact takeSetAux_sound h _ _
  all_goals exact h.quiet (by simp) (by simp) (by simp) (by simp) (by simp)

theorem transmit_sound {s : State} (h : TrackerSound s) : TrackerSound (transmit s) :=
  h.quiet (by simp) (by simp) (by simp) (by simp) (by simp)

/-- A phase the turner is in works on a turn: not a park's RETURN. -/
theorem inPhase_turnRuns {t : Turner} {state : TurnerState} (h : inPhase t state = true) (idle : state ≠ .idle)
    (halted : state ≠ .halted) (ret : state ≠ .ret) : TurnRuns t := by
  simp only [inPhase, Bool.and_eq_true, decide_eq_true_eq] at h
  obtain ⟨rfl, -⟩ := h
  exact ⟨idle, halted, fun park => ret park.1⟩

theorem homeSensor_sound {s t : State} (h : TrackerSound s) {on : Bool} (hx : exec (.homeSensor on) s = .next t) :
    TrackerSound t := by
  have read : TrackerSound { s with pins := { s.pins with home := on } } := h
  obtain rfl := Host.Outcome.next.inj hx
  split
  · next carries =>
    simp only [Bool.and_eq_true] at carries
    exact (read.fits (inPhase_turnRuns carries.1.2 nofun nofun nofun)).sound read.stands (by simp) (by simp) (by simp)
  · split
    · next returns =>
      simp only [inPhase, Bool.and_eq_true, decide_eq_true_eq] at returns
      refine transmit_sound (aimRetest_sound (endReturn_sound read.stands fun park _ => read.fits ?_))
      exact ⟨by simp [returns.2.1], by simp [returns.2.1], fun p => park p.2⟩
    · exact h

theorem farEndSensor_sound {s t : State} (h : TrackerSound s) {on : Bool}
    (hx : exec (.farEndSensor on) s = .next t) : TrackerSound t := by
  have read : TrackerSound { s with pins := { s.pins with farEnd := on } } := h
  obtain rfl := Host.Outcome.next.inj hx
  split
  · next reaches =>
    simp only [Bool.and_eq_true] at reaches
    exact (read.fits (inPhase_turnRuns reaches.2 nofun nofun nofun)).sound read.stands (by simp) (by simp) (by simp)
  · split
    · next carries =>
      simp only [Bool.and_eq_true] at carries
      exact (read.fits (inPhase_turnRuns carries.1.2 nofun nofun nofun)).sound read.stands (by simp) (by simp) (by simp)
    · exact h

theorem openValve_sound {s : State} (h : TrackerSound s) : TrackerSound (openValve s) := h

theorem holdSensor_sound {s t : State} (h : TrackerSound s) {on : Bool} (hx : exec (.holdSensor on) s = .next t) :
    TrackerSound t := by
  have read : TrackerSound { s with pins := { s.pins with hold := on } } := h
  obtain rfl := Host.Outcome.next.inj hx
  split
  · next lifts =>
    simp only [Bool.and_eq_true] at lifts
    exact (read.fits (inPhase_turnRuns lifts.2 nofun nofun nofun)).sound read.stands (by simp) (by simp) (by simp)
  · split
    · exact openValve_sound read
    · exact h

theorem cupEmptySensor_sound {s t : State} (h : TrackerSound s) {on : Bool}
    (hx : exec (.cupEmptySensor on) s = .next t) : TrackerSound t := by
  obtain rfl := Host.Outcome.next.inj hx
  split
  · exact transmit_sound (aimRetest_sound (layPump_sound (openValve_sound h)))
  · exact h

theorem separationTime_sound {s t : State} (h : TrackerSound s) {count : Nat}
    (hx : exec (.separationTime count) s = .next t) : TrackerSound t := by
  obtain rfl := Host.Outcome.next.inj hx
  split
  · next separates =>
    have fits := h.fits (inPhase_turnRuns separates nofun nofun nofun)
    split
    · refine transmit_sound (aimRetest_sound (attemptEnds_sound ?_ ?_ _ _))
      · exact h.stands.keep (fun _ => rfl) rfl rfl rfl
      · exact fits.keep (fun _ => rfl) rfl rfl
    · split
      · exact fits.sound h.stands (by simp) (by simp) (by simp)
      · exact fits.sound h.stands (by simp) (by simp) (by simp)
  · exact h

theorem restoreEnds_sound {s : State} (h : TrackerStands s) (f : TurnFits s) : TrackerSound (restoreEnds s) := by
  refine attemptEnds_sound ?_ ?_ _ _
  · exact h.keep (fun _ => rfl) rfl rfl rfl
  · exact f.keep (fun _ => rfl) rfl rfl

theorem restoreRelease_sound {s : State} (h : TrackerSound s) : TrackerSound (restoreRelease s) := h

theorem restoreReleaseWait_sound {s t : State} (h : TrackerSound s) (hx : exec .restoreReleaseWait s = .next t) :
    TrackerSound t := by
  obtain rfl := Host.Outcome.next.inj hx
  split
  · next restores =>
    simp only [Bool.and_eq_true] at restores
    exact transmit_sound (aimRetest_sound
      (restoreEnds_sound h.stands (h.fits (inPhase_turnRuns restores.1 nofun nofun nofun))))
  · exact h

theorem liftTimeout_sound {s t : State} (h : TrackerSound s) (hx : exec .liftTimeout s = .next t) :
    TrackerSound t := by
  obtain rfl := Host.Outcome.next.inj hx
  split
  · next lifts =>
    have fits := h.fits (inPhase_turnRuns lifts nofun nofun nofun)
    refine transmit_sound (aimRetest_sound (attemptEnds_sound ?_ ?_ _ _))
    · exact h.stands.keep (fun _ => rfl) rfl rfl rfl
    · exact fits.keep (fun _ => rfl) rfl rfl
  · split
    · exact restoreRelease_sound h
    · exact h

theorem turnTimeout_sound {s t : State} (h : TrackerSound s) (hx : exec .turnTimeout s = .next t) :
    TrackerSound t := by
  obtain rfl := Host.Outcome.next.inj hx
  split
  · next runs =>
    simp only [Bool.and_eq_true, bne_iff_ne] at runs
    exact transmit_sound (aimRetest_sound (turnTimedOut_sound h runs.2))
  · exact h

theorem lowerTimedOut_sound {s : State} (h : TrackerSound s) : TrackerSound (lowerTimedOut s) := by
  have failed := pressFailed_inPlace (glassFault_inPlace (.refl s.store.slots) (.timeout s.pins.force))
  unfold lowerTimedOut
  exact h.quiet (by simp [failed]) (by simp) (by simp) (by simp) (by simp)

/-- The events that leave the turner, and of the tracker what the law reads. -/
theorem event_tracker {i : Instr} {s t : State} (hi : i.take? = none) (hclear : ∀ run, i ≠ .clearStore run)
    (hbyte : ∀ b, i ≠ .byteReceived b) (hsent : i ≠ .frameSent) (hon : ∀ pins, i ≠ .powerOn pins)
    (hreset : ∀ pins, i ≠ .resetLine pins) (hx : exec i s = .next t) (h : TrackerSound s) : TrackerSound t := by
  have k := event_inPlace hi hclear hbyte hsent hx
  cases i
  case clearStore run => exact absurd rfl (hclear run)
  case byteReceived b => exact absurd rfl (hbyte b)
  case frameSent => exact absurd rfl hsent
  case powerOn pins => exact absurd rfl (hon pins)
  case resetLine pins => exact absurd rfl (hreset pins)
  case homeSensor on => exact homeSensor_sound h hx
  case farEndSensor on => exact farEndSensor_sound h hx
  case holdSensor on => exact holdSensor_sound h hx
  case cupEmptySensor on => exact cupEmptySensor_sound h hx
  case separationTime count => exact separationTime_sound h hx
  case restoreReleaseWait => exact restoreReleaseWait_sound h hx
  case liftTimeout => exact liftTimeout_sound h hx
  case turnTimeout => exact turnTimeout_sound h hx
  case restoreDescentEnd =>
    obtain rfl := Host.Outcome.next.inj hx
    split
    · exact restoreRelease_sound h
    · exact h
  case auxEdge line =>
    obtain rfl := Host.Outcome.next.inj hx
    split
    · refine transmit_sound (aimRetest_sound (edgeActs_sound ?_ _ _))
      exact trackerSound_coreLaw s _ rfl rfl rfl h
    · exact h
  case platenSettled side position =>
    obtain rfl := Host.Outcome.next.inj hx
    exact transmit_sound (aimRetest_sound (layPump_sound (mechPump_sound (trackerSound_coreLaw s _ rfl rfl rfl h))))
  case raisedStopSensor on =>
    obtain rfl := Host.Outcome.next.inj hx
    split
    · exact transmit_sound (aimRetest_sound (glassReached_sound h))
    · exact h
  case glassMoveTimeout =>
    obtain rfl := Host.Outcome.next.inj hx
    split
    · exact transmit_sound (aimRetest_sound (lowerTimedOut_sound h))
    · exact transmit_sound (aimRetest_sound (raiseTimedOut_sound h))
    · exact h
  case gap | auxLevelChange | angleSettled
      | glassForceReading | supplySettled | idleStageExpiry | lightingGrant
      | lightingReady | referencePulseStart | referencePulseEnd | aimingInterval | exposureActiveRise
      | strobeDelayExpiry | strobeEnd | exposureActiveFall | cameraTimeout | volumeClockTick =>
    have frame : t.tracker.state = s.tracker.state ∧ t.tracker.slot = s.tracker.slot ∧ t.tracker.n = s.tracker.n
        ∧ t.turner = s.turner := by
      obtain rfl := Host.Outcome.next.inj hx
      (repeat' split) <;> simp
    obtain ⟨state, slot, n, turner⟩ := frame
    exact h.quiet k state slot n turner
  all_goals exact absurd hi nofun

theorem trackerSound_kept : KeptByCommands TrackerSound where
  core := trackerSound_coreLaw
  take _ _ hi _ := take_trackerSound hi
  restart _ cause rate h := restart_sound h cause rate
  clearCut _ writes h := clearCut_sound h writes
  endStream _ t h := endStream_sound h t
  event _ _ _ := event_tracker

/-- Settles O56, by the inversion of every command: it leaves the slots that are OPEN, the tracker and the turn, or
it is one of the operations above. -/
theorem stepsKeepTheTracker : Obligations.StepsKeepTheTracker := fun _ _ h hx => trackerSound_kept.step h hx

end Sys2Proof.Machine
end

-- ==== Proofs: marks and readings ====
section
/-! MarksEdited and ReadsChangeNothing, and what a request row has to show when its block refuses or answers at once. -/

namespace Sys2Proof.Machine

open Sys2Proof.Config

/-! ## Answers at once -/

/-- A block that answers with the state that the row names. -/
theorem takes_of_eq {i : Instr} {s : State} {kind tag : Nat} {take : State → State × Answer} {f : State → State}
    {a : Answer} (h : Ready s) (hi : exec i s = .next (arrive s kind tag take))
    (he : take (enqueue s kind tag) = (f (enqueue s kind tag), a))
    (hl : LinkKept (enqueue s kind tag) (f (enqueue s kind tag))) : Takes i s kind tag f a := by
  obtain ⟨framer, queue, replies, -, rate⟩ := hl
  refine takes_of_take h hi ?_ ?_ ?_ <;> rw [he]
  exact ⟨framer, queue, replies, rate⟩

theorem linkKept_refl (s : State) : LinkKept s s := ⟨rfl, rfl, rfl, rfl, rfl⟩

/-- A block that refuses leaves the state as it is. -/
theorem refuses_of_eq {i : Instr} {s : State} {kind tag : Nat} {take : State → State × Answer} {reason : Reason}
    {field : Nat} (h : Ready s) (hi : exec i s = .next (arrive s kind tag take))
    (he : take (enqueue s kind tag) = refuse (enqueue s kind tag) reason field) :
    Refuses i s kind tag reason field := takes_of_eq (f := id) h hi he (linkKept_refl _)

/-! ## Marks (R7 to R9) -/

theorem openVolume?_none {s : State} (h : openSlot? s.store.slots = none) : openVolume? s = none := by
  simp [openVolume?, h]

theorem takeSetMark_noVolume {s : State} (h : openSlot? s.store.slots = none) (leaf kinds : Nat) :
    takeSetMark leaf kinds s = refuse s .noVolume 0 := by
  simp [takeSetMark, openVolume?_none h]

/-- SET_MARK with a volume OPEN: the checks of R8, then the record put in its place. -/
theorem takeSetMark_of_open {s : State} {slot : SlotId} {v : Volume} (h : openSlot? s.store.slots = some (slot, v))
    (leaf kinds : Nat) :
    takeSetMark leaf kinds s =
      if leaf = 0 ∨ v.profile.leaves < leaf then refuse s .badValue 1
      else if kinds = 0 ∨ 8 ≤ kinds then refuse s .badValue 2
      else if 64 ≤ v.marks.length ∧ (∀ m ∈ v.marks, m.leaf ≠ leaf) then refuse s .storeFull 0
      else
        let k : MarkKinds := { foldout := kinds.testBit 0, plate := kinds.testBit 1, hold := kinds.testBit 2 }
        let marks := marksInsert v.marks { leaf := leaf, kinds := k }
        (setSlot s slot (.opened { v with marks := marks }), taken [u 2 leaf, u 1 marks.length]) := by
  simp only [takeSetMark, openVolume?_eq h, markKindsOf?, onOpen_eq h]
  split
  · rfl
  · split <;> simp_all

theorem takeClearMark_noVolume {s : State} (h : openSlot? s.store.slots = none) (leaf : Nat) :
    takeClearMark leaf s = refuse s .noVolume 0 := by
  simp [takeClearMark, openVolume?_none h]

theorem takeClearMark_of_open {s : State} {slot : SlotId} {v : Volume} (h : openSlot? s.store.slots = some (slot, v))
    (leaf : Nat) :
    takeClearMark leaf s =
      if leaf = 0 ∨ v.profile.leaves < leaf then refuse s .badValue 1
      else
        let marks := marksRemove v.marks leaf
        (setSlot s slot (.opened { v with marks := marks }), taken [u 2 leaf, u 1 marks.length]) := by
  simp only [takeClearMark, openVolume?_eq h, onOpen_eq h]

/-- Settles O19: a mark set is one record put at its place in a sorted list, a mark cleared is a filter. -/
theorem marksEdited : Obligations.MarksEdited := by
  refine ⟨fun tag leaf kinds s h => ?_, fun tag leaf s h => ?_⟩
  · split
    · next hopen => exact refuses_of_eq h rfl (takeSetMark_noVolume (s := enqueue s _ tag) hopen leaf kinds)
    · next slot v hopen =>
      have eq := takeSetMark_of_open (s := enqueue s 0x09 tag) hopen leaf kinds
      split
      · next bad => exact refuses_of_eq h rfl (eq.trans (if_pos bad))
      · next leafOk =>
        rw [if_neg leafOk] at eq
        split
        · next bad => exact refuses_of_eq h rfl (eq.trans (if_pos bad))
        · next kindsOk =>
          rw [if_neg kindsOk] at eq
          split
          · next full => exact refuses_of_eq h rfl (eq.trans (if_pos full))
          · next room =>
            rw [if_neg room] at eq
            exact ⟨_, takes_of_eq h rfl eq ⟨rfl, rfl, rfl, rfl, rfl⟩, fun sorted =>
              ⟨marksInsert_sorted _ sorted, fun m => mem_marksInsert sorted⟩⟩
  · split
    · next hopen => exact refuses_of_eq h rfl (takeClearMark_noVolume (s := enqueue s _ tag) hopen leaf)
    · next slot v hopen =>
      have eq := takeClearMark_of_open (s := enqueue s 0x0A tag) hopen leaf
      split
      · next bad => exact refuses_of_eq h rfl (eq.trans (if_pos bad))
      · next leafOk =>
        rw [if_neg leafOk] at eq
        refine ⟨takes_of_eq h rfl eq ⟨rfl, rfl, rfl, rfl, rfl⟩, fun absent => ?_, fun ⟨m, hm, at'⟩ => ?_⟩
        · exact List.filter_eq_self.mpr fun m hm => by simpa using absent m hm
        · exact List.length_filter_lt_length_iff_exists.mpr ⟨m, hm, by simpa using at'⟩

end Sys2Proof.Machine
end

-- ==== Proofs: how turns end ====
section
/-! ReturnEnds, TurnTimeoutHalts and ManualDone, and what an event has to show for `Does`. -/

namespace Sys2Proof.Machine

open Sys2Proof.Config

/-- An event whose work is done before the transmitter takes the next frame. -/
theorem does_of_transmit {i : Instr} {s u : State} (hx : exec i s = .next (transmit u)) (hl : LinkKept s u) :
    Does i s u := by
  obtain ⟨framer, queue, replies, resetting, rate⟩ := hl
  exact ⟨_, hx, apart_transmit u, by simp [LinkKept, framer, queue, replies, resetting, rate]⟩

/-! ## RETURN (R16, R53, R55, R59) -/

theorem endReturn_park {s : State} (h : s.turner.purpose = some .park) :
    endReturn s = latch (turnerIdle s .parked) (.turnDone (s.tracker.n.getD 0)) := by
  simp only [endReturn, h]
  rfl

theorem endReturn_failure {s : State} (h : s.turner.purpose = some .failureReturn) {a : Nat}
    (ha : s.turner.attempt = some a) :
    endReturn s = latch (appendIncident (turnerIdle s .failed) .turnFailed 1 a) (.turnFailed 1) := by
  simp only [endReturn, h, ha, Option.getD_some]

@[simp] theorem turnerIdle_tracker (s : State) (outcome : TurnOutcome) :
    (turnerIdle s outcome).tracker = s.tracker := rfl

/-- A turn's RETURN ends DONE at the opening it leads to. -/
theorem endReturn_turn {s : State} (h : s.turner.purpose = some .turn) {n : Nat} {d : Direction}
    (hn : s.tracker.n = some n) (hd : s.turner.direction = some d) :
    endReturn s = latch (visitStart (turnerIdle s .done) (reached n d)) (.turnDone (reached n d)) := by
  have done : turnCompleted (turnerIdle s .done) = visitStart (turnerIdle s .done) (reached n d) := by
    simp [turnCompleted, hn, hd]
  simp only [endReturn, h, done]
  simp [openingField]

theorem homeSensor_ret {s : State} (h : inPhase s.turner .ret = true) :
    exec (.homeSensor true) s
      = .next (transmit (aimRetest (endReturn { s with pins := { s.pins with home := true } }))) := by
  have notCarry : inPhase s.turner .carry = false := by
    simp only [inPhase, Bool.and_eq_true, decide_eq_true_eq] at h
    simp [inPhase, h.1]
  simp [exec, execHomeSensor, h, notCarry]

/-- Settles O34: RETURN's end, purpose by purpose. -/
theorem returnEnds : Obligations.ReturnEnds := by
  intro s
  refine ⟨fun p => rfl, fun h => ?_, ?_⟩
  · have ends {u : State} (e : endReturn { s with pins := { s.pins with home := true } } = u)
        (k : LinkKept s (aimRetest u)) : Does (.homeSensor true) s (aimRetest u) :=
      does_of_transmit (e ▸ homeSensor_ret h) k
    refine ⟨fun park => ends (endReturn_park park) ?_, fun failure a ha => ends ?_ ?_, fun turn n d hn hd => ends ?_ ?_⟩
    · simp [LinkKept]
    · exact endReturn_failure (s := { s with pins := { s.pins with home := true } }) failure ha
    · simp [LinkKept]
    · rw [endReturn_turn (s := { s with pins := { s.pins with home := true } }) turn hn hd]
      cases d <;> rfl
    · simp [LinkKept]
  · simp [exec, execHomeSensor]

/-! ## Time-outs (R17, R56, R59) -/

theorem stopArm_eq (s : State) :
    stopArm s = { s with turner := { s.turner with cupHeld := s.pins.hold, valveClosed := s.pins.hold } } := by
  unfold stopArm
  split
  · next held => simp [setTurner, held]
  · next empty =>
    have open' : { s.pins with hold := false } = s.pins := by cases h : s.pins; simp_all
    simp [openValve, setTurner, open', empty]

theorem turnerHalted_eq (s : State) (outcome : TurnOutcome) :
    turnerHalted s outcome = { s with turner := { s.turner with
      state := .halted, step := .running, purpose := none, lastOutcome := outcome, cupHeld := s.pins.hold
      valveClosed := s.pins.hold } } := by
  unfold turnerHalted
  rw [stopArm_eq]
  rfl

theorem turnTimedOut_park {s : State} (ret : s.turner.state = .ret) (park : s.turner.purpose = some .park) :
    turnTimedOut s = latch { s with turner :=
      { s.turner with state := .halted, step := .running, purpose := none, lastOutcome := .parkFailed } }
        (.turnParkFailed 2) := by
  simp [turnTimedOut, ret, park, setTurner]

theorem turnTimedOut_turn {s : State} (h : ¬ (s.turner.state = .ret ∧ s.turner.purpose = some .park)) :
    turnTimedOut s = enterUncertain (appendIncident (turnerHalted s .timeout) .turnTimeout (timeoutPhase s.turner.state)
      (bit s.pins.hold)) (.uncertainTimeout (timeoutPhase s.turner.state)) := by
  simp only [turnTimedOut, Bool.and_eq_true, decide_eq_true_eq, if_neg h]
  rw [turnerHalted_eq]

/-- Settles O35: a time-out of a turn's phase, and of a park. -/
theorem turnTimeoutHalts : Obligations.TurnTimeoutHalts := by
  intro s running
  have timedOut {u : State} (phase : timeoutPhase s.turner.state ≠ 0) (e : turnTimedOut s = u)
      (k : LinkKept s (aimRetest u)) : Does .turnTimeout s (aimRetest u) :=
    does_of_transmit (by simp [exec, execTurnTimeout, running, phase, e]) k
  refine ⟨fun phase at' => ?_, fun ret park => ?_⟩
  · have hphase : timeoutPhase s.turner.state = phase ∧ phase ≠ 0 := by
      rcases at' with ⟨e, rfl⟩ | ⟨e, rfl⟩ | ⟨e, rfl⟩ | ⟨e, -, rfl⟩ <;> simp [e, timeoutPhase]
    have notPark : ¬ (s.turner.state = .ret ∧ s.turner.purpose = some .park) := by
      rintro ⟨e, p⟩; simp [e, p] at at'
    refine timedOut (by omega) ((turnTimedOut_turn notPark).trans ?_) ?_
    · rw [hphase.1, turnerHalted_eq, ← running]
      simp [enterUncertain, setTracker]
    · split <;> simp [LinkKept]
  · refine timedOut (by simp [ret, timeoutPhase]) ((turnTimedOut_park ret park).trans ?_) ?_
    · rw [← running]
    · simp [LinkKept]

/-! ## MANUAL_DONE (R16, R61) -/

theorem turnerIdle_appendIncident (s : State) (kind : IncidentKind) (detail second : Nat) (outcome : TurnOutcome) :
    turnerIdle (appendIncident s kind detail second) outcome = { appendIncident s kind detail second with
      turner := { s.turner with state := .idle, step := .running, purpose := none, lastOutcome := outcome } } := by
  simp [turnerIdle, setTurner]

/-- The platens sent to the targets of the visit, where it has any. -/
def platensSent (s : State) : State :=
  match s.mech.targets with
  | some t => mechPump (setPlatens s t)
  | none => s

@[simp] theorem platensSent_n (s : State) : (platensSent s).tracker.n = s.tracker.n := by
  unfold platensSent; split <;> simp

/-- The turner and the tracker at the end of a manual turn. -/
theorem manualCompletes_eq {s : State} {n : Nat} {d : Direction} (hn : s.tracker.n = some n)
    (hd : s.turner.direction = some d) :
    manualCompletes s =
      latch
        (platensSent
          (visitStart (turnerIdle (appendIncident s .manualTurn d.code (s.turner.leaf.getD 0)) .done) (reached n d)))
        (.turnDone (reached n d)) := by
  have done : turnCompleted (turnerIdle (appendIncident s .manualTurn d.code (s.turner.leaf.getD 0)) .done)
      = visitStart (turnerIdle (appendIncident s .manualTurn d.code (s.turner.leaf.getD 0)) .done) (reached n d) := by
    simp [turnCompleted, hn, hd]
  have completes : manualCompletes s = latch (platensSent (turnCompleted
      (turnerIdle (appendIncident s .manualTurn d.code (s.turner.leaf.getD 0)) .done)))
      (.turnDone (openingField (platensSent (turnCompleted
        (turnerIdle (appendIncident s .manualTurn d.code (s.turner.leaf.getD 0)) .done))))) := by
    simp only [manualCompletes, hd, Option.getD_some]
    rfl
  rw [completes, done]
  simp [openingField]

theorem manualCompletes_opening {s : State} {n : Nat} {d : Direction} (hn : s.tracker.n = some n)
    (hd : s.turner.direction = some d) : openingField (manualCompletes s) = reached n d := by
  rw [manualCompletes_eq hn hd]
  simp [openingField]

theorem directionOf?_eq_some {code : Nat} {d : Direction} : directionOf? code = some d ↔ d.code = code := by
  unfold directionOf?
  split <;> cases d <;> simp_all [Direction.code, eq_comm]

theorem takeManualDone_wrong {s : State} {direction : Nat}
    (wait : ¬ (s.turner.state ≠ .manualWait ∨ s.turner.step ≠ .running))
    (wrong : s.turner.direction.map Direction.code ≠ some direction) :
    takeManualDone direction s = refuse s .badValue 1 := by
  have differs : directionOf? direction = none ∨ directionOf? direction ≠ s.turner.direction := by
    rcases h : directionOf? direction with _ | d
    · exact .inl rfl
    · refine .inr fun e => wrong ?_
      rw [← e, Option.map_some, directionOf?_eq_some.mp h]
  simp_all [takeManualDone]

theorem takeManualDone_taken {s : State} {d : Direction}
    (wait : ¬ (s.turner.state ≠ .manualWait ∨ s.turner.step ≠ .running))
    (hd : s.turner.direction = some d) :
    takeManualDone d.code s = (aimRetest (manualCompletes s), taken [u 2 (openingField (manualCompletes s))]) := by
  have named : directionOf? d.code = some d := directionOf?_eq_some.mpr rfl
  simp_all [takeManualDone, openingField]

/-- Settles O31: MANUAL_DONE's checks and the turn it completes. -/
theorem manualDone : Obligations.ManualDone := by
  intro tag direction s h
  split
  · next away =>
    refine refuses_of_eq h rfl ?_
    simp_all [takeManualDone]
  · next wait =>
    split
    · next wrong => exact refuses_of_eq h rfl (takeManualDone_wrong (s := enqueue s _ tag) wait wrong)
    · next right =>
      intro n hn
      obtain ⟨d, hd, rfl⟩ := Option.map_eq_some_iff.mp (not_not.mp right)
      have completes := manualCompletes_eq (s := enqueue s 0x12 tag) hn hd
      have next' : reached n d = if d.code = 1 then n + 1 else n - 1 := by cases d <;> rfl
      refine takes_of_eq h rfl ((takeManualDone_taken (s := enqueue s _ tag) wait hd).trans ?_) ?_
      · rw [manualCompletes_opening (s := enqueue s 0x12 tag) hn hd, completes, next', turnerIdle_appendIncident]
        rfl
      · dsimp only
        split <;> simp [LinkKept]

end Sys2Proof.Machine
end

-- ==== Proofs: the aiming light, checks and grants ====
section
/-! AimingLight and ChecksAndGrants. -/

namespace Sys2Proof.Machine

open Sys2Proof.Config

/-! ## When the aiming light is lit (R88) -/

theorem aimWanted_of_not_placed {s : State} (h : s.tracker.state ≠ .placed) : aimWanted s = false := by
  simp [aimWanted, h]

/-- Outside PLACED the aiming light is dark (R88). -/
theorem aimRetest_of_not_placed {s : State} (h : s.tracker.state ≠ .placed) :
    aimRetest s = { s with dose := { s.dose with aiming := none } } := by
  simp [aimRetest, aimWanted_of_not_placed h, aimDark]

theorem anyGood_iff (l : Lamps) :
    anyGood l = true ↔ l.health.la = .good ∨ l.health.lb = .good ∨ l.health.ra = .good ∨ l.health.rb = .good := by
  simp only [anyGood, Bank.all, List.any_cons, List.any_nil, Bool.or_eq_true, decide_eq_true_eq, Bool.false_eq_true,
    or_false]
  rfl

theorem aimWanted_iff (s : State) :
    aimWanted s = true ↔ s.tracker.state = .placed ∧ s.pause.hoodOpen = false ∧ s.lamps.supply = .ready
      ∧ stageLevel s.lamps ≠ 0
      ∧ (s.lamps.health.la = .good ∨ s.lamps.health.lb = .good ∨ s.lamps.health.ra = .good
          ∨ s.lamps.health.rb = .good)
      ∧ s.lamps.aimingCut = false ∧ s.lamps.holder = .free := by
  simp [aimWanted, anyGood_iff, and_assoc]

/-! ## Its illuminance (R105, R116) -/

theorem bankLux_eq (l : Lamps) (b : Bank) (level : Nat) :
    bankLux l b level = ((l.fullScale.get b).getD 0 * level + 999) / 1000 := by
  unfold bankLux
  split <;> simp_all [ceilDiv]

/-- The aiming illuminance of a GOOD bank. -/
def aimBank (l : Lamps) (level : Nat) (b : Bank) : Nat :=
  if l.health.get b = .good then ((l.fullScale.get b).getD 0 * level + 999) / 1000 else 0

theorem aimLux_eq (l : Lamps) (level : Nat) (side : Side) :
    aimLux l level side = match side with
      | .left => aimBank l level .la + aimBank l level .lb
      | .right => aimBank l level .ra + aimBank l level .rb := by
  cases side <;> simp [aimLux, sumSide, aimBank, bankLux_eq]

/-! ## Its intervals (R116 to R118) -/

/-- An interval whose prediction passes is charged in full. -/
theorem aimStart_of_passes {s : State} {slot : SlotId} {v : Volume} {n : Nat} {lux : Sides Nat}
    (hopen : openSlot? s.store.slots = some (slot, v)) (hn : s.tracker.n = some n)
    (hlux : aimFaces s.lamps (stageLevel s.lamps) = lux) (passes : predict v (facesOf n) (aimDose lux) = none) :
    aimStart s = charge
      { s with dose := { s.dose with aiming := some { elapsedUs := 0, level := stageLevel s.lamps, lux := lux } } }
      (facesOf n) (aimDose lux) none := by
  simp only [aimStart, openVolume?_eq hopen, hn, hlux, passes]

theorem aimStart_of_fails {s : State} {slot : SlotId} {v : Volume} {n named : Nat} {lux : Sides Nat}
    (hopen : openSlot? s.store.slots = some (slot, v)) (hn : s.tracker.n = some n)
    (hlux : aimFaces s.lamps (stageLevel s.lamps) = lux) (fails : predict v (facesOf n) (aimDose lux) = some named) :
    aimStart s = aimCut s named := by
  simp only [aimStart, openVolume?_eq hopen, hn, hlux, fails]

theorem logDoseLimit_eq (s : State) (cause named : Nat) :
    logDoseLimit s cause named =
      let noted := if s.tracker.doseLogged then s else appendIncident s .doseLimit cause named
      { noted with tracker := { s.tracker with doseLogged := true } } := by
  unfold logDoseLimit
  split <;> simp

theorem aimCut_eq (s : State) (named : Nat) :
    aimCut s named =
      let dark : State :=
        { s with lamps := { s.lamps with aimingCut := true }, dose := { s.dose with aiming := none } }
      let noted := if s.tracker.doseLogged = true then dark else appendIncident dark .doseLimit 3 named
      latch { noted with tracker := { s.tracker with doseLogged := true } } (.doseAimCut named) := by
  simp only [aimCut, logDoseLimit_eq, aimDark]

@[simp] theorem aimStart_linkKept (s : State) : LinkKept s (aimStart s) := by
  simp [LinkKept]

/-- Settles O42: the conditions of R88 as `aimWanted` puts them, and an interval that starts or is cut. -/
theorem aimingLight : Obligations.AimingLight := by
  refine ⟨fun s h => ?_, fun s slot v n hopen hn => ?_⟩
  · have dark := aimWanted_of_not_placed h
    exact ⟨aimRetest_of_not_placed h, by simp [exec, execAimingInterval, dark]⟩
  · intro level wanted lit own lux dose faces starts
    have hwanted : aimWanted s = true ↔ wanted := aimWanted_iff s
    have hstart : aimStart s = starts := by
      have hlux : aimFaces s.lamps (stageLevel s.lamps) = lux := by
        simp only [aimFaces, aimLux_eq]
        rfl
      rcases hp : predict v faces dose with _ | named
      · rw [aimStart_of_passes hopen hn hlux hp]
        simp only [starts, hp]
        rfl
      · rw [aimStart_of_fails hopen hn hlux hp, aimCut_eq]
        simp only [starts, hp]
    refine ⟨?_, ?_⟩
    · rw [aimRetest, hstart, if_congr hwanted rfl rfl]
      rcases s.dose.aiming with _ | iv
      · rfl
      · simp only [Option.map_some, Option.some.injEq]
        rfl
    · split
      · next lit =>
        rw [← hstart]
        exact does_of_transmit (by simp [exec, execAimingInterval, lit.1, hwanted.mpr lit.2]) (aimStart_linkKept s)
      · next unlit =>
        have : ¬ (s.dose.aiming.isSome = true ∧ aimWanted s = true) := by rwa [hwanted]
        simp [exec, execAimingInterval, this]

/-! ## REFERENCE_CHECK (R97) -/

theorem doseRefused_eq (s : State) (named : Nat) :
    doseRefused s named =
      let noted : State := { s with dose := { s.dose with lastRefusal := some named } }
      let logged :=
        if s.tracker.doseLogged = true then noted
        else appendIncident noted .doseLimit (if named = 65535 then 2 else 1) named
      latch { logged with tracker := { s.tracker with doseLogged := true } } (.doseLimit named) := by
  simp only [doseRefused, logDoseLimit_eq]
  rfl

/-- The answer to a check that passes the checks of R97: refused for the dose, or waiting. -/
def answerCheck (s : State) (check : Check) : State × Answer :=
  match predictCheck s check (boundNow s) (Sides.both 0) with
  | some named => (doseRefused s named, .refused (doseReason named) 0)
  | none => (aimRetest (supplyOn (setLamps s { s.lamps with waitingCheck := some check })), started [])

/-- REFERENCE_CHECK whose banks byte names a set: the checks of R97, then the prediction. -/
theorem takeReferenceCheck_of_set {banks : Nat} (h : ¬ (banks = 0 ∨ 16 ≤ banks)) (s : State) :
    takeReferenceCheck banks s =
      if s.lamps.waitingCheck.isSome = true ∨ checkHolds s.lamps = true then refuse s .busy 0
      else if s.pause.hoodOpen = true then refuse s .hoodOpen 0
      else if s.tracker.state = .uncertain then refuse s .uncertain 0
      else answerCheck s (newCheck .requested
        { la := banks.testBit 0, lb := banks.testBit 1, ra := banks.testBit 2, rb := banks.testBit 3 }) := by
  simp only [takeReferenceCheck, bankSetOf?, if_neg h, checkActive, Bool.or_eq_true]
  rfl

theorem answerCheck_of_fails {s : State} {check : Check} {named : Nat}
    (h : predictCheck s check (boundNow s) (Sides.both 0) = some named) :
    answerCheck s check = (doseRefused s named, .refused (doseReason named) 0) := by
  simp only [answerCheck, h]

theorem answerCheck_of_passes {s : State} {check : Check}
    (h : predictCheck s check (boundNow s) (Sides.both 0) = none) :
    answerCheck s check
      = (aimRetest (supplyOn (setLamps s { s.lamps with waitingCheck := some check })), started []) := by
  simp only [answerCheck, h]

theorem takeReferenceCheck_no_set {banks : Nat} (h : banks = 0 ∨ 16 ≤ banks) (s : State) :
    takeReferenceCheck banks s = refuse s .badValue 1 := by
  simp only [takeReferenceCheck, bankSetOf?, if_pos h]

/-! ## Grants (R92 to R94, R98, R100) -/

theorem grantable_iff (s : State) :
    grantable s = true ↔ s.lamps.holder = .free ∧ s.lamps.supply = .ready ∧ s.pause.hoodOpen = false := by
  simp [grantable, and_assoc]

theorem unusableSide?_isSome (l : Lamps) (sides : CaptureSides) :
    (unusableSide? l sides).isSome = true ↔
      (sides.has .left = true ∧ (sideStatus l .left).isUsable = false)
        ∨ (sides.has .right = true ∧ (sideStatus l .right).isUsable = false) := by
  unfold unusableSide?
  (repeat' split) <;> simp_all

/-- A capture granted with its requested sides USABLE: its firing banks and its cost fixed, the capture marked when a
side has one bank. -/
theorem grantCapture_of_usable {s : State} (h : unusableSide? s.lamps (s.capture.sides.getD .both) = none) :
    grantCapture s =
      let sides := s.capture.sides.getD .both
      let banks := firingBanks s.lamps sides
      aimDark { s with
        lamps := { s.lamps with
          waitingCapture := false, holder := .capture, fixedBanks := banks
          captureCost := strobeCost s.lamps banks .left + strobeCost s.lamps banks .right }
        capture := { s.capture with flags :=
          { s.capture.flags with singleBank := s.capture.flags.singleBank || anySingle s.lamps sides } } } := by
  simp only [grantCapture, h]
  split
  · next single => simp [single, setLamps, setCapture, aimDark]
  · next double => simp [double, setLamps, aimDark]

/-- The prediction of a check's pulses on the faces it is bound to, in the volume that is OPEN at their slot. -/
def predictBound (s : State) (banks : BankSet) (bound : Option BoundFaces) (more : Sides Nat) : Option Nat :=
  match bound with
  | none => none
  | some b =>
    match s.store.slots.get b.slot with
    | .opened v => predict v b.faces (addSides (checkDose s.lamps banks) more)
    | _ => none

theorem predictCheck_eq (s : State) (c : Check) (bound : Option BoundFaces) :
    predictCheck s c bound = predictBound s c.banks bound := by
  funext more
  rcases bound with _ | b
  · rfl
  · unfold predictCheck predictBound
    cases h : s.store.slots.get b.slot <;> simp only [h, Slot.opened?]

/-- What a grant makes of a waiting check, given how its prediction comes out. -/
def grantOutcome (s : State) (c : Check) (fails : Sides Nat → Option Nat) : State :=
  let taken := aimDark (setLamps s { s.lamps with waitingCheck := none })
  let granted : Check := { c with bound := boundNow s }
  let holds := setLamps taken { taken.lamps with holder := .check granted }
  if c.kind = .requested then
    if s.tracker.state = .uncertain then finishCheck taken c .endedUncertain
    else
      match fails (Sides.both 0) with
      | some named => finishCheck (doseRefused taken named) granted .refusedDose
      | none => holds
  else
    match fails (if s.lamps.waitingCapture = true then s.capture.admitted else Sides.both 0) with
    | some _ => deferCheck taken
    | none => holds

theorem grantCheck_eq (s : State) (c : Check) :
    grantCheck s c = grantOutcome s c (predictBound s c.banks (boundNow s)) := by
  unfold grantCheck grantOutcome
  cases h : c.kind <;> simp only [predictCheck_eq] <;> rfl

/-- Settles O43: the checks of R97 and the two grants, case by case. -/
theorem checksAndGrants : Obligations.ChecksAndGrants := by
  refine ⟨fun tag banks s h => ?_, doseRefused_eq, fun s => ?_, fun s => ?_⟩
  · split
    · next bad => exact refuses_of_eq h rfl (takeReferenceCheck_no_set bad _)
    · next good =>
      have eq := takeReferenceCheck_of_set good (enqueue s 0x25 tag)
      refine ite_prop_iff_and.mpr ⟨fun busy => refuses_of_eq h rfl (eq.trans (if_pos busy)), fun idle => ?_⟩
      replace eq := eq.trans (if_neg idle)
      refine ite_prop_iff_and.mpr ⟨fun hood => refuses_of_eq h rfl (eq.trans (if_pos hood)), fun closed => ?_⟩
      replace eq := eq.trans (if_neg closed)
      refine ite_prop_iff_and.mpr ⟨fun lost => refuses_of_eq h rfl (eq.trans (if_pos lost)), fun found => ?_⟩
      replace eq := eq.trans (if_neg found)
      dsimp only
      split
      · next named fails =>
        have refused := answerCheck_of_fails (s := enqueue s 0x25 tag) fails
        exact takes_of_eq h rfl (eq.trans refused) (by simp [LinkKept])
      · next passes =>
        have waits := answerCheck_of_passes (s := enqueue s 0x25 tag) passes
        exact takes_of_eq h rfl (eq.trans waits) (by simp [LinkKept])
  · exact does_of_transmit rfl (by simp [LinkKept])
  · intro free dark captured checked u
    have hfree (x : State) : grantable x = true ↔ free x := grantable_iff x
    have hcaptured (x : State) : grantCapture x = captured x := by
      by_cases unusable : (unusableSide? x.lamps (x.capture.sides.getD .both)).isSome = true
      · simp only [captured, if_pos ((unusableSide?_isSome _ _).mp unusable)]
        obtain ⟨side, e⟩ := Option.isSome_iff_exists.mp unusable
        simp only [grantCapture, e]
        rfl
      · simp only [captured, if_neg (mt (unusableSide?_isSome _ _).mpr unusable)]
        rw [grantCapture_of_usable (by simpa using unusable)]
        rfl
    have hchecked (c : Check) : grantCheck s c = checked c := grantCheck_eq s c
    have grants (x : State) : (if grantable x && x.lamps.waitingCapture then grantCapture x else x)
        = if free x ∧ x.lamps.waitingCapture = true then captured x else x := by
      simp only [Bool.and_eq_true, hfree, hcaptured]
    have hu : grantNext s = if grantable u && u.lamps.waitingCapture then grantCapture u else u := by
      rcases hw : s.lamps.waitingCheck with _ | c
      · simp only [grantNext, u, hw]
      · simp only [grantNext, u, hw, hfree, hchecked]
    exact hu.trans (grants u)

end Sys2Proof.Machine
end

-- ==== Proofs: the requests that read ====
section
/-! ReadsChangeNothing: the answers, and the items of each reading in the form of the rules. -/

namespace Sys2Proof.Machine

open Sys2Proof.Config

/-! ## Items -/

theorem mul_bit (k : Nat) (b : Bool) : k * bit b = if b = true then k else 0 := by cases b <;> simp [bit]

theorem bit_eq (b : Bool) : bit b = if b = true then 1 else 0 := rfl

theorem two_bits (a b : Bool) :
    bit a + 2 * bit b = (if a = true then 1 else 0) + if b = true then 2 else 0 := by
  rw [mul_bit, bit_eq]

theorem firstCode_eq (b : Bool) : firstCode b = if b = true then 0 else 1 := by cases b <;> rfl

theorem bit_not_eq (b : Bool) : bit (!b) = if b = true then 0 else 1 := by cases b <;> rfl

theorem clampTravel_eq (v : Nat) : clampTravel v = if 80000 < v then 80000 else v := by
  unfold clampTravel platenTravel
  split <;> omega

/-- The left face of an opening: the first board, or the even face of the leaf before (section 11.5). -/
theorem faceGroup_left (v : Volume) {n : Nat} (h : 1 ≤ n) :
    faceGroup v (leftFace n) = le 2 (2 * n - 2) ++ le 1 (if n = 1 then 0 else 2)
      ++ le 2 (if n = 1 then 0 else v.profile.firstFolio + (n - 1) - 1)
      ++ faceBytes (facesGet v.faces (2 * n - 2)) := by
  have label : faceLabel v.profile (leftFace n)
      = if n = 1 then (0, 0) else (2, v.profile.firstFolio + (n - 1) - 1) := by
    have half : (2 * n - 2) / 2 = n - 1 := by omega
    unfold faceLabel leftFace
    rw [half]
    grind
  rw [faceGroup, label]
  split <;> rfl

/-- The right face of an opening: the odd face of its leaf, or the last board. -/
theorem faceGroup_right (v : Volume) {n : Nat} (h : 1 ≤ n) :
    faceGroup v (rightFace n) = le 2 (2 * n - 1) ++ le 1 (if n = v.profile.leaves + 1 then 3 else 1)
      ++ le 2 (if n = v.profile.leaves + 1 then 0 else v.profile.firstFolio + n - 1)
      ++ faceBytes (facesGet v.faces (2 * n - 1)) := by
  have label : faceLabel v.profile (rightFace n)
      = if n = v.profile.leaves + 1 then (3, 0) else (1, v.profile.firstFolio + n - 1) := by
    have half : (2 * n - 1 + 1) / 2 = n := by omega
    unfold faceLabel rightFace
    rw [half]
    grind
  rw [faceGroup, label]
  split <;> rfl

theorem kinds_code (k : MarkKinds) :
    k.code = (if k.foldout = true then 1 else 0) + (if k.plate = true then 2 else 0)
      + if k.hold = true then 4 else 0 := by
  simp only [MarkKinds.code, mul_bit]
  rfl

theorem bankSetCode_eq (q : BankSet) :
    bankSetCode q = (if q.la = true then 1 else 0) + (if q.lb = true then 2 else 0) + (if q.ra = true then 4 else 0)
      + if q.rb = true then 8 else 0 := by
  simp only [bankSetCode, mul_bit]
  rfl

theorem entryFlags_code (f : EntryFlags) :
    f.code = (if f.under = true then 1 else 0) + (if f.singleBank = true then 2 else 0)
      + (if f.focusLimit = true then 4 else 0) + (if f.noGlass = true then 8 else 0)
      + if f.manual = true then 16 else 0 := by
  simp only [EntryFlags.code, mul_bit]
  rfl

/-- The results of a check, bank after bank in the order of R95. -/
theorem resultBytes_eq (results : Banks (Option PulseResult)) :
    resultBytes results =
      let pulsed (b : Bank) : Nat := if (results.get b).isSome = true then 1 else 0
      let result (b : Bank) : List Byte :=
        match results.get b with
        | some x => le 2 x.reading ++ le 1 x.verdict.code
        | none => []
      le 1 (pulsed .la + pulsed .lb + pulsed .ra + pulsed .rb)
        ++ result .la ++ result .lb ++ result .ra ++ result .rb := by
  have members (l : List Bank) :
      (l.filterMap results.get).flatMap (fun x => le 2 x.reading ++ le 1 x.verdict.code)
        = l.flatMap fun b => match results.get b with
          | some x => le 2 x.reading ++ le 1 x.verdict.code
          | none => [] := by
    induction l with
    | nil => rfl
    | cons b rest ih => rw [List.filterMap_cons, List.flatMap_cons, ← ih]; cases results.get b <;> rfl
  simp only [resultBytes, members, List.length_filterMap_eq_countP]
  simp [Bank.all, List.countP_cons]
  ac_rfl

theorem sideClamped_eq (s : State) (side : Side) :
    sideClamped s side
      = match s.mech.targets.map fun t => t.get side with | some v => decide (80000 < v) | none => false := by
  unfold sideClamped
  cases s.mech.targets <;> rfl

theorem gateOpen_eq (s : State) :
    gateOpen s = (platenSettled s .left && platenSettled s .right && angleSettled s
      && decide (s.mech.glass.state ≠ .lowering) && decide (s.mech.glass.state ≠ .raising)) := by
  unfold gateOpen movesDone platensSettled
  cases s.mech.glass.state <;> simp

theorem bankCode_eq (b : Bank) : bankCode b = match b with | .la => 0 | .lb => 1 | .ra => 2 | .rb => 3 := by
  cases b <;> rfl

theorem checkOutcome_code_pred (o : CheckOutcome) :
    o.code - 1 = match o with | .complete => 0 | .endedHood => 1 | .endedUncertain => 2 | .refusedDose => 3 := by
  cases o <;> rfl

theorem openingItems_of_not_placed {s : State} (h : s.tracker.state ≠ .placed) :
    openingItems s =
      [ u 1 s.tracker.state.code, ou 1 (s.tracker.slot.map SlotId.number), ou 2 s.tracker.n, ou 2 s.tracker.lastPlaced,
        u 1 (bit (((openVolume? s).map fun v => v.placedBefore).getD false) + 2 * bit s.tracker.doseLogged),
        ou 2 ((openVolume? s).map fun v => v.profile.leaves), .opt 13 none, .opt 13 none, .opt 3 none, .opt 3 none,
        u 1 s.turner.state.code, u 1 s.capture.state.code, u 1 s.pause.state.code, .opt 9 none ] := by
  unfold openingItems
  cases hs : s.tracker.state <;> simp_all

/-- The group of the platens at an opening: the targets within the travel, and whether they stand there. -/
def platenGroup (s : State) (t : Sides Nat) : List Byte :=
  le 4 (clampTravel t.left) ++ le 4 (clampTravel t.right) ++ le 1 (bit !platensSettled s)

theorem openingItems_of_placed {s : State} {v : Volume} {n : Nat} (hv : openVolume? s = some v)
    (placed : s.tracker.state = .placed) (hn : s.tracker.n = some n) :
    openingItems s =
      [ u 1 s.tracker.state.code, ou 1 (s.tracker.slot.map SlotId.number), ou 2 s.tracker.n, ou 2 s.tracker.lastPlaced,
        u 1 (bit (((openVolume? s).map fun v => v.placedBefore).getD false) + 2 * bit s.tracker.doseLogged),
        ou 2 ((openVolume? s).map fun v => v.profile.leaves), .opt 13 (some (faceGroup v (leftFace n))),
        .opt 13 (some (faceGroup v (rightFace n))), .opt 3 ((marksShown v.marks n)[0]?.map markBytes),
        .opt 3 ((marksShown v.marks n)[1]?.map markBytes), u 1 s.turner.state.code, u 1 s.capture.state.code,
        u 1 s.pause.state.code, .opt 9 (s.mech.targets.map (platenGroup s)) ] := by
  unfold openingItems platenGroup
  simp only [hv, placed, hn]
  cases s.mech.targets <;> rfl

/-- The flags byte of READ_OPENING: placed before, dose limit logged. -/
theorem openingFlags_eq (volume : Option Volume) (logged : Bool) :
    bit ((volume.map fun v => v.placedBefore).getD false) + 2 * bit logged
      = (if volume.map Volume.placedBefore = some true then 1 else 0) + if logged = true then 2 else 0 := by
  rw [two_bits]
  cases volume <;> simp

theorem takeReadFaces_of_record {field first count : Nat} {slot : SlotId} {v : Volume} {s : State}
    (hslot : SlotId.ofNumber? field = some slot) (hv : (s.store.slots.get slot).volume? = some v) :
    takeReadFaces field first count s =
      if count = 0 ∨ 96 < count then refuse s .badValue 3
      else if 2 * v.profile.leaves + 2 < first + count then refuse s .badValue 2
      else (s, taken [.bytes (le 1 count ++ faceRecordsFrom v.faces first count)]) := by
  simp only [takeReadFaces, hslot, hv]

/-- Settles O18: the requests that read answer at once with the state as it is, and their items are those of the
rules. -/
theorem readsChangeNothing : Obligations.ReadsChangeNothing := by
  refine ⟨fun tag s h => ?_, fun tag s h => ?_, fun s => ?_, rfl, rfl, rfl, rfl, rfl, rfl, rfl, rfl, rfl, rfl, rfl, rfl,
    rfl, rfl, rfl, rfl, rfl, rfl, rfl, rfl, rfl, fun r => rfl, bankSetCode_eq, entryFlags_code⟩
  · have reads {i : Instr} {kind : Nat} {take : State → State × Answer} {a : Answer}
        (hi : exec i s = .next (arrive s kind tag take))
        (he : take (enqueue s kind tag) = (enqueue s kind tag, a)) : Takes i s kind tag id a :=
      takes_of_eq (f := id) h hi he (linkKept_refl _)
    refine ⟨reads rfl rfl, reads rfl rfl, reads rfl rfl, reads rfl rfl, reads rfl rfl, reads rfl rfl, ?_⟩
    intro field first count
    split
    · next none' => exact refuses_of_eq h rfl (by simp only [takeReadFaces, none'])
    · next slot hslot =>
      split
      · next free => exact refuses_of_eq h rfl (by simp only [takeReadFaces, hslot, enqueue_frame, free])
      · next v hv =>
        have eq := takeReadFaces_of_record (first := first) (count := count) (s := enqueue s 0x08 tag) hslot hv
        split
        · next bad => exact refuses_of_eq h rfl (eq.trans (if_pos bad))
        · next some' =>
          replace eq := eq.trans (if_neg some')
          split
          · next beyond => exact refuses_of_eq h rfl (eq.trans (if_pos beyond))
          · next within' => exact reads rfl (eq.trans (if_neg within'))
  · have answered : takeIdentify (enqueue s 0x48 tag) = _ := rfl
    exact takes_of_eq (f := id) h rfl answered (linkKept_refl _)
  · intro flag first rests turns clamp volume record mark opening list platen l bank held faces number pulsed result c
      side t g
    have hfirst : firstCode = first := funext firstCode_eq
    have hnot (b : Bool) : bit (!b) = first b := bit_not_eq b
    have hclamp : clampTravel = clamp := funext clampTravel_eq
    have hmark : markBytes = mark := funext fun m => by rw [markBytes, kinds_code]
    have hnumber : bankCode = number := funext bankCode_eq
    have hplaten (x : Side) : platenItems s x = platen x := by
      simp only [platenItems, sideClamped_eq, hclamp, hnot]
      rfl
    have hgroup : platenGroup s = fun w =>
        le 4 (clamp w.left) ++ le 4 (clamp w.right) ++ le 1 (first (rests .left && rests .right)) := by
      funext w
      simp only [platenGroup, hclamp, hnot]
      rfl
    have hrecord (r : CheckRecord) : le 1 r.kind.code ++ le 1 (bankSetCode r.banks) ++ resultBytes r.results
        = le 1 r.kind.code ++ le 1 (bankSetCode r.banks)
          ++ le 1 (pulsed r .la + pulsed r .lb + pulsed r .ra + pulsed r .rb)
          ++ result r .la ++ result r .lb ++ result r .ra ++ result r .rb := by
      simp only [resultBytes_eq, ← List.append_assoc]
      rfl
    refine ⟨fun q => rfl, fun h => ?_, fun v n hv placed hn low => ?_, ?_, ?_, ?_, ?_⟩
    · rw [openingItems_of_not_placed h, openingFlags_eq]
      rfl
    · rw [openingItems_of_placed hv placed hn, openingFlags_eq, faceGroup_left v low, faceGroup_right v low, hmark,
        hgroup]
      rfl
    · simp only [turnerItems, listedItem, hfirst]
      rfl
    · simp only [mechanicsItems, hplaten, gateOpen_eq, listedItem, hfirst, hnot]
      rfl
    · simp only [lampItems, checkItems, recordItems, hnumber, hrecord, two_bits, checkOutcome_code_pred]
      rfl
    · simp only [captureReadItems, captureSideItems, listedItem, hfirst]
      rfl

end Sys2Proof.Machine
end

-- ==== Proofs: visits, PLACE and TURN ====
section
/-! VisitsStartAndEnd, PlaceTaken and TurnTaken. -/

namespace Sys2Proof.Machine

open Sys2Proof.Config

/-! ## The end of a visit (R15, R88, R117, R135) -/

/-- The capture that awaits receipts or acceptance is VOID in the log when its visit ends. -/
def voidWaiting (s : State) : State :=
  if s.capture.state = .receiptWait ∨ s.capture.state = .acceptWait then setPendingStatus s .void else s

/-- The Capture Unit once a visit has ended: its settings and counters stay. -/
def captureCleared (c : Capture) : Capture :=
  { Capture.restarted c.releaseMode with
    counter := c.counter, timeout := c.timeout, strobeDelay := c.strobeDelay, pedalCapture := c.pedalCapture
    lastOutcome := if c.state = .receiptWait ∨ c.state = .acceptWait then .voidStop else c.lastOutcome }

theorem captureChange_eq {s : State} (arming : s.capture.state ≠ .arming) (exposing : s.capture.state ≠ .exposing) :
    captureChange s = { voidWaiting s with capture := captureCleared s.capture } := by
  unfold captureChange voidWaiting captureCleared
  cases h : s.capture.state <;> simp_all [setCapture, clearCapture, Capture.restarted]

theorem voidWaiting_setTracker (s : State) (t : Tracker) :
    voidWaiting { s with tracker := t } = { voidWaiting s with tracker := t } := by
  unfold voidWaiting setPendingStatus onPendingEntry onOpen
  dsimp only
  (repeat' split) <;> rfl

@[simp] theorem voidWaiting_frame (s : State) :
    (voidWaiting s).pending = s.pending ∧ (voidWaiting s).pins = s.pins ∧ (voidWaiting s).tracker = s.tracker
      ∧ (voidWaiting s).turner = s.turner ∧ (voidWaiting s).mech = s.mech ∧ (voidWaiting s).lamps = s.lamps
      ∧ (voidWaiting s).dose = s.dose ∧ (voidWaiting s).capture = s.capture ∧ (voidWaiting s).pause = s.pause
      ∧ (voidWaiting s).summary = s.summary ∧ (voidWaiting s).link = s.link := by
  unfold voidWaiting; split <;> simp

theorem endVisit_eq {s : State} (arming : s.capture.state ≠ .arming) (exposing : s.capture.state ≠ .exposing) :
    endVisit s = { voidWaiting s with
      tracker := { s.tracker with doseLogged := false }, capture := captureCleared s.capture
      lamps := { s.lamps with aimingCut := false }, dose := { s.dose with aiming := none } } := by
  have changed := captureChange_eq (s := { s with tracker := { s.tracker with doseLogged := false } }) arming exposing
  unfold endVisit
  rw [changed, voidWaiting_setTracker]
  simp [aimDark, setLamps]

/-! ## The targets of a visit (R65, R67) -/

/-- An append leaves the blocks that it does not read, and does the same whatever they hold. -/
theorem appendIncident_blocks (s : State) (c : Capture) (l : Lamps) (d : DoseUnit) (m : Mechanics) (kind : IncidentKind)
    (detail second : Nat) :
    appendIncident { s with capture := c, lamps := l, dose := d, mech := m } kind detail second
      = { appendIncident s kind detail second with capture := c, lamps := l, dose := d, mech := m } := by
  have same : Agree { s with capture := c, lamps := l, dose := d, mech := m } s := ⟨rfl, rfl, rfl, rfl⟩
  obtain ⟨store, -, summary, link⟩ := agree_appendIncident same kind detail second
  exact State.eq_of ⟨store, summary, link⟩ (by simp)

theorem appendIncident_mech (s : State) (m : Mechanics) (kind : IncidentKind) (detail second : Nat) :
    appendIncident { s with mech := m } kind detail second
      = { appendIncident s kind detail second with mech := m } := by
  simpa using appendIncident_blocks s s.capture s.lamps s.dose m kind detail second

/-- A side's PLATEN_LIMIT entry, where its target is beyond the travel. -/
def noteClamp (s : State) (targets : Sides Nat) (side : Side) : State :=
  if 80000 < targets.get side then appendIncident s .platenLimit (sideCode side) (targets.get side) else s

/-- A side's clamp, logged in its record. -/
def clampLogged (m : Mechanics) (targets : Sides Nat) (side : Side) : Mechanics :=
  { m with platens := m.platens.set side { m.platens.get side with logged := decide (80000 < targets.get side) } }

theorem noteClamp_blocks (s : State) (c : Capture) (l : Lamps) (d : DoseUnit) (m : Mechanics) (targets : Sides Nat)
    (side : Side) :
    noteClamp { s with capture := c, lamps := l, dose := d, mech := m } targets side
      = { noteClamp s targets side with capture := c, lamps := l, dose := d, mech := m } := by
  unfold noteClamp
  split
  · exact appendIncident_blocks s c l d m _ _ _
  · rfl

@[simp] theorem noteClamp_frame (s : State) (targets : Sides Nat) (side : Side) :
    (noteClamp s targets side).pending = s.pending ∧ (noteClamp s targets side).pins = s.pins
      ∧ (noteClamp s targets side).tracker = s.tracker ∧ (noteClamp s targets side).turner = s.turner
      ∧ (noteClamp s targets side).mech = s.mech ∧ (noteClamp s targets side).lamps = s.lamps
      ∧ (noteClamp s targets side).dose = s.dose ∧ (noteClamp s targets side).capture = s.capture
      ∧ (noteClamp s targets side).pause = s.pause := by
  unfold noteClamp; split <;> simp

/-- A side's clamp is noted when it was not logged yet. -/
theorem logPlaten_eq (s : State) {m : Mechanics} {side : Side} {t : Sides Nat} (ht : m.targets = some t)
    (fresh : (m.platens.get side).logged = false) :
    logPlaten { s with mech := m } side = { noteClamp s t side with mech := clampLogged m t side } := by
  have clamps : isClamped (t.get side) = decide (80000 < t.get side) := rfl
  by_cases clamped : 80000 < t.get side
  · simp [logPlaten, ht, fresh, clamps, noteClamp, clampLogged, clamped, appendIncident_mech]
  · have same : m.platens.set side { m.platens.get side with logged := false } = m.platens := by
      rw [← fresh]; cases side <;> rfl
    simp [logPlaten, ht, clamps, noteClamp, clampLogged, clamped, same]
    rw [← ht]

/-- The targets of a visit, computed from platens with no clamp logged yet: each clamped side noted, left then right. -/
theorem computeTargets_eq {s : State} {v : Volume} (hv : openVolume? s = some v)
    (left : s.mech.platens.left.logged = false) (right : s.mech.platens.right.logged = false) {n : Nat} {t : Sides Nat}
    (ht : platenTargets v.profile n = t) :
    computeTargets s n = { noteClamp (noteClamp s t .left) t .right with
      mech := clampLogged (clampLogged { s.mech with targets := some t } t .left) t .right } := by
  let m : Mechanics := { s.mech with targets := some t }
  have onLeft := logPlaten_eq s (m := m) (side := .left) rfl left
  have onRight := logPlaten_eq (noteClamp s t .left) (m := clampLogged m t .left) (side := .right) rfl right
  simp only [computeTargets, hv, ht]
  exact (congrArg (logPlaten · .right) onLeft).trans onRight

/-! ## The start of a visit (R15) -/

theorem voidWaiting_openVolume {s : State} {slot : SlotId} {v : Volume}
    (h : openSlot? s.store.slots = some (slot, v)) :
    ∃ w, openVolume? (voidWaiting s) = some w ∧ w.profile = v.profile := by
  unfold voidWaiting
  split
  · have voided : setPendingStatus s .void = setSlot s slot (.opened
        { v with log := v.log.map (Entry.onPending fun c => { c with status := .void }) }) := onOpen_eq h _
    rw [voided]
    exact ⟨_, openVolume?_eq (openSlot?_set h _), rfl⟩
  · exact ⟨v, openVolume?_eq h, rfl⟩

/-- The blocks that a visit's end clears, and the platens `m` of Cradle Mechanics, taken from `s` into `u`. -/
def visitBlocks (s : State) (m : Mechanics) (u : State) : State :=
  { u with
    capture := captureCleared s.capture, lamps := { s.lamps with aimingCut := false }
    dose := { s.dose with aiming := none }, mech := m }

theorem noteClamp_visitBlocks (s u : State) (m : Mechanics) (targets : Sides Nat) (side : Side) :
    noteClamp (visitBlocks s m u) targets side = visitBlocks s m (noteClamp u targets side) :=
  noteClamp_blocks u _ _ _ _ targets side

/-- The record of the platens at the start of a visit. -/
def platensPlaced (m : Mechanics) (targets : Sides Nat) : Mechanics :=
  { m with
    targets := some targets
    platens :=
      { left := { m.platens.left with logged := decide (80000 < targets.left) }
        right := { m.platens.right with logged := decide (80000 < targets.right) } } }

/-- A visit starts PLACED with the capture's items absent, the aiming interval abandoned and its targets computed. -/
theorem visitStart_eq {s : State} {slot : SlotId} {v : Volume} (h : openSlot? s.store.slots = some (slot, v))
    (arming : s.capture.state ≠ .arming) (exposing : s.capture.state ≠ .exposing) (n : Nat) :
    visitStart s n =
      let t := platenTargets v.profile n
      let placed : State :=
        { voidWaiting s with tracker := { s.tracker with state := .placed, n := some n, doseLogged := false } }
      visitBlocks s (platensPlaced s.mech t) (noteClamp (noteClamp placed t .left) t .right) := by
  obtain ⟨w, hw, profile⟩ := voidWaiting_openVolume h
  let placed : State :=
    { voidWaiting s with tracker := { s.tracker with state := .placed, n := some n, doseLogged := false } }
  have ended : clearPlatenLogs (endVisit (setTracker s { s.tracker with state := .placed, n := some n }))
      = visitBlocks s (clearPlatenLogs s).mech placed := by
    rw [endVisit_eq (s := setTracker s { s.tracker with state := .placed, n := some n }) arming exposing]
    simp [setTracker, voidWaiting_setTracker, clearPlatenLogs, visitBlocks, placed]
  have computed := computeTargets_eq (s := visitBlocks s (clearPlatenLogs s).mech placed) (v := w) hw rfl rfl
    (congrArg (platenTargets · n) profile)
  simp only [noteClamp_visitBlocks] at computed
  exact (congrArg (computeTargets · n) ended).trans computed

/-- Leaving PLACED keeps the opening as the last placed one and takes the targets away (R67, R68). -/
theorem leavePlaced_eq {s : State} (arming : s.capture.state ≠ .arming) (exposing : s.capture.state ≠ .exposing) :
    leavePlaced s = visitBlocks s
      { s.mech with
        targets := none
        platens :=
          { left := { s.mech.platens.left with logged := false }
            right := { s.mech.platens.right with logged := false } } }
      { voidWaiting s with
        tracker := { s.tracker with n := none, lastPlaced := s.tracker.n, doseLogged := false } } := by
  simp [leavePlaced, endVisit_eq arming exposing, dropTargets, clearPlatenLogs, setTracker, visitBlocks]

/-- Settles O26: a visit's start and PLACED left, each as one record of the state before. -/
theorem visitsStartAndEnd : Obligations.VisitsStartAndEnd := by
  intro s n slot v hopen arming exposing
  exact ⟨congrArg apart ((visitStart_eq hopen arming exposing n).trans rfl),
    congrArg apart ((leavePlaced_eq arming exposing).trans rfl)⟩

end Sys2Proof.Machine
end

-- ==== Proofs: PLACE and TURN taken ====
section
/-! PlaceTaken and TurnTaken. -/

namespace Sys2Proof.Machine

open Sys2Proof.Config

/-! ## PLACE (R13, R14) -/

/-- A slot that stays OPEN with its profile. -/
theorem SameOpen.openVolume {s t : State} (h : SameOpen s.store.slots t.store.slots) {slot : SlotId} {v : Volume}
    (hopen : openSlot? s.store.slots = some (slot, v)) :
    ∃ w, openSlot? t.store.slots = some (slot, w) ∧ w.profile = v.profile := by
  have := h.openSlot?_eq
  rw [hopen] at this
  obtain ⟨⟨i, w⟩, hw, e⟩ := Option.map_eq_some_iff.mp this
  obtain ⟨rfl, profile⟩ := Prod.mk.injEq .. ▸ e
  exact ⟨w, hw, profile⟩

/-- A visit has the targets of its opening (R65). -/
theorem visitStart_targets {s : State} {slot : SlotId} {v : Volume} (h : openSlot? s.store.slots = some (slot, v))
    (n : Nat) : (visitStart s n).mech.targets = some (platenTargets v.profile n) := by
  have same : SameOpen s.store.slots
      (clearPlatenLogs (endVisit (setTracker s { s.tracker with state := .placed, n := some n }))).store.slots :=
    InPlace.sameOpen (by simp)
  obtain ⟨w, hw, profile⟩ := same.openVolume h
  simp [visitStart, computeTargets, openVolume?_eq hw, profile]

theorem placeAt_eq {s : State} {slot : SlotId} {v : Volume} (h : openSlot? s.store.slots = some (slot, v)) (n : Nat) :
    placeAt s n =
      let noted := if v.placedBefore = true then appendIncident s .reseat (s.tracker.n.getD 0) n else s
      let visit := visitStart (onOpen noted fun v => { v with placedBefore := true }) n
      aimRetest (idleRestart (mechPump (setAngleTarget (setPlatens visit (platenTargets v.profile n))
        v.profile.initialAngle))) := by
  have noted : logReseat s n
      = if v.placedBefore = true then appendIncident s .reseat (s.tracker.n.getD 0) n else s := by
    simp only [logReseat, openVolume?_eq h]
    rfl
  have same : SameOpen s.store.slots (onOpen (logReseat s n) fun v => { v with placedBefore := true }).store.slots :=
    (onOpen_inPlace (logReseat_inPlace (.refl _) n) placedBefore_keeps).sameOpen
  obtain ⟨w, hw, profile⟩ := same.openVolume h
  have targets := visitStart_targets hw n
  obtain ⟨x, hx, profile'⟩ := (visitStart_inPlace (.refl _) n).sameOpen.openVolume hw
  simp only [placeAt, targets, openVolume?_eq hx, profile', profile]
  rw [noted]

theorem placeHeld_iff (s : State) :
    placeHeld s = true ↔ s.turner.state ≠ .idle ∨ (s.capture.state ≠ .none ∧ s.capture.state ≠ .released)
      ∨ s.pause.state = .pausedBroken := by
  simp [placeHeld, or_assoc]

/-- PLACE: the checks of R13 in their order. -/
theorem takePlace_eq (n : Nat) (s : State) :
    takePlace n s =
      if s.tracker.state = .noVolume then refuse s .wrongState 0
      else if n = 0 ∨ openLeaves s + 1 < n then refuse s .badValue 1
      else if s.tracker.state = .placed
          ∧ (s.turner.state ≠ .idle ∨ (s.capture.state ≠ .none ∧ s.capture.state ≠ .released)
            ∨ s.pause.state = .pausedBroken) then refuse s .wrongState 0
      else (placeAt s n, taken [u 2 n]) := by
  simp only [takePlace, Bool.and_eq_true, decide_eq_true_eq, placeHeld_iff]

/-- Settles O27: PLACE's checks in the model's order, and the visit it starts. -/
theorem placeTaken : Obligations.PlaceTaken := by
  refine ⟨fun s slot v h => ?_, fun tag n s h => ?_⟩
  · simp [openLeaves, openVolume?_eq h]
  · have eq := takePlace_eq n (enqueue s 0x0B tag)
    split
    · next none' => exact refuses_of_eq h rfl (eq.trans (if_pos none'))
    · next volume =>
      replace eq := eq.trans (if_neg volume)
      split
      · next bad => exact refuses_of_eq h rfl (eq.trans (if_pos bad))
      · next good =>
        replace eq := eq.trans (if_neg good)
        split
        · next held => exact refuses_of_eq h rfl (eq.trans (if_pos held))
        · next free =>
          intro slot v hopen
          refine takes_of_eq h rfl ((eq.trans (if_neg free)).trans ?_) ?_
          · rw [placeAt_eq (s := enqueue s 0x0B tag) hopen]
            rfl
          · dsimp only
            split <;> simp [LinkKept]

/-! ## TURN (R46, R47) -/

/-- A leaf's mark kinds, in marks kept in leaf order. -/
theorem marksOf_of_mem {marks : List Mark} (sorted : marks.Pairwise fun a b => a.leaf < b.leaf) {m : Mark}
    (hm : m ∈ marks) : marksOf marks m.leaf = m.kinds := by
  induction marks with
  | nil => simp at hm
  | cons y rest ih =>
    obtain ⟨above, rising⟩ := List.pairwise_cons.mp sorted
    rcases List.mem_cons.mp hm with rfl | later
    · simp [marksOf]
    · have passed : y.leaf ≠ m.leaf := (above m later).ne
      simpa [marksOf, passed] using ih rising later

theorem marksOf_of_absent {marks : List Mark} {leaf : Nat} (h : ∀ m ∈ marks, m.leaf ≠ leaf) :
    marksOf marks leaf = { foldout := false, plate := false, hold := false } := by
  have : marks.find? (fun m => m.leaf = leaf) = none := List.find?_eq_none.mpr (by simpa using h)
  simp [marksOf, this]

/-- The checks of R46 in their order, on the bytes of the request. -/
theorem turnRefusal?_eq {s : State} {v : Volume} (hv : openVolume? s = some v) (direction flags : Nat) :
    turnRefusal? s direction flags =
      if direction ≠ 1 ∧ direction ≠ 2 then some (.badValue, 1)
      else if 4 ≤ flags then some (.badValue, 2)
      else if s.tracker.state = .uncertain ∨ s.pause.state = .pausedBroken then some (.uncertain, 0)
      else if s.tracker.state ≠ .placed ∨ s.turner.state = .halted then some (.wrongState, 0)
      else if s.turner.state ≠ .idle then some (.busy, 0)
      else if direction = 1 ∧ v.profile.leaves < s.tracker.n.getD 0 ∨ direction = 2 ∧ s.tracker.n.getD 0 < 2 then
        some (.endOfVolume, 0)
      else if s.capture.state = .arming ∨ s.capture.state = .exposing then some (.busy, 0)
      else if s.capture.state = .receiptWait ∨ s.capture.state = .acceptWait
          ∨ s.capture.state = .none ∧ flags.testBit 0 = false then some (.wrongState, 0)
      else none := by
  unfold turnRefusal?
  by_cases flagsBad : 4 ≤ flags
  · by_cases forward : direction = 1
    · simp [hv, forward, directionOf?, turnFlagsOf?, flagsBad]
    · by_cases back : direction = 2
      · simp [hv, back, directionOf?, turnFlagsOf?, flagsBad]
      · simp [hv, forward, back, directionOf?]
  · by_cases forward : direction = 1
    · simp [hv, forward, directionOf?, turnFlagsOf?, flagsBad, openingField, captureRuns]
      grind
    · by_cases back : direction = 2
      · simp [hv, back, directionOf?, turnFlagsOf?, flagsBad, openingField, captureRuns]
        grind
      · simp [hv, forward, back, directionOf?]

theorem turnRefusal?_noVolume {s : State} (h : openVolume? s = none) (direction flags : Nat) :
    turnRefusal? s direction flags = some (.noVolume, 0) := by
  simp [turnRefusal?, h]

theorem takeTurn_of_refused {s : State} {direction flags : Nat} {reason : Reason} {field : Nat}
    (h : turnRefusal? s direction flags = some (reason, field)) :
    takeTurn direction flags s = (aimRetest (idleRestart s), .refused reason field) := by
  have h' : turnRefusal? (idleRestart s) direction flags = some (reason, field) := h
  simp only [takeTurn, turnArrives, h', refuse]

/-- A TURN that passes the checks of R46 in a pause waits in the deferred slot. -/
theorem takeTurn_of_paused {s : State} {direction flags : Nat} (h : turnRefusal? s direction flags = none)
    (paused : s.pause.state = .paused) :
    takeTurn direction flags s =
      if s.pause.deferred.isSome = true then (aimRetest (idleRestart s), .refused .busy 0)
      else (aimRetest { idleRestart s with pause := { s.pause with deferred := some (.turn direction flags) } },
        .own .deferred 4 []) := by
  have h' : turnRefusal? (idleRestart s) direction flags = none := h
  have paused' : (idleRestart s).pause.state = .paused := paused
  simp only [takeTurn, turnArrives, h', if_pos paused', deferRequest]
  by_cases held : s.pause.deferred.isSome = true
  · have held' : (idleRestart s).pause.deferred.isSome = true := held
    simp only [if_pos held, if_pos held', refuse]
  · have free : ¬ (idleRestart s).pause.deferred.isSome = true := held
    simp only [if_neg held, if_neg free]
    rfl

theorem takeTurn_of_running {s : State} {direction flags : Nat} {v : Volume} {d : Direction} {skip manual : Bool}
    (h : turnRefusal? s direction flags = none) (running : s.pause.state ≠ .paused) (hv : openVolume? s = some v)
    (hd : directionOf? direction = some d) (hf : turnFlagsOf? flags = some (skip, manual)) :
    takeTurn direction flags s
      = (aimRetest (startTurn (idleRestart s) v d manual).1, (startTurn (idleRestart s) v d manual).2) := by
  have h' : turnRefusal? (idleRestart s) direction flags = none := h
  have running' : (idleRestart s).pause.state ≠ .paused := running
  have hv' : openVolume? (idleRestart s) = some v := hv
  simp only [takeTurn, turnArrives, h', if_neg running', hv', hd, hf]

/-- A turn taken: SKIPPED from capture state NONE, the record of R47, and the raise asked. -/
theorem startTurn_eq (s : State) (v : Volume) (d : Direction) (manualFlag : Bool) :
    startTurn s v d manualFlag =
      let n := s.tracker.n.getD 0
      let noted := if s.capture.state = .none then appendIncident s .skipped n d.code else s
      let record := turnRecord s.turner v n d manualFlag
      (turnerAsksRaise { noted with turner := record } .turn, started (turnItems record)) := by
  unfold startTurn
  split <;> simp [setTurner, openingField]

theorem turnItems_turnRecord (t : Turner) (v : Volume) (n : Nat) (d : Direction) (manualFlag : Bool) :
    turnItems (turnRecord t v n d manualFlag) =
      let leaf := leafToMove n d
      let kinds := marksOf v.marks leaf
      let manual := kinds.foldout || manualFlag
      [ u 1 d.code, u 2 leaf, u 1 (if manual then 0 else 1),
        ou 1 (if manual then none else some (if kinds.plate then 1 else v.profile.airLevel)),
        u 1 t.settings.limit ] := by
  simp only [turnItems, turnRecord, listedItem, firstCode_eq, Option.map_some, Option.getD_some]

/-- Settles O28: TURN's checks in the model's order, its deferral, and the record of a turn taken. -/
theorem turnTaken : Obligations.TurnTaken := by
  refine ⟨fun s => rfl, fun marks leaf sorted => ⟨fun m hm at' => ?_, marksOf_of_absent⟩,
    fun tag direction flags s h => ?_⟩
  · rw [← at']
    exact marksOf_of_mem sorted hm
  · intro no
    have refused {reason : Reason} {field : Nat}
        (e : turnRefusal? (enqueue s 0x10 tag) direction flags = some (reason, field)) : no reason field :=
      takes_of_eq h rfl (takeTurn_of_refused e) (by simp [LinkKept])
    split
    · next hopen => exact refused (turnRefusal?_noVolume (openVolume?_none hopen) direction flags)
    · next slot v hopen =>
      intro n
      have eq := turnRefusal?_eq (s := enqueue s 0x10 tag) (openVolume?_eq hopen) direction flags
      refine ite_prop_iff_and.mpr ⟨fun bad => refused (eq.trans (if_pos bad)), fun directionOk => ?_⟩
      replace eq := eq.trans (if_neg directionOk)
      refine ite_prop_iff_and.mpr ⟨fun bad => refused (eq.trans (if_pos bad)), fun flagsOk => ?_⟩
      replace eq := eq.trans (if_neg flagsOk)
      refine ite_prop_iff_and.mpr ⟨fun bad => refused (eq.trans (if_pos bad)), fun certain => ?_⟩
      replace eq := eq.trans (if_neg certain)
      refine ite_prop_iff_and.mpr ⟨fun bad => refused (eq.trans (if_pos bad)), fun placed => ?_⟩
      replace eq := eq.trans (if_neg placed)
      refine ite_prop_iff_and.mpr ⟨fun bad => refused (eq.trans (if_pos bad)), fun idle => ?_⟩
      replace eq := eq.trans (if_neg idle)
      refine ite_prop_iff_and.mpr ⟨fun bad => refused (eq.trans (if_pos bad)), fun within' => ?_⟩
      replace eq := eq.trans (if_neg within')
      refine ite_prop_iff_and.mpr ⟨fun bad => refused (eq.trans (if_pos bad)), fun still => ?_⟩
      replace eq := eq.trans (if_neg still)
      refine ite_prop_iff_and.mpr ⟨fun bad => refused (eq.trans (if_pos bad)), fun captured => ?_⟩
      replace eq := eq.trans (if_neg captured)
      refine ite_prop_iff_and.mpr ⟨fun paused => ?_, fun running => ?_⟩
      · have waits := takeTurn_of_paused (s := enqueue s 0x10 tag) eq paused
        split
        · next held => exact takes_of_eq h rfl (waits.trans (if_pos held)) (by simp [LinkKept])
        · next free => exact takes_of_eq h rfl (waits.trans (if_neg free)) (by simp [LinkKept])
      · have hf : turnFlagsOf? flags = some (flags.testBit 0, flags.testBit 1) := if_neg flagsOk
        have starts {d : Direction} (hd : directionOf? direction = some d) :=
          takeTurn_of_running (s := enqueue s 0x10 tag) eq running (openVolume?_eq hopen) hd hf
        simp only [startTurn_eq, turnItems_turnRecord] at starts
        rcases (by omega : direction = 1 ∨ direction = 2) with rfl | rfl
        · refine takes_of_eq h rfl ((starts rfl).trans rfl) ?_
          dsimp only
          split <;> simp [LinkKept]
        · refine takes_of_eq h rfl ((starts rfl).trans rfl) ?_
          dsimp only
          split <;> simp [LinkKept]

end Sys2Proof.Machine
end

-- ==== Proofs: OPEN_VOLUME ====
section
/-! OpenVolume: the checks of a profile, field by field, and the volume that a good one sets up. -/

namespace Sys2Proof.Machine

open Sys2Proof.Config

/-! ## The lowest failing field -/

theorem firstBad_eq_none {checks : List (Nat × Bool)} : firstBad checks = none ↔ ∀ i, (i, false) ∉ checks := by
  induction checks with
  | nil => simp [firstBad]
  | cons c rest ih =>
    obtain ⟨j, good⟩ := c
    cases good
    · simpa [firstBad] using ⟨j, fun h => absurd rfl h⟩
    · simp [firstBad, ih]

/-- Among checks in ascending order of their fields, the first that fails is the lowest. -/
theorem firstBad_eq_some {checks : List (Nat × Bool)} (sorted : checks.Pairwise fun a b => a.1 < b.1) {i : Nat} :
    firstBad checks = some i ↔ (i, false) ∈ checks ∧ ∀ j, j < i → (j, false) ∉ checks := by
  induction checks with
  | nil => simp [firstBad]
  | cons c rest ih =>
    obtain ⟨j, good⟩ := c
    obtain ⟨above, rising⟩ := List.pairwise_cons.mp sorted
    cases good
    · simp only [firstBad, Bool.false_eq_true, if_false, Option.some.injEq, List.mem_cons, Prod.mk.injEq, and_true]
      constructor
      · rintro rfl
        refine ⟨.inl rfl, fun k hk => ?_⟩
        rintro (rfl | later)
        · omega
        · have := above _ later
          omega
      · rintro ⟨rfl | later, lowest⟩
        · rfl
        · exact absurd (.inl rfl) (lowest j (above _ later))
    · simp [firstBad, ih rising]

/-! ## The shelf mark (R5, R170, R173) -/

theorem textOf_append {text : List Byte} (h : ∀ b ∈ text, b ≠ 0) (zeros : Nat) :
    textOf (text ++ List.replicate zeros 0) = text := by
  unfold textOf
  rw [List.takeWhile_append_of_pos (by simpa using h)]
  cases zeros <;> simp [List.replicate_succ]

/-- A text field obeys R170 when its bytes are printable up to the zeros that fill it. -/
theorem textGood_iff (bs : List Byte) :
    textGood bs = true ↔ (∀ b ∈ textOf bs, 0x20 ≤ b.toNat ∧ b.toNat ≤ 0x7E)
      ∧ bs = textOf bs ++ List.replicate (bs.dropWhile (· != 0)).length 0 := by
  have cut : bs = textOf bs ++ bs.dropWhile (· != 0) := List.takeWhile_append_dropWhile.symm
  have fill : (bs.dropWhile (· != 0)).all (· == 0) = true
      ↔ bs = textOf bs ++ List.replicate (bs.dropWhile (· != 0)).length 0 := by
    rw [List.all_eq_true]
    constructor
    · intro zero
      rw [← List.eq_replicate_of_mem fun b hb => by simpa using zero b hb]
      exact cut
    · intro e b hb
      rw [List.append_cancel_left (cut.symm.trans e)] at hb
      simp [List.eq_of_mem_replicate hb]
  rw [textGood, Bool.and_eq_true, fill]
  simp only [List.all_eq_true, within, Bool.and_eq_true, decide_eq_true_eq]

theorem shelfMarkGood_iff (bs : List Byte) :
    shelfMarkGood bs = true ↔ ∃ text zeros, bs = text ++ List.replicate zeros 0
      ∧ (∀ b ∈ text, 0x20 ≤ b.toNat ∧ b.toNat ≤ 0x7E) ∧ 1 ≤ text.length ∧ text.length ≤ 40
      ∧ text.head? ≠ some 0x20 ∧ text.getLast? ≠ some 0x20 := by
  simp only [shelfMarkGood, Bool.and_eq_true, textGood_iff, within, decide_eq_true_eq, bne_iff_ne]
  constructor
  · rintro ⟨⟨⟨⟨range, fill⟩, low, high⟩, head⟩, last⟩
    exact ⟨_, _, fill, range, low, high, head, last⟩
  · rintro ⟨text, zeros, rfl, range, low, high, head, last⟩
    have nonzero : ∀ b ∈ text, b ≠ 0 := by
      rintro b hb rfl
      exact absurd (range 0 hb).1 (by decide)
    have fill : (text ++ List.replicate zeros (0 : Byte)).dropWhile (· != 0) = List.replicate zeros 0 := by
      rw [List.dropWhile_append_of_pos (by simpa using nonzero)]
      cases zeros <;> simp [List.replicate_succ]
    rw [textOf_append nonzero, fill, List.length_replicate]
    exact ⟨⟨⟨⟨range, rfl⟩, low, high⟩, head⟩, last⟩

/-! ## The profile's fields (R5, R173) -/

/-- Whether the field of an index is good; an index of no field is. -/
def fieldGood (p : RawProfile) : Nat → Bool
  | 0 => !p.presence.testBit 14 && !p.presence.testBit 15
  | 1 => fieldPresent p 1 && shelfMarkGood p.shelfMark
  | 2 => fieldPresent p 2 && within 1 99 p.partNumber
  | 3 => fieldPresent p 3 && within 1 4000 p.leaves
  | 4 => fieldPresent p 4 && within 1 9999 p.firstFolio
  | 5 => fieldPresent p 5 && within 20 2000 p.thickness
  | 6 => fieldPresent p 6 && within 80 140 p.angleLimit
  | 7 => fieldPresent p 7 && within 80 140 p.initialAngle && within 80 p.angleLimit p.initialAngle
  | 8 => fieldPresent p 8 && within 0 1 p.glassMode
  | 9 => fieldPresent p 9 && within 0 2000 p.forceLimit
  | 10 => fieldPresent p 10 && within 1 4 p.airLevel
  | 11 => fieldPresent p 11 && within 1 4000000 p.pageAllowance
  | 12 => fieldPresent p 12 && within 1 4294967295 p.volumeAllowance
  | 13 => !fieldPresent p 13 || within 50 99 p.warning
  | 14 => fieldPresent p 14 && within 0 1 p.releaseMode
  | _ => true

/-- The checks that `profileBad?` makes, in the order of the fields. -/
def profileChecks (p : RawProfile) : List (Nat × Bool) := (List.range 15).map fun i => (i, fieldGood p i)

theorem profileBad?_eq (p : RawProfile) : profileBad? p = firstBad (profileChecks p) := rfl

theorem profileChecks_sorted (p : RawProfile) : (profileChecks p).Pairwise fun a b => a.1 < b.1 :=
  List.pairwise_map.mpr List.pairwise_lt_range

theorem mem_profileChecks (p : RawProfile) (i : Nat) : (i, false) ∈ profileChecks p ↔ fieldGood p i = false := by
  have beyond : fieldGood p i = false → i < 15 := by
    intro bad
    by_contra high
    obtain ⟨k, rfl⟩ := Nat.exists_eq_add_of_le' (Nat.not_lt.mp high)
    simp [fieldGood] at bad
  simp only [profileChecks, List.mem_map, List.mem_range, Prod.mk.injEq]
  constructor
  · rintro ⟨j, -, rfl, bad⟩
    exact bad
  · exact fun bad => ⟨i, beyond bad, rfl, bad⟩

/-- A field that is missing or out of its range. -/
theorem fieldCheck_eq_false (p : RawProfile) (i low high v : Nat) :
    (fieldPresent p i && within low high v) = false ↔ p.presence.testBit (i - 1) = false ∨ v < low ∨ high < v := by
  simp only [fieldPresent, within, Bool.and_eq_false_iff, decide_eq_false_iff_not, not_le]

theorem shelfCheck_eq_false (p : RawProfile) :
    (fieldPresent p 1 && shelfMarkGood p.shelfMark) = false ↔ p.presence.testBit 0 = false
      ∨ ¬ ∃ text zeros, p.shelfMark = text ++ List.replicate zeros 0
        ∧ (∀ b ∈ text, 0x20 ≤ b.toNat ∧ b.toNat ≤ 0x7E) ∧ 1 ≤ text.length ∧ text.length ≤ 40
        ∧ text.head? ≠ some 0x20 ∧ text.getLast? ≠ some 0x20 := by
  rw [← shelfMarkGood_iff, Bool.and_eq_false_iff, Bool.not_eq_true]
  rfl

theorem angleCheck_eq_false (p : RawProfile) :
    (fieldPresent p 7 && within 80 140 p.initialAngle && within 80 p.angleLimit p.initialAngle) = false ↔
      (p.presence.testBit 6 = false ∨ p.initialAngle < 80 ∨ 140 < p.initialAngle) ∨ p.angleLimit < p.initialAngle := by
  rw [Bool.and_eq_false_iff, fieldCheck_eq_false]
  simp only [within, Bool.and_eq_false_iff, decide_eq_false_iff_not, not_le]
  grind

theorem warningCheck_eq_false (p : RawProfile) :
    (!fieldPresent p 13 || within 50 99 p.warning) = false ↔
      p.presence.testBit 12 = true ∧ (p.warning < 50 ∨ 99 < p.warning) := by
  simp [fieldPresent, within]
  grind

theorem reservedCheck_eq_false (p : RawProfile) :
    (!p.presence.testBit 14 && !p.presence.testBit 15) = false ↔
      p.presence.testBit 14 = true ∨ p.presence.testBit 15 = true := by
  cases p.presence.testBit 14 <;> simp

/-- A field fails by the rule of its index (R5). -/
def BadField (p : RawProfile) (index : Nat) : Prop :=
  let out (low high v : Nat) : Prop := p.presence.testBit (index - 1) = false ∨ v < low ∨ high < v
  match index with
  | 0 => p.presence.testBit 14 = true ∨ p.presence.testBit 15 = true
  | 1 =>
    p.presence.testBit 0 = false ∨ ¬ ∃ text zeros, p.shelfMark = text ++ List.replicate zeros 0
      ∧ (∀ b ∈ text, 0x20 ≤ b.toNat ∧ b.toNat ≤ 0x7E) ∧ 1 ≤ text.length ∧ text.length ≤ 40
      ∧ text.head? ≠ some 0x20 ∧ text.getLast? ≠ some 0x20
  | 2 => out 1 99 p.partNumber
  | 3 => out 1 4000 p.leaves
  | 4 => out 1 9999 p.firstFolio
  | 5 => out 20 2000 p.thickness
  | 6 => out 80 140 p.angleLimit
  | 7 => out 80 140 p.initialAngle ∨ p.angleLimit < p.initialAngle
  | 8 => out 0 1 p.glassMode
  | 9 => out 0 2000 p.forceLimit
  | 10 => out 1 4 p.airLevel
  | 11 => out 1 4000000 p.pageAllowance
  | 12 => out 1 4294967295 p.volumeAllowance
  | 13 => p.presence.testBit 12 = true ∧ (p.warning < 50 ∨ 99 < p.warning)
  | 14 => out 0 1 p.releaseMode
  | _ => False

theorem badField_iff (p : RawProfile) : ∀ i, BadField p i ↔ fieldGood p i = false
  | 0 => (reservedCheck_eq_false p).symm
  | 1 => (shelfCheck_eq_false p).symm
  | 2 => (fieldCheck_eq_false p 2 1 99 p.partNumber).symm
  | 3 => (fieldCheck_eq_false p 3 1 4000 p.leaves).symm
  | 4 => (fieldCheck_eq_false p 4 1 9999 p.firstFolio).symm
  | 5 => (fieldCheck_eq_false p 5 20 2000 p.thickness).symm
  | 6 => (fieldCheck_eq_false p 6 80 140 p.angleLimit).symm
  | 7 => (angleCheck_eq_false p).symm
  | 8 => (fieldCheck_eq_false p 8 0 1 p.glassMode).symm
  | 9 => (fieldCheck_eq_false p 9 0 2000 p.forceLimit).symm
  | 10 => (fieldCheck_eq_false p 10 1 4 p.airLevel).symm
  | 11 => (fieldCheck_eq_false p 11 1 4000000 p.pageAllowance).symm
  | 12 => (fieldCheck_eq_false p 12 1 4294967295 p.volumeAllowance).symm
  | 13 => (warningCheck_eq_false p).symm
  | 14 => (fieldCheck_eq_false p 14 0 1 p.releaseMode).symm
  | _ + 15 => by simp [BadField, fieldGood]

theorem lowestFree?_eq (q : Slots) :
    lowestFree? q = if q.s0 = .free then some .s0 else if q.s1 = .free then some .s1
      else if q.s2 = .free then some .s2 else if q.s3 = .free then some .s3 else none := by
  have free (x : Slot) : x.state = .free ↔ x = .free := by cases x <;> simp [Slot.state]
  simp only [lowestFree?, SlotId.all, List.find?_cons, List.find?_nil, Slots.get, free]
  grind

/-! ## The volume set up -/

theorem lowestFree?_free {q : Slots} {slot : SlotId} (h : lowestFree? q = some slot) : q.get slot = .free := by
  have := List.find?_some h
  cases e : q.get slot <;> simp_all [Slot.state]

theorem openVolumeAt_free {s : State} {slot : SlotId} (h : s.store.slots.get slot = .free) (p : Profile) :
    freeFaces (openVolumeAt s slot p) = freeFaces s - (2 * p.leaves + 2)
      ∧ freeEntries (openVolumeAt s slot p) = freeEntries s := by
  have faces := usedFaces_set s.store.slots slot (.opened (newVolume p))
  have entries := usedEntries_set s.store.slots slot (.opened (newVolume p))
  have slots : (openVolumeAt s slot p).store.slots = s.store.slots.set slot (.opened (newVolume p)) := rfl
  have held : (Slot.opened (newVolume p)).faceCount = 2 * p.leaves + 2 ∧ (Slot.opened (newVolume p)).entryCount = 0 :=
    ⟨rfl, rfl⟩
  have none' : Slot.free.faceCount = 0 ∧ Slot.free.entryCount = 0 := ⟨rfl, rfl⟩
  rw [h] at faces entries
  unfold freeFaces freeEntries
  rw [slots]
  omega

/-- OPEN_VOLUME with a good profile and a FREE slot: the room for its face records and its log, then the volume. -/
theorem takeOpenVolume_of_good {s : State} {raw : RawProfile} {slot : SlotId}
    (none' : ¬ (openSlot? s.store.slots).isSome)
    (good : profileBad? raw = none) (free : lowestFree? s.store.slots = some slot) :
    takeOpenVolume raw s =
      if freeFaces s < 2 * raw.leaves + 2 then refuse s .storeFull 3
      else if freeEntries s ≤ 8 then refuse s .storeFull 0
      else (openVolumeAt s slot (profileOf raw),
        taken [u 1 slot.number, u 2 (freeFaces s - (2 * raw.leaves + 2)), u 2 (freeEntries s)]) := by
  obtain ⟨faces, entries⟩ := openVolumeAt_free (lowestFree?_free free) (profileOf raw)
  simp only [takeOpenVolume, if_neg none', good, free, freeItems, faces, entries]
  rfl

/-- Settles O13: the checks of R25 in the model's order, the profile's fields each by its range. -/
theorem openVolume : Obligations.OpenVolume := by
  refine ⟨fun q => ⟨fun i v => openSlot?_get, openSlot?_eq_none, lowestFree?_eq q⟩, fun s => ?_,
    fun tag raw s h => ?_, ?_⟩
  · intro entries faces
    have hentries (i : SlotId) : entries i = (s.store.slots.get i).entryCount := by
      simp only [entries]
      cases s.store.slots.get i <;> rfl
    have hfaces (i : SlotId) : faces i = (s.store.slots.get i).faceCount := by
      simp only [faces]
      cases s.store.slots.get i <;> rfl
    simp only [hentries, hfaces]
    exact ⟨rfl, rfl⟩
  · split
    · next opened => exact refuses_of_eq h rfl (if_pos opened)
    · next none' =>
      split
      · next field bad => exact refuses_of_eq h rfl (by simp only [takeOpenVolume, enqueue_frame, if_neg none', bad])
      · next good full =>
        exact refuses_of_eq h rfl (by simp only [takeOpenVolume, enqueue_frame, if_neg none', good, full])
      · next slot good free =>
        have eq := takeOpenVolume_of_good (s := enqueue s 0x01 tag) none' good free
        split
        · next short => exact refuses_of_eq h rfl (eq.trans (if_pos short))
        · next room =>
          replace eq := eq.trans (if_neg room)
          split
          · next short => exact refuses_of_eq h rfl (eq.trans (if_pos short))
          · next room' => exact takes_of_eq h rfl (eq.trans (if_neg room')) (linkKept_refl _)
  · intro raw bad
    have hbad (i : Nat) : bad i ↔ (i, false) ∈ profileChecks raw :=
      (badField_iff raw i).trans (mem_profileChecks raw i).symm
    refine ⟨?_, fun i => ?_, fun text zeros fill nonzero => ?_⟩
    · rw [profileBad?_eq, firstBad_eq_none]
      simp only [hbad]
    · rw [profileBad?_eq, firstBad_eq_some (profileChecks_sorted raw)]
      simp only [hbad]
    · simp only [profileOf, fill, textOf_append nonzero]
      rfl

end Sys2Proof.Machine
end

-- ==== Proofs: CLOSE_VOLUME ====
section
/-! CloseVolume: an append written out, the uncovered faces, and the frozen record. -/

namespace Sys2Proof.Machine

open Sys2Proof.Config

/-! ## An incident in the OPEN volume's record (R42) -/

/-- The record after an incident's append: the entry at its end, or the log-complete flag cleared. -/
def notedRecord (s : State) (v : Volume) (kind : IncidentKind) (detail second : Nat) : Volume :=
  if freeEntries s = 0 then { v with logComplete := false }
  else
    { v with
      incidentCount := v.incidentCount + 1
      log := v.log ++ [{ opening := s.tracker.n.getD 0, timestamp := v.clock, body := .incident kind detail second }] }

theorem notedRecord_frozen (s : State) (v : Volume) (kind : IncidentKind) (detail second : Nat) :
    { notedRecord s v kind detail second with placedBefore := false } =
      if freeEntries s = 0 then { v with placedBefore := false, logComplete := false }
      else
        { v with
          placedBefore := false, incidentCount := v.incidentCount + 1
          log := v.log ++
            [{ opening := s.tracker.n.getD 0, timestamp := v.clock, body := .incident kind detail second }] } := by
  unfold notedRecord
  split <;> rfl

/-- An append takes one free entry. -/
theorem freeEntries_notedRecord {s : State} {slot : SlotId} {v : Volume} (h : openSlot? s.store.slots = some (slot, v))
    (kind : IncidentKind) (detail second : Nat) (room : freeEntries s ≠ 0) :
    freeEntries (setSlot s slot (.opened (notedRecord s v kind detail second))) = freeEntries s - 1 := by
  have used := usedEntries_set s.store.slots slot (.opened (notedRecord s v kind detail second))
  have before : (s.store.slots.get slot).entryCount = v.log.length := by rw [openSlot?_get h]; rfl
  have after : (Slot.opened (notedRecord s v kind detail second)).entryCount = v.log.length + 1 := by
    simp [Slot.entryCount, Slot.volume?, notedRecord, room]
  rw [before, after] at used
  unfold freeEntries
  rw [setSlot_slots]
  omega

/-- An append with a volume OPEN: the record written, then STORE INCIDENT_LOST or STORE LOW where one is due. -/
theorem appendIncident_eq {s : State} {slot : SlotId} {v : Volume} (h : openSlot? s.store.slots = some (slot, v))
    (kind : IncidentKind) (detail second : Nat) :
    appendIncident s kind detail second =
      let written := setSlot s slot (.opened (notedRecord s v kind detail second))
      if freeEntries s = 0 then latch written (.storeLost kind.code)
      else if freeEntries s ≤ 257 then latch written (.storeLow (freeEntries s - 1))
      else written := by
  unfold appendIncident
  rw [openVolume?_eq h]
  by_cases full : freeEntries s = 0
  · simp only [if_pos full, loseEntry, onOpen_eq h, notedRecord]
  · have stored : onOpen (storeEntry s (.incident kind detail second)) (fun v =>
        { v with incidentCount := v.incidentCount + 1 })
        = setSlot s slot (.opened (notedRecord s v kind detail second)) := by
      unfold storeEntry
      rw [onOpen_eq h, onOpen_eq (openSlot?_set h _), setSlot_setSlot]
      simp only [notedRecord, if_neg full]
      rfl
    have low : freeEntries s - 1 ≤ lowMark ↔ freeEntries s ≤ 257 := by
      unfold lowMark
      omega
    simp only [if_neg full, stored, latchLow, freeEntries_notedRecord h kind detail second full, low]

theorem appendIncident_slots {s : State} {slot : SlotId} {v : Volume} (h : openSlot? s.store.slots = some (slot, v))
    (kind : IncidentKind) (detail second : Nat) :
    (appendIncident s kind detail second).store.slots
      = s.store.slots.set slot (.opened (notedRecord s v kind detail second)) := by
  rw [appendIncident_eq h]
  dsimp only
  (repeat' split) <;> simp

/-! ## The uncovered faces (R29) -/

theorem hasPending_iff (v : Volume) :
    hasPending v = true ↔ ∃ e ∈ v.log, ∃ c, e.body = .capture c ∧ c.status = .pending := by
  have pending (e : Entry) : e.isPending = true ↔ ∃ c, e.body = .capture c ∧ c.status = .pending := by
    unfold Entry.isPending
    split <;> simp_all
  simp only [hasPending, List.any_eq_true, pending]

/-- An entry leaves a face uncovered unless it is an ACCEPTED capture of the face's opening whose sides take it in. -/
theorem covers_eq_false (f : Nat) (e : Entry) :
    covers f e = false ↔ ∀ c, e.body = .capture c → c.status = .accepted → e.opening = f / 2 + 1 →
      c.sides ≠ .both ∧ (c.sides = .left → f % 2 = 1) ∧ (c.sides = .right → f % 2 = 0) := by
  unfold covers
  split
  · next c hc =>
    by_cases even : f % 2 = 0
    · cases hs : c.sides <;> simp [hc, hs, even, CaptureSides.has]
    · have odd : f % 2 = 1 := by omega
      cases hs : c.sides <;> simp [hc, hs, odd, CaptureSides.has]
  · next hc => simp [hc]

theorem mem_uncovered (v : Volume) (f : Nat) :
    f ∈ uncovered v ↔ f ≤ 2 * v.profile.leaves + 1
      ∧ ∀ e ∈ v.log, ∀ c, e.body = .capture c → c.status = .accepted → e.opening = f / 2 + 1 →
        c.sides ≠ .both ∧ (c.sides = .left → f % 2 = 1) ∧ (c.sides = .right → f % 2 = 0) := by
  simp only [uncovered, List.mem_filter, List.mem_range, Bool.not_eq_true', List.any_eq_false, Bool.not_eq_true,
    covers_eq_false, Nat.lt_succ_iff]

theorem uncovered_sorted (v : Volume) : (uncovered v).Pairwise fun a b => a < b :=
  List.pairwise_lt_range.filter _

/-! ## The volume closed -/

theorem takeCloseVolume_of_open {s : State} {slot : SlotId} {v : Volume}
    (hopen : openSlot? s.store.slots = some (slot, v)) :
    takeCloseVolume s =
      if s.turner.state ≠ .idle ∧ s.turner.state ≠ .halted then refuse s .wrongState 0
      else if s.capture.state ≠ .none ∧ s.capture.state ≠ .released then refuse s .wrongState 0
      else if hasPending v = true then refuse s .wrongState 0
      else if checkHolds s.lamps = true then refuse s .busy 0
      else (closeVolume s slot v, taken [u 1 slot.number, u 2 (uncovered v).length,
        .bytes (le 1 ((uncovered v).take 16).length ++ ((uncovered v).take 16).flatMap (le 2))]) := by
  simp only [takeCloseVolume, hopen, turnerAway, Bool.and_eq_true, bne_iff_ne]

/-- CLOSE_VOLUME taken: the aiming light is dark once the tracker is in NO_VOLUME. -/
theorem closeVolume_eq (s : State) (slot : SlotId) (v : Volume) :
    closeVolume s slot v =
      let closed := closeSlot (appendIncident s .closed (uncovered v).length v.captureCount) slot
      let left := if s.tracker.state = .placed then leavePlaced closed else closed
      { left with
        tracker := { state := .noVolume, slot := none, n := none, lastPlaced := none, doseLogged := false }
        mech := { left.mech with glass := { left.mech.glass with requestedForce := 0 } }
        dose := { left.dose with aiming := none } } := by
  have state : (closeSlot (appendIncident s .closed (uncovered v).length v.captureCount) slot).tracker.state
      = s.tracker.state := by simp
  simp only [closeVolume, state]
  rw [aimRetest_of_not_placed (by simp [setGlass, setTracker])]
  rfl

/-- The slot's record after CLOSE_VOLUME, frozen with the entry of the close. -/
theorem closeVolume_slots {s : State} {slot : SlotId} {v : Volume} (hopen : openSlot? s.store.slots = some (slot, v))
    (done : s.capture.state = .none ∨ s.capture.state = .released) :
    (closeVolume s slot v).store.slots = s.store.slots.set slot (.closed
      { notedRecord s v .closed (uncovered v).length v.captureCount with placedBefore := false }) := by
  have noted := appendIncident_slots hopen .closed (uncovered v).length v.captureCount
  have closed : (closeSlot (appendIncident s .closed (uncovered v).length v.captureCount) slot).store.slots
      = s.store.slots.set slot (.closed
        { notedRecord s v .closed (uncovered v).length v.captureCount with placedBefore := false }) := by
    simp [closeSlot, noted]
  have left (u : State) (hu : u.capture.state = s.capture.state) : (leavePlaced u).store = u.store := by
    have quiet : voidWaiting u = u := by
      unfold voidWaiting
      rw [hu, if_neg (by rcases done with e | e <;> simp [e])]
    rw [leavePlaced_eq (by rw [hu]; rcases done with e | e <;> simp [e])
      (by rw [hu]; rcases done with e | e <;> simp [e]), quiet]
    rfl
  rw [closeVolume_eq, ← closed]
  dsimp only
  split
  · rw [left _ (by simp)]
  · rfl

/-- Settles O15: the checks of R28 in the model's order, the uncovered faces, and the record frozen. -/
theorem closeVolumeTaken : Obligations.CloseVolume := by
  refine ⟨hasPending_iff, fun v => ⟨mem_uncovered v, uncovered_sorted v⟩, fun tag s h => ?_⟩
  split
  · next none' => exact refuses_of_eq h rfl (by simp only [takeCloseVolume, enqueue_frame, none'])
  · next slot v hopen =>
    have eq := takeCloseVolume_of_open (s := enqueue s 0x03 tag) hopen
    refine ite_prop_iff_and.mpr ⟨fun away => refuses_of_eq h rfl (eq.trans (if_pos away)), fun near => ?_⟩
    replace eq := eq.trans (if_neg near)
    refine ite_prop_iff_and.mpr ⟨fun runs => refuses_of_eq h rfl (eq.trans (if_pos runs)), fun done => ?_⟩
    replace eq := eq.trans (if_neg done)
    refine ite_prop_iff_and.mpr ⟨fun pending => refuses_of_eq h rfl (eq.trans (if_pos pending)), fun judged => ?_⟩
    replace eq := eq.trans (if_neg judged)
    refine ite_prop_iff_and.mpr ⟨fun holds => refuses_of_eq h rfl (eq.trans (if_pos holds)), fun free => ?_⟩
    replace eq := eq.trans (if_neg free)
    refine ⟨takes_of_take h rfl (by rw [eq]) ?_ ?_, fun t ht => ?_⟩
    · rw [eq]
      exact congrArg apart ((closeVolume_eq (enqueue s 0x03 tag) slot v).trans rfl)
    · rw [eq]
      simp
    · obtain rfl := Host.Outcome.next.inj ht
      have closed : (closeVolume (enqueue s 0x03 tag) slot v).store.slots = _ :=
        closeVolume_slots (s := enqueue s 0x03 tag) hopen (by simp only [enqueue_frame]; tauto)
      rw [arrive_ready h, eq]
      simp only [transmit_frame, makeReply_frame, closed]
      exact congrArg (fun w => s.store.slots.set slot (.closed w)) (notedRecord_frozen s v _ _ _)

end Sys2Proof.Machine
end

-- ==== Proofs: restarts with a volume OPEN ====
section
/-! RestartHandlesTheOpenVolume: the state that a restart reports, and the one attention frame it sends. -/

namespace Sys2Proof.Machine

open Sys2Proof.Config

/-! ## Which command restarts the part (R43, R168) -/

/-- The command restarts the part, for this cause and with these pins. -/
def RestartsBy (pins : Pins) (s : State) (i : Instr) (cause : RestartCause) : Prop :=
  (i = .powerOn pins ∧ cause = .powerOn) ∨ (i = .resetLine pins ∧ cause = .resetLine)
    ∨ (i = .frameSent ∧ cause = .request ∧ pins = s.pins ∧ resetReplyOnLine s)

/-- The rate latched by a restart: a request keeps it, the other two read the straps (R159). -/
def restartRate (pins : Pins) (s : State) (cause : RestartCause) : Nat :=
  if cause = .request then s.link.rate else strapRate pins.straps

theorem exec_of_restartsBy {pins : Pins} {s : State} {i : Instr} {cause : RestartCause}
    (h : RestartsBy pins s i cause) :
    exec i s = .next (restart { s with pins := pins } cause (restartRate pins s cause)) := by
  rcases h with ⟨rfl, rfl⟩ | ⟨rfl, rfl⟩ | ⟨rfl, rfl, rfl, resetting, f, r, rest, sending, reply, replies, kind, own⟩
  · rfl
  · rfl
  · simp only [exec, execFrameSent, sending, reply, replies, replySent, resetting, kind, own, decide_true,
      Bool.and_self, if_true]
    rfl

/-! ## The lines at a restart (R139, R150) -/

/-- The pause that the lines hold. -/
def lineCause (pins : Pins) : Option PauseCause :=
  if pins.aux.aux0 = false then some .stop else if pins.aux.aux2 = true then some .hood else none

theorem pauseRestarted_cause (pins : Pins) : (pauseRestarted pins).cause = lineCause pins := by
  unfold lineCause
  cases stop : pins.aux.aux0 <;> cases hood : pins.aux.aux2 <;>
    simp [pauseRestarted, Aux.restartedLines, Aux.restarted, hoodFrom, AuxLine.all, Lines.get, stop, hood]

/-! ## What a restart latches (R17, R42, R150, R151) -/

theorem inMask_all (c : CondClass) : inMask Summary.restarted.mask c = true := by cases c <;> rfl

/-- The first condition after a restart asks for attention. -/
theorem latch_first {s : State} {rate : Nat} (hm : s.summary = Summary.restarted) (hl : s.link = Link.restarted rate)
    (k : Condition) :
    latch s k = { s with
      summary := { Summary.restarted with
        latches := Latches.empty.set k.cls (some { detail := k.detail, arg := k.arg, repeated := false })
        outstanding := true }
      link := { Link.restarted rate with attentionQueued := true } } := by
  have unlatched : Summary.restarted.latches.get k.cls = none := by cases k.cls <;> rfl
  have asks : (inMask Summary.restarted.mask k.cls && !Summary.restarted.outstanding) = true := by
    rw [inMask_all]; rfl
  simp only [latch, hm, hl, asks, if_true, askAttention, unlatched, latchedBy]
  rfl

/-- A condition of another class, while attention is asked for. -/
theorem latch_next {s : State} (outstanding : s.summary.outstanding = true) {k : Condition}
    (unlatched : s.summary.latches.get k.cls = none) :
    latch s k = { s with summary := { s.summary with
      latches := s.summary.latches.set k.cls (some { detail := k.detail, arg := k.arg, repeated := false }) } } := by
  simp [latch, outstanding, unlatched, latchedBy]

/-- The store's report of the restart's entry, by the free entries before it. -/
def storeLatched (free : Nat) : Option Latched :=
  if free = 0 then some { detail := 2, arg := 9, repeated := false }
  else if free ≤ 257 then some { detail := 1, arg := free - 1, repeated := false }
  else none

/-- The conditions that a restart with a volume OPEN latches. -/
def restartLatches (free : Nat) (cause : RestartCause) (held : Option PauseCause) : Latches :=
  { Latches.empty with
    halt := held.map fun k => { detail := k.code, arg := 0, repeated := false }
    uncertain := some { detail := 3, arg := cause.code, repeated := false }
    store := storeLatched free }

/-- The summary and the Link Port before the restart's attention frame. -/
def reportedAt (s : State) (rate : Nat) (latches : Latches) : State :=
  { s with
    summary := { Summary.restarted with latches := latches, outstanding := true }
    link := { Link.restarted rate with attentionQueued := true } }

/-- The store's report, as the append of the restart's entry latches it. -/
def storeReported (s : State) (free : Nat) : State :=
  if free = 0 then latch s (.storeLost IncidentKind.restart.code)
  else if free ≤ 257 then latch s (.storeLow (free - 1))
  else s

theorem uncertain_reported {s : State} {rate : Nat} (hm : s.summary = Summary.restarted)
    (hl : s.link = Link.restarted rate) (free : Nat) (cause : RestartCause) (t : Tracker) :
    latch (setTracker (storeReported s free) t) (.uncertainRestart cause.code)
      = reportedAt { s with tracker := t } rate (restartLatches free cause none) := by
  unfold storeReported restartLatches storeLatched
  by_cases full : free = 0
  · simp only [if_pos full]
    rw [latch_first hm hl, latch_next rfl rfl]
    rfl
  · simp only [if_neg full]
    by_cases low : free ≤ 257
    · simp only [if_pos low]
      rw [latch_first hm hl, latch_next rfl rfl]
      rfl
    · simp only [if_neg low]
      exact latch_first (s := setTracker s t) hm hl _

theorem halt_reported {s : State} {held : Option PauseCause} (h : s.pause.cause = held) (rate free : Nat)
    (cause : RestartCause) :
    restartHalt (reportedAt s rate (restartLatches free cause none))
      = reportedAt s rate (restartLatches free cause held) := by
  subst h
  have pause : (reportedAt s rate (restartLatches free cause none)).pause.cause = s.pause.cause := rfl
  unfold restartHalt
  rw [pause]
  rcases s.pause.cause with _ | k
  · rfl
  · cases k <;> exact latch_next rfl rfl

/-- The record of the OPEN volume after a restart. -/
def restartedRecord (s : State) (v : Volume) (cause : RestartCause) : Volume :=
  notedRecord { s with tracker := trackerRestarted } (restartRecord v) .restart cause.code
    (min (v.restartCount + 1) 65535)

theorem notedRecord_congr {s t : State} (free : freeEntries s = freeEntries t) (n : s.tracker.n = t.tracker.n)
    (v : Volume) (kind : IncidentKind) (detail second : Nat) :
    notedRecord s v kind detail second = notedRecord t v kind detail second := by
  unfold notedRecord
  rw [free, n]

/-- The tracker after a restart with a volume OPEN (R11, R17). -/
def trackerUncertain (slot : SlotId) : Tracker :=
  { state := .uncertain, slot := some slot, n := none, lastPlaced := some 0, doseLogged := false }

/-- A restart's clock, VOID entry and count take no log entry. -/
theorem freeEntries_restartRecord {s : State} {slot : SlotId} {v : Volume}
    (h : openSlot? s.store.slots = some (slot, v)) :
    freeEntries (setSlot s slot (.opened (restartRecord v))) = freeEntries s := by
  have used := usedEntries_set s.store.slots slot (.opened (restartRecord v))
  have before : (s.store.slots.get slot).entryCount = v.log.length := by rw [openSlot?_get h]; rfl
  have after : (Slot.opened (restartRecord v)).entryCount = v.log.length := by
    simp [Slot.entryCount, Slot.volume?, restartRecord]
  rw [before, after] at used
  unfold freeEntries
  rw [setSlot_slots]
  omega

/-- The store's handling of the OPEN volume (R43): its record, and the reports of the store and of the tracker. -/
theorem restartVolume_eq {s : State} {slot : SlotId} {v : Volume} (h : openSlot? s.store.slots = some (slot, v))
    (cause : RestartCause) (rate : Nat) :
    restartVolume (blocksRestarted s cause rate) slot cause
      = reportedAt
        { setSlot (blocksRestarted s cause rate) slot (.opened (restartedRecord s v cause)) with
          tracker := trackerUncertain slot }
        rate (restartLatches (freeEntries s) cause none) := by
  have up : openSlot? (blocksRestarted s cause rate).store.slots = some (slot, v) := h
  have resumed : onOpen (blocksRestarted s cause rate) restartRecord
      = setSlot (blocksRestarted s cause rate) slot (.opened (restartRecord v)) := onOpen_eq up _
  have opened : openSlot? (setSlot (blocksRestarted s cause rate) slot (.opened (restartRecord v))).store.slots
      = some (slot, restartRecord v) := openSlot?_set up _
  have free : freeEntries (setSlot (blocksRestarted s cause rate) slot (.opened (restartRecord v))) = freeEntries s :=
    freeEntries_restartRecord up
  have record : notedRecord (setSlot (blocksRestarted s cause rate) slot (.opened (restartRecord v))) (restartRecord v)
      .restart cause.code (min (v.restartCount + 1) 65535) = restartedRecord s v cause :=
    notedRecord_congr (t := { s with tracker := trackerRestarted }) free rfl ..
  have noted : appendIncident (setSlot (blocksRestarted s cause rate) slot (.opened (restartRecord v))) .restart
      cause.code (min (v.restartCount + 1) 65535)
      = storeReported (setSlot (blocksRestarted s cause rate) slot (.opened (restartedRecord s v cause)))
        (freeEntries s) := by
    rw [appendIncident_eq opened, record, free, setSlot_setSlot]
    rfl
  have reported := uncertain_reported
    (s := setSlot (blocksRestarted s cause rate) slot (.opened (restartedRecord s v cause))) (rate := rate) rfl rfl
    (freeEntries s) cause (trackerUncertain slot)
  have tracker : (storeReported (setSlot (blocksRestarted s cause rate) slot (.opened (restartedRecord s v cause)))
      (freeEntries s)).tracker = trackerRestarted := by
    unfold storeReported
    (repeat' split) <;> simp [blocksRestarted]
  simp only [restartVolume, resumed, openVolume?_eq opened, Option.map_some, Option.getD_some]
  have count : (restartRecord v).restartCount = min (v.restartCount + 1) 65535 := rfl
  rw [count, noted, tracker]
  exact reported

/-! ## The attention frame (R155) -/

/-- Attention asked for with the transmitter free and nothing else waiting: the frame of the class named. -/
theorem transmit_reportedAt {s : State} {rate : Nat} {latches : Latches} {c : CondClass}
    (named : namedClass? { Summary.restarted with latches := latches, outstanding := true } = some c)
    (enabled : anyEnabledLatched { Summary.restarted with latches := latches, outstanding := true } = true) :
    transmit (reportedAt s rate latches) =
      { reportedAt s rate latches with link := { Link.restarted rate with
        sending := some
          { what := .attention, kind := 0xE0, tag := 0
            payload := attentionPayload { Summary.restarted with latches := latches, outstanding := true } c } } } := by
  have sends : transmit (reportedAt s rate latches) = sendAttention (reportedAt s rate latches) := rfl
  rw [sends]
  simp only [sendAttention, reportedAt, enabled, if_true, named]
  rfl

/-- The class that a restart's frame names: HALT when the lines hold a pause, else UNCERTAIN. -/
theorem namedClass?_restart (free : Nat) (cause : RestartCause) (held : Option PauseCause) :
    namedClass? { Summary.restarted with latches := restartLatches free cause held, outstanding := true }
      = some (if held.isSome then .halt else .uncertain) := by
  have elevated : Summary.restarted.elevated = none := rfl
  cases held <;> simp [namedClass?, elevated, CondClass.all, inMask_all, Latches.get, restartLatches, Latches.empty]

theorem anyEnabledLatched_restart (free : Nat) (cause : RestartCause) (held : Option PauseCause) :
    anyEnabledLatched { Summary.restarted with latches := restartLatches free cause held, outstanding := true }
      = true := by
  simp [anyEnabledLatched, CondClass.all, inMask_all, Latches.get, restartLatches]

/-- The payload of a restart's frame: the class named, and the classes latched. -/
theorem attentionPayload_restart (free : Nat) (cause : RestartCause) (held : Option PauseCause) :
    attentionPayload { Summary.restarted with latches := restartLatches free cause held, outstanding := true }
        (if held.isSome then .halt else .uncertain)
      = (match held with
          | some k => le 1 1 ++ le 1 k.code ++ le 2 0 ++ le 1 0
          | none => le 1 2 ++ le 1 3 ++ le 2 cause.code ++ le 1 0)
        ++ le 2 ((if held.isSome then 1 else 0) + 2 + if free ≤ 257 then 64 else 0) := by
  have classes : latchedSet (restartLatches free cause held)
      = (if held.isSome then 1 else 0) + 2 + if free ≤ 257 then 64 else 0 := by
    have store : (storeLatched free).isSome = decide (free ≤ 257) := by
      unfold storeLatched
      by_cases full : free = 0
      · simp [full]
      · by_cases low : free ≤ 257 <;> simp [full, low]
    by_cases low : free ≤ 257 <;> cases held <;> simp [latchedSet, restartLatches, Latches.empty, store, low, bit]
  cases held <;> rw [attentionPayload, ← classes] <;> rfl

/-- The state after a restart with a volume OPEN. -/
theorem restart_of_open {s : State} {slot : SlotId} {v : Volume} (h : openSlot? s.store.slots = some (slot, v))
    (cause : RestartCause) (rate : Nat) :
    restart s cause rate =
      { reportedAt
          { setSlot (blocksRestarted s cause rate) slot (.opened (restartedRecord s v cause)) with
            tracker := trackerUncertain slot }
          rate (restartLatches (freeEntries s) cause (lineCause s.pins)) with
        link := { Link.restarted rate with
          sending := some
            { what := .attention, kind := 0xE0, tag := 0
              payload :=
                attentionPayload
                  { Summary.restarted with
                    latches := restartLatches (freeEntries s) cause (lineCause s.pins), outstanding := true }
                  (if (lineCause s.pins).isSome then .halt else .uncertain) } } } := by
  have up : openSlot? (blocksRestarted s cause rate).store.slots = some (slot, v) := h
  have halted := halt_reported
    (s := { setSlot (blocksRestarted s cause rate) slot (.opened (restartedRecord s v cause)) with
      tracker := trackerUncertain slot })
    (pauseRestarted_cause s.pins) rate (freeEntries s) cause
  simp only [restart, up, restartVolume_eq h, halted]
  exact transmit_reportedAt (namedClass?_restart ..) (anyEnabledLatched_restart ..)

/-- The Link Port after a restart with no slot OPEN: at its restart values but for a frame that the lines ask for. -/
theorem restart_link_of_none {s : State} (h : openSlot? s.store.slots = none) (cause : RestartCause) (rate : Nat) :
    ∃ f, (restart s cause rate).link = { Link.restarted rate with sending := f } := by
  have up : openSlot? (blocksRestarted s cause rate).store.slots = none := h
  have pause : (blocksRestarted s cause rate).pause.cause = lineCause s.pins := pauseRestarted_cause s.pins
  simp only [restart, up, restartHalt, pause]
  rcases lineCause s.pins with _ | k
  · exact ⟨none, rfl⟩
  · dsimp only
    rw [latch_first (s := blocksRestarted s cause rate) (rate := rate) rfl rfl]
    have halt (x : Latched) : namedClass? { Summary.restarted with
        latches := Latches.empty.set .halt (some x), outstanding := true } = some .halt := by
      have elevated : Summary.restarted.elevated = none := rfl
      simp [namedClass?, elevated, CondClass.all, inMask_all, Latches.get, Latches.set]
    have enabled (x : Latched) : anyEnabledLatched { Summary.restarted with
        latches := Latches.empty.set .halt (some x), outstanding := true } = true := by
      simp [anyEnabledLatched, CondClass.all, inMask_all, Latches.get, Latches.set]
    have class' : k.condition.cls = .halt := by cases k <;> rfl
    rw [class']
    exact ⟨_, congrArg State.link (transmit_reportedAt (s := blocksRestarted s cause rate) (halt _) (enabled _))⟩

/-- Settles O11: the restart's state in one equation, its frame included, beside the same restart with no slot OPEN. -/
theorem restartHandlesTheOpenVolume : Obligations.RestartHandlesTheOpenVolume := by
  refine ⟨rfl, rfl, fun pins s i cause slot v h hopen => ?_⟩
  intro now count voided held bare
  have none' : openSlot? bare.store.slots = none := rfl
  have ht := exec_of_restartsBy (h : RestartsBy pins s i cause)
  have hu := exec_of_restartsBy (s := bare) (h : RestartsBy pins bare i cause)
  have reported := restart_of_open (s := { s with pins := pins }) hopen cause (restartRate pins s cause)
  obtain ⟨f, link⟩ := restart_link_of_none (s := { bare with pins := pins }) none' cause (restartRate pins bare cause)
  have limit : forceLimit { s with pins := pins } = v.profile.forceLimit := by
    simp only [forceLimit, openVolume?_eq (s := { s with pins := pins }) hopen]
  have mode : restartMode { s with pins := pins } = v.profile.releaseMode := by
    simp only [restartMode, openVolume?_eq (s := { s with pins := pins }) hopen]
  refine ⟨_, _, restartedRecord { s with pins := pins } v cause, ht, hu, ?_, ?_, ?_, ?_, rfl, ?_, ?_, ?_, ?_, ?_,
    ?_, ?_, ?_, ?_, ?_, ?_, ?_⟩
  · simp
  · simp
  · simp
  · rw [reported]; rfl
  · rw [reported]; rfl
  · simp only [restart_values]
    rfl
  · simp only [restart_values, limit]
    rfl
  · simp only [restart_values]
  · simp only [restart_values]
  · simp only [restart_values, mode]
    rfl
  · simp only [restart_values]
  · rw [reported]
    intro c
    cases c <;> rfl
  · rw [reported]; rfl
  · rw [reported]; rfl
  · rw [reported]; rfl
  · rw [reported, link, attentionPayload_restart]
    rfl

end Sys2Proof.Machine
end

-- ==== Proofs: frozen records ====
section
/-! FrozenRecordsStay: what every command makes of a slot that is CLOSED or EXPORTED. A write in place leaves it alone;
what is left are the requests that open, extend, close or free a slot, the end of a stream, and a cut CLEAR_STORE. -/

namespace Sys2Proof.Machine

open Sys2Proof.Config

/-! ## The slots that CLEAR_STORE frees (R35) -/

/-- A CLOSED or EXPORTED slot, which CLEAR_STORE frees. -/
def Slot.isFrozen : Slot → Bool
  | .closed _ => true
  | .exported _ => true
  | _ => false

/-- The number of frozen slots of a list before the slot `i`. -/
def frozenBelow (q : Slots) (ids : List SlotId) (i : SlotId) : Nat :=
  (ids.filter fun j => decide (j.number < i.number) && (q.get j).isFrozen).length

theorem frozenBelow_cons (q : Slots) (j : SlotId) (rest : List SlotId) (i : SlotId) :
    frozenBelow q (j :: rest) i
      = frozenBelow q rest i + if j.number < i.number ∧ (q.get j).isFrozen = true then 1 else 0 := by
  by_cases h : j.number < i.number ∧ (q.get j).isFrozen = true <;> simp [frozenBelow, h]

theorem frozenBelow_of_head (q : Slots) {j : SlotId} {rest : List SlotId}
    (first : ∀ k ∈ rest, j.number < k.number) : frozenBelow q rest j = 0 := by
  simp only [frozenBelow, List.length_eq_zero_iff, List.filter_eq_nil_iff, Bool.and_eq_true, decide_eq_true_eq]
  exact fun k hk below => Nat.lt_asymm (first k hk) below.1

/-- Freeing a slot that the list does not hold leaves the list's count. -/
theorem frozenBelow_set {q : Slots} {j : SlotId} {rest : List SlotId} (absent : j ∉ rest) (i : SlotId) :
    frozenBelow (q.set j .free) rest i = frozenBelow q rest i := by
  unfold frozenBelow
  congr 1
  refine List.filter_congr fun k hk => ?_
  have other : j ≠ k := fun e => absent (by rw [e]; exact hk)
  rw [Slots.get_set, if_neg other]

/-- The writes of CLEAR_STORE free a frozen slot of the list when there are more of them than frozen slots before it. -/
theorem clearWrites_get (q : Slots) (writes : Nat) {ids : List SlotId}
    (sorted : ids.Pairwise fun a b => a.number < b.number) (i : SlotId) :
    (clearWrites q writes ids).get i
      = if i ∈ ids ∧ (q.get i).isFrozen = true ∧ frozenBelow q ids i < writes then .free else q.get i := by
  induction ids generalizing q writes with
  | nil => cases writes <;> simp [clearWrites]
  | cons j rest ih =>
    obtain ⟨first, sorted⟩ := List.pairwise_cons.mp sorted
    have absent : j ∉ rest := fun h => Nat.lt_irrefl _ (first j h)
    cases writes with
    | zero => simp [clearWrites]
    | succ writes =>
      have freed (frozen : (q.get j).isFrozen = true) : (clearWrites (q.set j .free) writes rest).get i
          = if i ∈ j :: rest ∧ (q.get i).isFrozen = true ∧ frozenBelow q (j :: rest) i < writes + 1 then .free
            else q.get i := by
        rw [ih _ _ sorted, frozenBelow_set absent, frozenBelow_cons, Slots.get_set]
        by_cases e : j = i
        · subst e
          simp [absent, frozen, frozenBelow_of_head q first]
        · by_cases mem : i ∈ rest
          · simp [e, mem, frozen, first i mem]
          · simp [e, Ne.symm e, mem]
      have kept (live : (q.get j).isFrozen = false) : (clearWrites q (writes + 1) rest).get i
          = if i ∈ j :: rest ∧ (q.get i).isFrozen = true ∧ frozenBelow q (j :: rest) i < writes + 1 then .free
            else q.get i := by
        rw [ih _ _ sorted, frozenBelow_cons]
        by_cases e : i = j
        · subst e
          simp [live]
        · simp [e, live]
      unfold clearWrites
      split
      · next e => exact freed (by rw [e]; rfl)
      · next e => exact freed (by rw [e]; rfl)
      · next closed exported =>
        refine kept ?_
        cases e : q.get j
        case closed v => exact absurd e (closed v)
        case exported v => exact absurd e (exported v)
        all_goals rfl

theorem slotIds_sorted : SlotId.all.Pairwise fun a b => a.number < b.number := by decide

/-! ## The law of a frozen record (R20, R30) -/

/-- What a command may make of a slot: a CLOSED one keeps its record, CLOSED or EXPORTED, an EXPORTED one keeps its
own, and either may be freed; nothing is said of a slot that is FREE or OPEN. -/
inductive SlotFrozen : Slot → Slot → Prop
  | free (b : Slot) : SlotFrozen .free b
  | opened (v : Volume) (b : Slot) : SlotFrozen (.opened v) b
  | same (a : Slot) : SlotFrozen a a
  | exported (v : Volume) : SlotFrozen (.closed v) (.exported v)
  | freed (a : Slot) : SlotFrozen a .free

/-- Every slot keeps its frozen record. -/
def KeepsFrozen (q r : Slots) : Prop := ∀ i, SlotFrozen (q.get i) (r.get i)

theorem KeepsFrozen.refl (q : Slots) : KeepsFrozen q q := fun _ => .same _

/-- Writes in place before a command change nothing that the law speaks of. -/
theorem InPlace.trans_keepsFrozen {q r t : Slots} (h : InPlace q r) (k : KeepsFrozen r t) : KeepsFrozen q t := by
  intro i
  have hi := h.slot i
  have ki := k i
  generalize q.get i = a at hi ⊢
  generalize r.get i = b at hi ki
  cases hi with
  | same => exact ki
  | rewritten => exact .opened _ _

theorem InPlace.keepsFrozen {q r : Slots} (h : InPlace q r) : KeepsFrozen q r := h.trans_keepsFrozen (.refl r)

/-- Nor do writes in place after it. -/
theorem KeepsFrozen.trans_inPlace {q r t : Slots} (h : KeepsFrozen q r) (k : InPlace r t) : KeepsFrozen q t := by
  intro i
  have hi := h i
  have ki := k.slot i
  generalize r.get i = b at hi ki
  generalize t.get i = c at ki ⊢
  cases ki with
  | same => exact hi
  | rewritten =>
    generalize q.get i = a at hi ⊢
    cases hi
    case same => exact .opened _ _
    case free => exact .free _
    case opened => exact .opened _ _

/-- A write to one slot that obeys the law there. -/
theorem keepsFrozen_set {q : Slots} {i : SlotId} {x : Slot} (h : SlotFrozen (q.get i) x) :
    KeepsFrozen q (q.set i x) := by
  intro j
  by_cases e : i = j
  · subst e
    rw [Slots.get_set_self]
    exact h
  · rw [Slots.get_set, if_neg e]
    exact .same _

theorem clearWrites_keepsFrozen (q : Slots) (writes : Nat) : KeepsFrozen q (clearWrites q writes SlotId.all) := by
  intro i
  rw [clearWrites_get q writes slotIds_sorted]
  split
  · exact .freed _
  · exact .same _

/-! ## Opening, extending, closing and freeing -/

theorem takeOpenVolume_keepsFrozen (raw : RawProfile) (s : State) :
    KeepsFrozen s.store.slots (takeOpenVolume raw s).1.store.slots := by
  unfold takeOpenVolume
  (repeat' split) <;> try exact .refl _
  next slot free _ _ =>
    have opens := keepsFrozen_set (q := s.store.slots) (i := slot) (x := .opened (newVolume (profileOf raw)))
    rw [lowestFree?_free free] at opens
    exact opens (.free _)

theorem takeExtendVolume_keepsFrozen (count : Nat) (s : State) :
    KeepsFrozen s.store.slots (takeExtendVolume count s).1.store.slots := by
  unfold takeExtendVolume
  dsimp only
  (repeat' split) <;> try exact .refl _
  next slot v hopen _ _ _ =>
    have extended := keepsFrozen_set (q := s.store.slots) (i := slot) (x := .opened (extendRecord count v))
    rw [openSlot?_get hopen] at extended
    refine KeepsFrozen.trans_inPlace ?_ (extendVolume_inPlace s _ count)
    rw [onOpen_eq hopen]
    exact extended (.opened _ _)

theorem closeSlot_keepsFrozen (s : State) (slot : SlotId) :
    KeepsFrozen s.store.slots (closeSlot s slot).store.slots := by
  unfold closeSlot
  split
  · next v hv => exact keepsFrozen_set (hv ▸ .opened _ _)
  · exact .refl _

theorem takeCloseVolume_keepsFrozen (s : State) : KeepsFrozen s.store.slots (takeCloseVolume s).1.store.slots := by
  unfold takeCloseVolume
  (repeat' split) <;> try exact .refl _
  next slot v _ _ _ _ _ =>
    have noted := appendIncident_inPlace (.refl s.store.slots) .closed (uncovered v).length v.captureCount
    exact (noted.trans_keepsFrozen (closeSlot_keepsFrozen _ slot)).trans_inPlace (closeVolume_inPlace s slot v)

theorem takeDiscardVolume_keepsFrozen (field : Nat) (s : State) :
    KeepsFrozen s.store.slots (takeDiscardVolume field s).1.store.slots := by
  unfold takeDiscardVolume
  (repeat' split) <;> try exact .refl _
  exact keepsFrozen_set (.freed _)

theorem takeClearStore_keepsFrozen (s : State) : KeepsFrozen s.store.slots (takeClearStore s).1.store.slots := by
  unfold takeClearStore
  (repeat' split) <;> try exact .refl _
  exact clearWrites_keepsFrozen _ 4

theorem clearCut_keepsFrozen (s : State) (writes : Nat) :
    KeepsFrozen s.store.slots (clearCut s writes).store.slots := by
  unfold clearCut
  split
  · exact .refl _
  · exact clearWrites_keepsFrozen _ writes

/-- The end of a stream keeps the record that it makes EXPORTED (R33). -/
theorem endStream_keepsFrozen (s : State) (t : Stream) : KeepsFrozen s.store.slots (endStream s t).store.slots := by
  unfold endStream
  dsimp only
  split
  · next v _ hv => exact keepsFrozen_set (hv ▸ .exported v)
  · exact .refl _

/-! ## Every command -/

theorem take_keepsFrozen {i : Instr} {take : State → State × Answer} (hi : i.take? = some take) (s : State) :
    KeepsFrozen s.store.slots (take s).1.store.slots := by
  unfold Instr.take? at hi
  split at hi <;> cases hi
  case h_1 => exact takeOpenVolume_keepsFrozen _ s
  case h_2 => exact takeExtendVolume_keepsFrozen _ s
  case h_3 => exact takeCloseVolume_keepsFrozen s
  case h_4 => refine InPlace.keepsFrozen ?_; unfold takeExportVolume; (repeat' split) <;> simp
  case h_5 => exact takeDiscardVolume_keepsFrozen _ s
  case h_6 => exact takeClearStore_keepsFrozen s
  case h_9 => exact (takeSetMark_inPlace (.refl _) _ _).keepsFrozen
  case h_10 => exact (takeClearMark_inPlace (.refl _) _).keepsFrozen
  all_goals exact InPlace.keepsFrozen (by simp)

/-- The arrival of a request moves the slots only as its block does. -/
theorem arrive_keepsFrozen {take : State → State × Answer}
    (ht : ∀ u, KeepsFrozen u.store.slots (take u).1.store.slots) (s : State) (kind tag : Nat) :
    KeepsFrozen s.store.slots (arrive s kind tag take).store.slots := by
  have taken : KeepsFrozen s.store.slots _ := ht (enqueue s kind tag)
  have refl := KeepsFrozen.refl s.store.slots
  unfold arrive
  dsimp only
  (repeat' split) <;> simpa

theorem takeFrame_keepsFrozen (kind : Nat) (p : List Byte) (s : State) :
    KeepsFrozen s.store.slots (takeFrame kind p s).1.store.slots := by
  rcases takeFrame_cases kind p s with ⟨i, take, hi, e⟩ | ⟨reason, e⟩
  · rw [e]; exact take_keepsFrozen hi s
  · rw [e]; exact .refl _

theorem receive_keepsFrozen (s : State) (b : Byte) : KeepsFrozen s.store.slots (receive s b).store.slots := by
  have same {u : State} (h : u.store = s.store) : KeepsFrozen s.store.slots u.store.slots := h ▸ .refl _
  unfold receive
  split
  case h_1 => split <;> exact same rfl
  case h_3 => split <;> exact same (by simp)
  case h_6 => split <;> exact same rfl
  case h_8 => -- the last check byte
    unfold frameReceived
    split
    · exact arrive_keepsFrozen (takeFrame_keepsFrozen _ _) (setFramer s .hunt) _ _
    · exact same (by simp)
  all_goals exact same rfl

theorem replySent_keepsFrozen (s : State) (r : Reply) (rest : List Reply) :
    KeepsFrozen s.store.slots (replySent s r rest).store.slots := by
  refine InPlace.keepsFrozen ?_
  unfold replySent
  dsimp only
  (repeat' split) <;> simp

theorem chunkSent_keepsFrozen (s : State) : KeepsFrozen s.store.slots (chunkSent s).store.slots := by
  unfold chunkSent
  dsimp only
  split
  · simpa using KeepsFrozen.refl s.store.slots
  · next t _ =>
    split
    · simpa using endStream_keepsFrozen { s with link := { s.link with sending := none } } t
    · simpa using KeepsFrozen.refl s.store.slots

theorem frameSent_keepsFrozen {s t : State} (hx : exec .frameSent s = .next t) :
    KeepsFrozen s.store.slots t.store.slots := by
  obtain rfl := Host.Outcome.next.inj hx
  split
  · exact .refl _
  · split
    · split
      · exact replySent_keepsFrozen s _ _
      · simpa using KeepsFrozen.refl s.store.slots
    · simpa using KeepsFrozen.refl s.store.slots
    · exact chunkSent_keepsFrozen s

theorem clearStore_keepsFrozen {run : ClearRun} {s t : State} (hx : exec (.clearStore run) s = .next t) :
    KeepsFrozen s.store.slots t.store.slots := by
  obtain rfl := Host.Outcome.next.inj hx
  split
  · exact arrive_keepsFrozen takeClearStore_keepsFrozen s _ _
  · next c _ =>
    have cut := clearCut_keepsFrozen s c.writes
    split
    · exact cut.trans_inPlace (by simp [powerOn])
    · exact cut.trans_inPlace (by simp [resetLine])

theorem exec_keepsFrozen {i : Instr} {s t : State} (hx : exec i s = .next t) :
    KeepsFrozen s.store.slots t.store.slots := by
  rcases hi : i.take? with _ | take
  · obtain rfl | hsent := eq_or_ne i .frameSent
    · exact frameSent_keepsFrozen hx
    obtain ⟨b, rfl⟩ | hbyte := em (∃ b, i = .byteReceived b)
    · obtain rfl := Host.Outcome.next.inj hx
      exact receive_keepsFrozen s b
    obtain ⟨run, rfl⟩ | hclear := em (∃ run, i = .clearStore run)
    · exact clearStore_keepsFrozen hx
    exact (event_inPlace hi (not_exists.mp hclear) (not_exists.mp hbyte) hsent hx).keepsFrozen
  · obtain ⟨kind, tag, e⟩ := exec_of_take hi
    obtain rfl := Host.Outcome.next.inj ((e s).symm.trans hx)
    exact arrive_keepsFrozen (take_keepsFrozen hi) s kind tag

theorem step_keepsFrozen {s t : State} (hx : step s = .next t) : KeepsFrozen s.store.slots t.store.slots := by
  unfold step at hx
  split at hx
  · next rest _ => exact exec_keepsFrozen (s := { s with pending := rest }) hx
  · obtain rfl := Host.Outcome.next.inj hx
    exact .refl _

/-- Settles O22: the law of a frozen record, read at one slot. -/
theorem frozenRecordsStay : Obligations.FrozenRecordsStay := by
  intro s t slot v hx
  have law := step_keepsFrozen hx slot
  refine ⟨fun closed => ?_, fun exported => ?_⟩
  · rw [closed] at law
    generalize t.store.slots.get slot = b at law ⊢
    cases law <;> simp
  · rw [exported] at law
    generalize t.store.slots.get slot = b at law ⊢
    cases law <;> simp

end Sys2Proof.Machine
end

-- ==== Proofs: the clock, appends, exports and freed slots ====
section
/-! VolumeClockAdvances, IncidentAppend, ExportVolume and SlotsFreed. -/

namespace Sys2Proof.Machine

open Sys2Proof.Config

/-! ## The volume clock (R23) -/

/-- Settles O20: the tick is one write to the OPEN volume's record. -/
theorem volumeClockAdvances : Obligations.VolumeClockAdvances := by
  intro s
  have ticks : exec .volumeClockTick s = .next (onOpen s clockTick) := rfl
  split
  · next hopen =>
    rw [onOpen_none hopen] at ticks
    exact ⟨_, ticks, rfl, linkKept_refl s⟩
  · next slot v hopen =>
    rw [onOpen_eq hopen] at ticks
    exact ⟨_, ticks, rfl, linkKept_refl s⟩

/-! ## Incident appends (R42) -/

theorem appendIncident_none {s : State} (h : openSlot? s.store.slots = none) (kind : IncidentKind)
    (detail second : Nat) : appendIncident s kind detail second = s := by
  simp only [appendIncident, openVolume?_none h]

/-- Settles O21: the append with no volume OPEN, with the log full, and with a free entry. -/
theorem incidentAppend : Obligations.IncidentAppend := by
  refine ⟨fun s kind detail second => ⟨fun h => appendIncident_none h kind detail second, fun slot v h => ?_⟩, rfl⟩
  have eq := appendIncident_eq h kind detail second
  split
  · next full => simpa only [notedRecord, full, if_true] using eq
  · next free => simpa only [notedRecord, free, if_false] using eq

/-! ## EXPORT_VOLUME (R31) -/

theorem slotId_ofNumber?_isSome {field : Nat} : (SlotId.ofNumber? field).isSome = true ↔ field ≤ 3 := by
  match field with
  | 0 | 1 | 2 | 3 => decide
  | _ + 4 => simp [SlotId.ofNumber?]

theorem slotId_number_of_ofNumber? {field : Nat} {slot : SlotId} (h : SlotId.ofNumber? field = some slot) :
    slot.number = field := by
  unfold SlotId.ofNumber? at h
  split at h <;> cases h <;> rfl

theorem takeExportVolume_free {field : Nat} {slot : SlotId} {s : State} (hslot : SlotId.ofNumber? field = some slot)
    (hv : (s.store.slots.get slot).volume? = none) : takeExportVolume field s = refuse s .wrongState 1 := by
  simp only [takeExportVolume, hslot, hv]

theorem takeExportVolume_of_record {field : Nat} {slot : SlotId} {v : Volume} {s : State}
    (hslot : SlotId.ofNumber? field = some slot) (hv : (s.store.slots.get slot).volume? = some v) :
    takeExportVolume field s =
      if s.store.stream.isSome then refuse s .busy 0
      else
        ({ s with store := { s.store with stream := some (newStream slot (s.store.slots.get slot).state v) } },
          taken [u 1 slot.number, u 1 (s.store.slots.get slot).state.code, u 2 v.log.length,
            u 2 (2 * v.profile.leaves + 2), u 2 (totalChunks v.log.length (2 * v.profile.leaves + 2))]) := by
  simp only [takeExportVolume, hslot, hv]
  rfl

theorem totalChunks_eq (entries faces : Nat) :
    totalChunks entries faces = 2 + (entries + 23) / 24 + (faces + 95) / 96 := rfl

/-- No chunk waits and none is on the line. -/
def NoChunkOut (l : Link) : Prop := l.chunkAge = none ∧ ∀ f, l.sending = some f → f.what ≠ .chunk

theorem NoChunkOut.sendReply {s : State} (h : NoChunkOut s.link) : NoChunkOut (sendReply s).link := by
  unfold Machine.sendReply
  split
  · exact h
  · refine ⟨h.1, fun f hf => ?_⟩
    obtain rfl := Option.some.inj hf
    exact nofun

theorem NoChunkOut.sendReplyOrChunk {s : State} (h : NoChunkOut s.link) : NoChunkOut (sendReplyOrChunk s).link := by
  unfold Machine.sendReplyOrChunk
  split
  · exact h.sendReply
  · rw [if_neg (by simp [h.1])]
    exact h

theorem NoChunkOut.sendAttention {s : State} (h : NoChunkOut s.link) : NoChunkOut (sendAttention s).link := by
  have dropped (m : Summary) : NoChunkOut
      (Machine.sendReplyOrChunk { s with link := { s.link with attentionQueued := false }, summary := m }).link :=
    NoChunkOut.sendReplyOrChunk (s := { s with link := { s.link with attentionQueued := false }, summary := m }) h
  unfold Machine.sendAttention
  dsimp only
  split
  · split
    · refine ⟨h.1, fun f hf => ?_⟩
      obtain rfl := Option.some.inj hf
      exact nofun
    · exact dropped _
  · exact dropped _

/-- With no chunk waiting the transmitter sends none. -/
theorem transmit_no_chunk {s : State} (h : s.link.chunkAge = none) :
    (transmit s).link.chunkAge = none
      ∧ ∀ f, (transmit s).link.sending = some f → f.what = .chunk → s.link.sending = some f := by
  rcases busy : s.link.sending with _ | g
  · have out : NoChunkOut s.link := ⟨h, fun f hf => absurd (busy.symm.trans hf) nofun⟩
    have sent : NoChunkOut (transmit s).link := by
      simp only [transmit, busy]
      rw [if_neg (c := s.link.chunkAge = some 4) (by simp [h])]
      (repeat' split)
      · exact out.sendReply
      · exact out.sendAttention
      · exact out.sendReplyOrChunk
    exact ⟨sent.1, fun f hf chunk => absurd chunk (sent.2 f hf)⟩
  · have same : transmit s = s := by simp only [transmit, busy]
    rw [same]
    exact ⟨h, fun f hf _ => busy.symm.trans hf⟩

/-- Settles O16: the checks of R31 in the model's order, the stream begun, and no chunk of it sent yet. -/
theorem exportVolume : Obligations.ExportVolume := by
  intro tag field s h
  refine ite_prop_iff_and.mpr ⟨fun high => ?_, fun low => ?_⟩
  · have none' : SlotId.ofNumber? field = none := by
      rw [← Option.not_isSome_iff_eq_none, slotId_ofNumber?_isSome]
      omega
    exact refuses_of_eq h rfl (by simp only [takeExportVolume, none'])
  · obtain ⟨slot, hslot⟩ := Option.isSome_iff_exists.mp (slotId_ofNumber?_isSome.mpr (Nat.not_lt.mp low))
    have number := slotId_number_of_ofNumber? hslot
    refine ⟨slot, hslot, number, ?_⟩
    split
    · next free => exact refuses_of_eq h rfl (takeExportVolume_free (s := enqueue s 0x04 tag) hslot free)
    · next v hv =>
      have eq := takeExportVolume_of_record (s := enqueue s 0x04 tag) hslot hv
      refine ite_prop_iff_and.mpr ⟨fun busy => refuses_of_eq h rfl (eq.trans (if_pos busy)), fun idle => ?_⟩
      replace eq := eq.trans (if_neg idle)
      rw [number] at eq
      refine ⟨takes_of_eq h rfl eq ⟨rfl, rfl, rfl, rfl, rfl⟩, fun quiet t ht => ?_⟩
      obtain rfl := Host.Outcome.next.inj ht
      rw [arrive_ready h, eq]
      exact transmit_no_chunk quiet

/-! ## DISCARD_VOLUME (R34) -/

theorem takeDiscardVolume_of_slot {field : Nat} {slot : SlotId} {s : State}
    (hslot : SlotId.ofNumber? field = some slot) :
    takeDiscardVolume field s =
      if streamOf s slot = true then refuse s .busy 1
      else
        match s.store.slots.get slot with
        | .free => refuse s .wrongState 1
        | .opened _ => refuse s .wrongState 1
        | .closed _ => refuse s .notExported 1
        | .exported _ =>
          (setSlot s slot .free,
            taken [u 1 slot.number, u 2 (freeFaces (setSlot s slot .free)),
              u 2 (freeEntries (setSlot s slot .free))]) := by
  simp only [takeDiscardVolume, hslot]
  rfl

/-- A freed slot gives its log entries and its face records back to their pools. -/
theorem used_set_free {q : Slots} {slot : SlotId} {v : Volume} (h : (q.get slot).volume? = some v) :
    usedEntries (q.set slot .free) + v.log.length = usedEntries q
      ∧ usedFaces (q.set slot .free) + (2 * v.profile.leaves + 2) = usedFaces q := by
  have entries := usedEntries_set q slot .free
  have faces := usedFaces_set q slot .free
  simp only [Slot.entryCount, Slot.faceCount, h] at entries faces
  exact ⟨entries, faces⟩

/-! ## CLEAR_STORE (R35) -/

/-- With no slot OPEN the frozen slots are those that are not FREE. -/
theorem isFrozen_of_not_open {q : Slots} (h : openSlot? q = none) (i : SlotId) :
    (q.get i).isFrozen = ((q.get i).state != .free) := by
  have live := openSlot?_eq_none.mp h i
  cases e : q.get i
  case opened v => exact absurd e (live v)
  all_goals rfl

theorem Slot.state_eq_free {x : Slot} : x.state = .free ↔ x = .free := by
  cases x <;> simp [Slot.state]

/-- With no slot OPEN the first `writes` of CLEAR_STORE free each slot with fewer slots to free before it. -/
theorem clearWrites_all_get {q : Slots} (h : openSlot? q = none) (writes : Nat) (i : SlotId) :
    (clearWrites q writes SlotId.all).get i
      = if (SlotId.all.filter fun j => decide (j.number < i.number) && (q.get j).state != .free).length < writes
        then .free else q.get i := by
  have below : frozenBelow q SlotId.all i
      = (SlotId.all.filter fun j => decide (j.number < i.number) && (q.get j).state != .free).length := by
    simp only [frozenBelow, isFrozen_of_not_open h]
  have mem : i ∈ SlotId.all := by cases i <;> decide
  rw [clearWrites_get q writes slotIds_sorted, below, isFrozen_of_not_open h]
  by_cases free : q.get i = .free
  · simp [free]
  · have busy : (q.get i).state ≠ .free := fun e => free (Slot.state_eq_free.mp e)
    simp [mem, busy]

theorem Slots.ext_get {q r : Slots} (h : ∀ i, q.get i = r.get i) : q = r := by
  have h0 := h .s0; have h1 := h .s1; have h2 := h .s2; have h3 := h .s3
  cases q; cases r
  simp_all [Slots.get]

/-- CLEAR_STORE run whole frees every slot. -/
theorem clearSlots_eq {q : Slots} (h : openSlot? q = none) :
    clearSlots q = { s0 := .free, s1 := .free, s2 := .free, s3 := .free } := by
  refine Slots.ext_get fun i => ?_
  have few : (SlotId.all.filter fun j => decide (j.number < i.number) && (q.get j).state != .free).length < 4 := by
    refine Nat.lt_of_le_of_lt (m := (SlotId.all.filter fun j => decide (j.number < i.number)).length) ?_ ?_
    · exact (List.monotone_filter_right _ fun j hj => (Bool.and_eq_true _ _ ▸ hj).1).length_le
    · cases i <;> decide
  rw [clearSlots, clearWrites_all_get h, if_pos few]
  cases i <;> rfl

theorem clearable_eq {q : Slots} (h : openSlot? q = none) :
    clearable q = (SlotId.all.filter fun i => (q.get i).state ≠ .free).length := by
  unfold clearable
  congr 1
  refine List.filter_congr fun i _ => ?_
  have live := openSlot?_eq_none.mp h i
  cases e : q.get i
  case opened v => exact absurd e (live v)
  all_goals rfl

/-- CLEAR_STORE with no slot OPEN: refused while a stream runs, otherwise every slot freed. -/
theorem takeClearStore_of_not_open {s : State} (h : openSlot? s.store.slots = none) :
    takeClearStore s =
      if s.store.stream.isSome then refuse s .busy 0
      else
        ({ s with store := { s.store with slots := { s0 := .free, s1 := .free, s2 := .free, s3 := .free } } },
          taken [u 1 (SlotId.all.filter fun i => (s.store.slots.get i).state ≠ .free).length, u 2 16384,
            u 2 16384]) := by
  simp only [takeClearStore, h, Option.isSome_none, Bool.false_eq_true, if_false, clearSlots_eq h, clearable_eq h]
  rfl

/-- A restart that cuts CLEAR_STORE off finds the first `writes` of its writes made. -/
theorem clearCut_of_taken {s : State} (ready : Ready s) (none' : openSlot? s.store.slots = none)
    (idle : s.store.stream = none) (writes : Nat) :
    clearCut s writes
      = { s with store := { s.store with slots := clearWrites s.store.slots writes SlotId.all } } := by
  obtain ⟨resetting, room⟩ := ready
  simp [clearCut, resetting, Nat.not_le.mpr room, none', idle]

/-- A request that the part does not take has made no write. -/
theorem clearCut_of_not_taken {s : State}
    (h : ¬ (Ready s ∧ openSlot? s.store.slots = none ∧ s.store.stream = none)) (writes : Nat) :
    clearCut s writes = s := by
  unfold clearCut
  refine if_pos ?_
  by_contra takes
  simp only [Bool.or_eq_true, not_or, decide_eq_true_eq, Nat.not_le, Bool.not_eq_true,
    Option.isSome_eq_false_iff, Option.isNone_iff_eq_none] at takes
  obtain ⟨⟨⟨resetting, room⟩, none'⟩, idle⟩ := takes
  exact h ⟨⟨resetting, room⟩, none', idle⟩

theorem clearCut_slots (s : State) (writes : Nat) :
    clearCut s writes = { s with store := { s.store with slots := (clearCut s writes).store.slots } } := by
  unfold clearCut
  split <;> rfl

/-- Settles O17: the checks of R34 and R35 in the model's order, the slots freed, and the writes made at a cut. -/
theorem slotsFreed : Obligations.SlotsFreed := by
  refine ⟨fun tag field s h => ?_, fun tag s h => ?_, fun tag c s => ?_⟩
  · split
    · next none' => exact refuses_of_eq h rfl (by simp only [takeDiscardVolume, none'])
    · next slot hslot =>
      have eq := takeDiscardVolume_of_slot (s := enqueue s 0x05 tag) hslot
      refine ite_prop_iff_and.mpr ⟨fun busy => refuses_of_eq h rfl (eq.trans (if_pos busy)), fun idle => ?_⟩
      replace eq := eq.trans (if_neg idle)
      have slots : (enqueue s 0x05 tag).store.slots = s.store.slots := rfl
      rw [slots] at eq
      split
      · next e => rw [e] at eq; exact refuses_of_eq h rfl eq
      · next v e => rw [e] at eq; exact refuses_of_eq h rfl eq
      · next v e => rw [e] at eq; exact refuses_of_eq h rfl eq
      · next v e =>
        rw [e] at eq
        exact ⟨takes_of_eq h rfl eq ⟨rfl, rfl, rfl, rfl, rfl⟩, used_set_free (by rw [e]; rfl)⟩
  · refine ite_prop_iff_and.mpr ⟨fun some' => refuses_of_eq h rfl ?_, fun none' => ?_⟩
    · exact if_pos some'
    · have eq := takeClearStore_of_not_open (s := enqueue s 0x06 tag) (Option.not_isSome_iff_eq_none.mp none')
      refine ite_prop_iff_and.mpr ⟨fun busy => refuses_of_eq h rfl (eq.trans (if_pos busy)), fun idle => ?_⟩
      exact takes_of_eq h rfl (eq.trans (if_neg idle)) ⟨rfl, rfl, rfl, rfl, rfl⟩
  · refine ⟨(clearCut s c.writes).store.slots, ?_, fun takes i => ?_, fun misses => ?_⟩
    · rw [← clearCut_slots]
      simp only [exec, execClearStore]
      split <;> rfl
    · rw [clearCut_of_taken takes.1 takes.2.1 takes.2.2]
      exact clearWrites_all_get takes.2.1 c.writes i
    · rw [clearCut_of_not_taken misses]

end Sys2Proof.Machine
end

-- ==== Proofs: restarts with no volume OPEN ====
section
/-! FirstPowerOnIsSound and RestartGivesEveryBlockItsValues. -/

namespace Sys2Proof.Machine

open Sys2Proof.Config

/-! ## The state of a restart with no slot OPEN (R43, R150, R151, R155) -/

/-- The blocks at their restart values, and the attention frame of the pause that the lines hold. -/
theorem restart_of_not_open {s : State} (h : openSlot? s.store.slots = none) (cause : RestartCause) (rate : Nat) :
    restart s cause rate =
      { blocksRestarted s cause rate with
        summary := { Summary.restarted with
          latches := { Latches.empty with
            halt := (lineCause s.pins).map fun k => { detail := k.code, arg := 0, repeated := false } }
          outstanding := (lineCause s.pins).isSome }
        link := { Link.restarted rate with
          sending := (lineCause s.pins).map fun k =>
            { what := .attention, kind := 0xE0, tag := 0
              payload := le 1 1 ++ le 1 k.code ++ le 2 0 ++ le 1 0 ++ le 2 1 } } } := by
  have up : openSlot? (blocksRestarted s cause rate).store.slots = none := h
  have pause : (blocksRestarted s cause rate).pause.cause = lineCause s.pins := pauseRestarted_cause s.pins
  simp only [restart, up, restartHalt, pause]
  rcases lineCause s.pins with _ | k
  · rfl
  · dsimp only
    rw [latch_first (s := blocksRestarted s cause rate) (rate := rate) rfl rfl]
    cases k <;> exact (transmit_reportedAt (s := blocksRestarted s cause rate) (c := .halt) rfl rfl).trans rfl

theorem pauseRestarted_eq (pins : Pins) :
    pauseRestarted pins =
      { state := if (lineCause pins).isSome then .paused else .running, cause := lineCause pins, brokenPhase := none
        lines := Aux.restartedLines pins.aux, hoodOpen := pins.aux.aux2, deferred := none, lastDeferred := .none
        lastPedal := .none } := by
  unfold lineCause
  cases stop : pins.aux.aux0 <;> cases hood : pins.aux.aux2 <;>
    simp [pauseRestarted, Aux.restartedLines, Aux.restarted, hoodFrom, AuxLine.all, Lines.get, stop, hood]

theorem turnerRestarted_eq (t : Turner) (pins : Pins) (cause : RestartCause) :
    turnerRestarted t pins cause =
      { state := if pins.home then .idle else .halted
        step := .running, purpose := none, direction := none, manual := none, leaf := none, plateHeld := none
        attempt := none, airLevel := none, lastCount := none, lastOutcome := .none, parkWaiting := false
        cupHeld := if cause = .powerOn then false else pins.hold
        settings := TurnerSettings.default
        valveClosed := if cause = .powerOn then false else t.valveClosed
        restoreReleased := false, layEmpty := false } := by
  cases cause <;> rfl

/-- Settles O10: the restart's state in one equation, block by block. -/
theorem restartGivesEveryBlockItsValues : Obligations.RestartGivesEveryBlockItsValues := by
  intro pins s i cause h none' line held
  have restarted := exec_of_restartsBy (h : RestartsBy pins s i cause)
  have eq := restart_of_not_open (s := { s with pins := pins }) none' cause (restartRate pins s cause)
  have limit : forceLimit { s with pins := pins } = 0 := by
    simp only [forceLimit, openVolume?_none (s := { s with pins := pins }) none']
  have mode : restartMode { s with pins := pins } = .onAccept := by
    simp only [restartMode, openVolume?_none (s := { s with pins := pins }) none']
  rw [eq] at restarted
  refine ⟨_, restarted, rfl, rfl, rfl, rfl, ?_, ?_, rfl, rfl, ?_, ?_, fun c => ?_, rfl, rfl, rfl, ?_⟩
  · exact turnerRestarted_eq s.turner pins cause
  · exact congrArg (mechRestarted pins) limit
  · exact congrArg Capture.restarted mode
  · exact pauseRestarted_eq pins
  · cases c <;> rfl
  · rfl

/-! ## The first power-on (R20, R169) -/

theorem openSlot?_reset : openSlot? State.reset.store.slots = none := rfl

theorem reset_powerOn : exec (.powerOn Pins.atRest) State.reset = .next State.reset :=
  congrArg Host.Outcome.next (restart_of_not_open (s := State.reset) openSlot?_reset .powerOn (strapRate 0))

theorem reset_slot (i : SlotId) : State.reset.store.slots.get i = .free := by cases i <;> rfl

theorem reset_volume? (i : SlotId) (v : Volume) : (State.reset.store.slots.get i).volume? ≠ some v := by
  rw [reset_slot]
  exact nofun

theorem reset_storeSound : StoreSound State.reset :=
  ⟨fun i v hv => absurd hv (reset_volume? i v), by decide, by decide⟩

theorem reset_trackerSound : TrackerSound State.reset := by
  refine ⟨fun i v j w hi => ?_, rfl, by decide, by decide, nofun, fun runs => absurd rfl runs.1⟩
  rw [reset_slot] at hi
  cases hi

theorem reset_lampsInRange : LampsInRange State.reset.lamps := by
  simp [LampsInRange, InRange, EachBank, OptInRange, State.reset, Lamps.restarted, Banks.all, Sides.both,
    reservoirFull, hold16]

theorem reset_pauseSound : PauseSound State.reset.pause := ⟨by decide, by decide, nofun, rfl⟩

theorem reset_linkSound : LinkSound State.reset.link := ⟨rfl, by decide, by decide, nofun⟩

/-- No light is to come: no check, no pulse, no capture. -/
theorem reset_doseSound : DoseSound State.reset := by
  have holder : State.reset.lamps.holder = .free := rfl
  have waiting : State.reset.lamps.waitingCheck = none := rfl
  have pulse : State.reset.dose.pulseSettle = none := rfl
  have settle : State.reset.dose.captureSettle = none := rfl
  have state : State.reset.capture.state = .none := rfl
  have trigger (side : Side) : State.reset.capture.trigger.get side = false := by cases side <;> rfl
  refine ⟨fun i v hv => absurd hv (reset_volume? i v), ?_, ?_, ?_, ?_⟩
  · simp [CheckCovered, holder, waiting]
  · simp [PulseCovered, pulse]
  · simp [CaptureOrdered, state, trigger]
  · simp [CaptureCovered, state, settle]

/-- Settles O12: the restart's equation at the resting lines, and each law at the reset values. -/
theorem firstPowerOnIsSound : Obligations.FirstPowerOnIsSound :=
  ⟨reset_powerOn, reset_storeSound, reset_trackerSound, reset_lampsInRange, reset_pauseSound, reset_linkSound,
    reset_doseSound⟩

end Sys2Proof.Machine
end

-- ==== Proofs: the transmitter ====
section
/-! ArbiterChoosesInOrder and FramesSentWhole: the payload of each chunk, the class that an attention frame names, the
arbiter's choice, and the end of each kind of frame. -/

namespace Sys2Proof.Machine

open Sys2Proof.Config

/-! ## The bytes of a chunk (R32, section 11.6) -/

theorem headerBody_eq (t : Stream) :
    headerBody t =
      let h := t.header
      let p := h.profile
      le 1 t.start.code
        ++ (le 2 0x3FFF ++ (p.shelfMark ++ List.replicate (40 - p.shelfMark.length) 0) ++ le 1 p.partNumber
          ++ le 2 p.leaves ++ le 2 p.firstFolio ++ le 2 p.thickness ++ le 1 p.angleLimit ++ le 1 p.initialAngle
          ++ le 1 p.glassMode.code ++ le 2 p.forceLimit ++ le 1 p.airLevel ++ le 4 p.pageAllowance
          ++ le 4 p.volumeAllowance ++ le 1 p.warning ++ le 1 p.releaseMode.code)
        ++ le 2 h.captureCount ++ le 2 h.incidentCount ++ le 2 h.restartCount
        ++ le 1 (if h.logComplete = true then 1 else 0)
        ++ le 4 h.dose.whole ++ le 2 h.dose.rem ++ le 4 h.clock ++ le 2 t.entries ++ le 2 t.faces
        ++ le 1 h.marks.length
        ++ h.marks.flatMap fun m =>
          le 2 m.leaf
            ++ le 1 ((if m.kinds.foldout = true then 1 else 0) + (if m.kinds.plate = true then 2 else 0)
              + if m.kinds.hold = true then 4 else 0) := by
  simp only [headerBody, kinds_code]
  rfl

theorem entryBytes_capture {e : Entry} {c : CaptureEntry} (h : e.body = .capture c) (index : Nat) :
    entryBytes index e =
      let flag (b : Bool) (weight : Nat) : Nat := if b = true then weight else 0
      le 2 index ++ le 1 0 ++ le 1 c.status.code ++ le 2 e.opening ++ le 4 e.timestamp ++ le 1 c.take
        ++ le 1 c.sides.code
        ++ le 1 (flag c.flags.under 1 + flag c.flags.singleBank 2 + flag c.flags.focusLimit 4
          + flag c.flags.noGlass 8 + flag c.flags.manual 16 + flag c.frames.left.isSome 32
          + flag c.frames.right.isSome 64)
        ++ le 1 (flag c.banks.la 1 + flag c.banks.lb 2 + flag c.banks.ra 4 + flag c.banks.rb 8)
        ++ le 4 ((c.frames.left.map BitVec.toNat).getD 0) ++ le 4 ((c.frames.right.map BitVec.toNat).getD 0)
        ++ le 3 c.doses.left ++ le 3 c.doses.right ++ le 2 c.durations.left ++ le 2 c.durations.right := by
  simp only [entryBytes, h, entryFlags_code, bankSetCode_eq, mul_bit]
  cases c.frames.left <;> cases c.frames.right <;> rfl

theorem entryBytes_incident {e : Entry} {kind : IncidentKind} {detail second : Nat}
    (h : e.body = .incident kind detail second) (index : Nat) :
    entryBytes index e = le 2 index ++ le 1 kind.code ++ le 1 0 ++ le 2 e.opening ++ le 4 e.timestamp ++ le 4 detail
      ++ le 4 second ++ List.replicate 14 0 := by
  simp only [entryBytes, h]

/-- The first bytes of a chunk: its slot, its type, and the first index and the count of what it carries. -/
def chunkHead (t : Stream) (type first count : Nat) : List Byte :=
  le 1 t.slot.number ++ le 1 type ++ le 2 first ++ le 2 count

section

variable {q : Slots} {t : Stream} {v : Volume}

theorem chunkPayload_header (next : t.next = 0) : chunkPayload q t = chunkHead t 1 0 0 ++ headerBody t := by
  simp only [chunkPayload, next, if_true]
  rfl

theorem chunkPayload_log (hv : (q.get t.slot).volume? = some v) {k : Nat} (next : t.next = k + 1)
    (below : k < logChunks t.entries) :
    chunkPayload q t = chunkHead t 2 (k * 24) (min 24 (t.entries - k * 24))
      ++ entriesFrom v.log (k * 24) (min 24 (t.entries - k * 24)) := by
  simp only [chunkPayload, hv, next, Nat.add_one_ne_zero, if_false, Nat.succ_le_of_lt below, if_true,
    Nat.add_sub_cancel]
  rfl

theorem chunkPayload_faces (hv : (q.get t.slot).volume? = some v) {k : Nat}
    (next : t.next = logChunks t.entries + k + 1) (below : k < faceChunks t.faces) :
    chunkPayload q t = chunkHead t 3 (k * 96) (min 96 (t.faces - k * 96))
      ++ faceRecordsFrom v.faces (k * 96) (min 96 (t.faces - k * 96)) := by
  have first : t.next - 1 - logChunks t.entries = k := by omega
  simp only [chunkPayload, hv, first]
  rw [if_neg (by omega), if_neg (by omega), if_pos (by omega)]
  rfl

theorem chunkPayload_final (next : t.next = logChunks t.entries + faceChunks t.faces + 1) :
    chunkPayload q t = chunkHead t 4 0 0 ++ le 2 t.entries ++ le 2 t.faces ++ le 1 (streamLeaves q t).code := by
  simp only [chunkPayload]
  rw [if_neg (by omega), if_neg (by omega), if_neg (by omega)]
  rfl

end

/-- The FINAL chunk's slot state: EXPORTED for a slot CLOSED or EXPORTED at the start, else the one that stands. -/
theorem streamLeaves_code (q : Slots) (t : Stream) :
    (streamLeaves q t).code = if t.start = .closed ∨ t.start = .exported then 3 else (q.get t.slot).state.code := by
  unfold streamLeaves
  cases t.start <;> rfl

/-! ## The class that an attention frame names (R155) -/

theorem condClass_mem_all (c : CondClass) : c ∈ CondClass.all := by cases c <;> decide

theorem condClasses_sorted : CondClass.all.Pairwise fun a b => a.number < b.number := by decide

/-- A class that is latched, and in the mask. -/
def EnabledLatched (m : Summary) (c : CondClass) : Prop :=
  m.mask.getLsbD (c.number - 1) = true ∧ (m.latches.get c).isSome = true

theorem enabledLatched_iff (m : Summary) (c : CondClass) :
    (inMask m.mask c && (m.latches.get c).isSome) = true ↔ EnabledLatched m c := by
  rw [Bool.and_eq_true]
  rfl

theorem anyEnabledLatched_iff (m : Summary) : anyEnabledLatched m = true ↔ ∃ c, EnabledLatched m c := by
  simp only [anyEnabledLatched, List.any_eq_true, enabledLatched_iff, condClass_mem_all, true_and]

/-- The first class found in the order of the class numbers is the lowest-numbered one. -/
theorem find?_condClass {p : CondClass → Bool} {c : CondClass} (h : CondClass.all.find? p = some c) :
    p c = true ∧ ∀ d, p d = true → c.number ≤ d.number := by
  obtain ⟨hc, before, after, parts, skipped⟩ := List.find?_eq_some_iff_append.mp h
  refine ⟨hc, fun d hd => ?_⟩
  have sorted := condClasses_sorted
  have mem := condClass_mem_all d
  rw [parts] at sorted mem
  obtain ⟨above, -⟩ := List.pairwise_cons.mp (List.pairwise_append.mp sorted).2.1
  rcases List.mem_append.mp mem with early | late
  · have := skipped d early
    simp [hd] at this
  · rcases List.mem_cons.mp late with rfl | later
    · exact Nat.le_refl _
    · exact Nat.le_of_lt (above d later)

/-- The class named: the elevated one when it is latched, else the lowest-numbered enabled one. -/
theorem namedClass?_cases {m : Summary} {c : CondClass} (h : namedClass? m = some c) :
    (m.elevated = some c ∧ (m.latches.get c).isSome = true)
      ∨ ((∀ e, m.elevated = some e → m.latches.get e = none) ∧ EnabledLatched m c
        ∧ ∀ d, EnabledLatched m d → c.number ≤ d.number) := by
  have lowest {d : CondClass}
      (hd : CondClass.all.find? (fun c => inMask m.mask c && (m.latches.get c).isSome) = some d) :
      EnabledLatched m d ∧ ∀ e, EnabledLatched m e → d.number ≤ e.number := by
    obtain ⟨hp, least⟩ := find?_condClass hd
    exact ⟨(enabledLatched_iff m d).mp hp, fun e he => least e ((enabledLatched_iff m e).mpr he)⟩
  unfold namedClass? at h
  split at h
  · next e he =>
    split at h
    · next latched =>
      obtain rfl := Option.some.inj h
      exact .inl ⟨he, latched⟩
    · next latched =>
      refine .inr ⟨fun d hd => ?_, lowest h⟩
      obtain rfl := Option.some.inj (he.symm.trans hd)
      exact Option.not_isSome_iff_eq_none.mp latched
  · next none' => exact .inr ⟨fun e he => absurd (none'.symm.trans he) nofun, lowest h⟩

/-- A frame names a class when an enabled one is latched. -/
theorem namedClass?_isSome {m : Summary} (h : anyEnabledLatched m = true) : ∃ c, namedClass? m = some c := by
  have found : ∃ c, CondClass.all.find? (fun c => inMask m.mask c && (m.latches.get c).isSome) = some c :=
    Option.isSome_iff_exists.mp (List.find?_isSome.mpr (List.any_eq_true.mp h))
  unfold namedClass?
  split
  · split
    · exact ⟨_, rfl⟩
    · exact found
  · exact found

theorem attentionPayload_of_latched {m : Summary} {c : CondClass} {x : Latched} (h : m.latches.get c = some x) :
    attentionPayload m c = le 1 c.number ++ le 1 x.detail ++ le 2 x.arg ++ le 1 (bit x.repeated)
      ++ le 2 (latchedSet m.latches) := by
  simp only [attentionPayload, h]
  rfl

/-! ## The arbiter's choice (R165, R166, R168) -/

theorem transmit_of_free {s : State} (h : s.link.sending = none) :
    transmit s =
      if s.link.resetting = true then sendReply s
      else if s.link.chunkAge = some 4 then sendChunk s
      else if s.link.attentionQueued = true then sendAttention s
      else sendReplyOrChunk s := by
  simp only [transmit, h]

theorem sendReply_cons {s : State} {r : Reply} {rest : List Reply} (h : s.link.replies = r :: rest) :
    sendReply s =
      { s with link := { s.link with
        sending := some
          { what := .reply, kind := r.answer.kindByte r.kind, tag := r.tag
            payload := r.answer.payload r.kind } } } := by
  simp only [sendReply, h]

theorem sendReply_nil {s : State} (h : s.link.replies = []) : sendReply s = s := by
  simp only [sendReply, h]

theorem sendChunk_of_stream {s : State} {t : Stream} (h : s.store.stream = some t) :
    sendChunk s =
      { s with link := { s.link with
        chunkAge := none
        sending := some
          { what := .chunk, kind := 0xE1, tag := 0, payload := chunkPayload s.store.slots t } } } := by
  simp only [sendChunk, h]

theorem sendReplyOrChunk_cons {s : State} {r : Reply} {rest : List Reply} (h : s.link.replies = r :: rest) :
    sendReplyOrChunk s = sendReply s := by
  simp only [sendReplyOrChunk, h]

theorem sendReplyOrChunk_nil {s : State} (h : s.link.replies = []) :
    sendReplyOrChunk s = if s.link.chunkAge.isSome = true then sendChunk s else s := by
  simp only [sendReplyOrChunk, h]

/-- The choice between a reply and a chunk does not read the summary. -/
theorem sendReplyOrChunk_link_summary (s : State) (m : Summary) :
    (sendReplyOrChunk { s with summary := m }).link = (sendReplyOrChunk s).link := by
  unfold sendReplyOrChunk sendReply sendChunk
  dsimp only
  (repeat' split) <;> rfl

theorem sendAttention_of_named {s : State} {c : CondClass} (any' : anyEnabledLatched s.summary = true)
    (named : namedClass? s.summary = some c) :
    sendAttention s =
      { s with link := { s.link with
        attentionQueued := false
        sending := some
          { what := .attention, kind := 0xE0, tag := 0, payload := attentionPayload s.summary c } } } := by
  simp only [sendAttention, any', if_true, named]

theorem sendAttention_of_none {s : State} (h : anyEnabledLatched s.summary = false) :
    sendAttention s = sendReplyOrChunk { s with
      link := { s.link with attentionQueued := false }, summary := { s.summary with outstanding := false } } := by
  simp only [sendAttention, h, Bool.false_eq_true, if_false]

theorem transmit_quiet {s : State} (free : s.link.sending = none) (going : s.link.resetting = false)
    (age : s.link.chunkAge ≠ some 4) (quiet : s.link.attentionQueued = false) : transmit s = sendReplyOrChunk s := by
  rw [transmit_of_free free, going, quiet, if_neg Bool.false_ne_true, if_neg age, if_neg Bool.false_ne_true]

/-- Settles O7: the bytes of each chunk, and the arbiter's choice in the order of the model's branches. -/
theorem arbiterChoosesInOrder : Obligations.ArbiterChoosesInOrder := by
  refine ⟨rfl, fun q st v hv => ?_, fun s free => ⟨fun resetting => ?_, fun going => ?_⟩⟩
  · intro logs faces h p flag head entry
    have entries (index : Nat) (e : Entry) : entryBytes index e = entry index e := by
      obtain ⟨opening, timestamp, body⟩ := e
      cases body with
      | capture c => exact entryBytes_capture rfl index
      | incident kind detail second => exact entryBytes_incident rfl index
    refine ⟨fun next => ?_, fun k next below => ?_, fun k next below => ?_, fun next => ?_⟩
    · rw [chunkPayload_header next, headerBody_eq]
      rfl
    · rw [chunkPayload_log hv next below]
      simp only [entriesFrom, entries]
      rfl
    · exact chunkPayload_faces hv next below
    · rw [chunkPayload_final next, streamLeaves_code]
      rfl
  · have eq := (transmit_of_free free).trans (if_pos resetting)
    exact ⟨fun r rest hr => eq.trans (sendReply_cons hr), fun hr => eq.trans (sendReply_nil hr)⟩
  · have eq := (transmit_of_free free).trans (if_neg (Bool.not_eq_true _ ▸ going))
    refine ⟨fun st age stream => ?_, fun age queued => ?_, fun age quiet => ?_⟩
    · rw [eq, if_pos age, sendChunk_of_stream stream]
      exact ⟨rfl, rfl⟩
    · replace eq := (eq.trans (if_neg age)).trans (if_pos queued)
      intro m enabled n
      refine ⟨anyEnabledLatched_iff m, ite_prop_iff_and.mpr ⟨fun any' => ?_, fun none' => ?_⟩⟩
      · obtain ⟨c, named⟩ := namedClass?_isSome any'
        have latched : (m.latches.get c).isSome = true := by
          rcases namedClass?_cases named with ⟨-, h⟩ | ⟨-, ⟨-, h⟩, -⟩ <;> exact h
        obtain ⟨x, hx⟩ := Option.isSome_iff_exists.mp latched
        have sent := eq.trans (sendAttention_of_named any' named)
        refine ⟨c, x, named, hx, ?_, fun e elevated he => ?_, ?_, ?_, ?_⟩
        · rcases namedClass?_cases named with ⟨elevated, -⟩ | lowest
          · exact .inl elevated
          · exact .inr lowest
        · rcases namedClass?_cases named with ⟨elevated', -⟩ | ⟨unlatched, -⟩
          · exact Option.some.inj (elevated'.symm.trans elevated)
          · rw [unlatched e elevated] at he
            cases he
        · rw [sent, attentionPayload_of_latched hx]
          rfl
        · rw [sent]
        · rw [sent]
      · have dropped := eq.trans (sendAttention_of_none (Bool.not_eq_true _ ▸ none'))
        have again := transmit_quiet (s := { s with link := { s.link with attentionQueued := false } }) free going
          age rfl
        rw [dropped, again]
        refine ⟨by simp, ?_⟩
        exact sendReplyOrChunk_link_summary { s with link := { s.link with attentionQueued := false } } _
    · replace eq := transmit_quiet free going age quiet
      refine ⟨fun r rest hr => ?_, fun a st hr waits stream => ?_, fun hr none' => ?_⟩
      · rw [eq, sendReplyOrChunk_cons hr, sendReply_cons hr]
      · rw [eq, sendReplyOrChunk_nil hr, if_pos (by rw [waits]; rfl), sendChunk_of_stream stream]
        exact ⟨rfl, rfl⟩
      · rw [eq, sendReplyOrChunk_nil hr, if_neg (by rw [none']; exact nofun)]

/-! ## The end of a frame on the line (R33, R163, R165, R166) -/

theorem frameSent_reply {s : State} {f : Sending} {r : Reply} {rest : List Reply} (hf : s.link.sending = some f)
    (what : f.what = .reply) (hr : s.link.replies = r :: rest) :
    exec .frameSent s = .next (replySent s r rest) := by
  simp only [exec, execFrameSent, hf, what, hr]

theorem frameSent_attention {s : State} {f : Sending} (hf : s.link.sending = some f) (what : f.what = .attention) :
    exec .frameSent s = .next (transmit { s with link := otherSent s.link }) := by
  simp only [exec, execFrameSent, hf, what]

theorem frameSent_chunk {s : State} {f : Sending} (hf : s.link.sending = some f) (what : f.what = .chunk) :
    exec .frameSent s = .next (chunkSent s) := by
  simp only [exec, execFrameSent, hf, what]

/-- A reply that no restart awaits, sent whole: it leaves its lists, and an EXPORT_VOLUME reply makes the HEADER
wait. -/
theorem replySent_eq {s : State} {r : Reply} {rest : List Reply}
    (h : ¬ (s.link.resetting = true ∧ r.kind = 0x49 ∧ r.answer.isOwn = true)) :
    replySent s r rest = transmit { s with link :=
      { s.link with
        sending := none, replies := rest
        queue := if r.queueFull then s.link.queue else s.link.queue.tail
        chunkAge :=
          if r.kind = 0x04 ∧ r.answer.isOwn = true ∧ s.store.stream.isSome = true then some 0
          else s.link.chunkAge.map fun a => min 4 (a + 1) } } := by
  have noRestart : ¬ (s.link.resetting && r.kind = 0x49 && r.answer.isOwn) = true := by simpa [and_assoc] using h
  have exports : (r.kind = 0x04 && r.answer.isOwn && s.store.stream.isSome) = true
      ↔ r.kind = 0x04 ∧ r.answer.isOwn = true ∧ s.store.stream.isSome = true := by
    simp [and_assoc]
  unfold replySent
  dsimp only
  rw [if_neg noRestart]
  by_cases begins : r.kind = 0x04 ∧ r.answer.isOwn = true ∧ s.store.stream.isSome = true
  · rw [if_pos (exports.mpr begins), if_pos begins]
    rfl
  · rw [if_neg (mt exports.mp begins), if_neg begins]
    rfl

/-- The end of a stream makes its slot EXPORTED when it was CLOSED at the start and still is. -/
theorem endStream_get (s : State) (t : Stream) (i : SlotId) :
    (endStream s t).store.slots.get i
      = match decide (i = t.slot ∧ t.start = .closed), s.store.slots.get i with
        | true, .closed v => .exported v
        | _, x => x := by
  unfold endStream
  dsimp only
  by_cases here : i = t.slot ∧ t.start = .closed
  · obtain ⟨rfl, start⟩ := here
    rw [start]
    cases h : s.store.slots.get t.slot <;> simp [h]
  · rw [decide_eq_false here]
    split
    · next v start _ =>
      have other : t.slot ≠ i := fun e => here ⟨e.symm, start⟩
      simp [other]
    · rfl

theorem endStream_stream (s : State) (t : Stream) : (endStream s t).store.stream = none := by
  unfold endStream
  dsimp only
  split <;> rfl

theorem chunkSent_next {s : State} {t : Stream} (h : s.store.stream = some t)
    (more : t.next + 1 < totalChunks t.entries t.faces) :
    chunkSent s = transmit { s with
      link := { s.link with sending := none, chunkAge := some 0 }
      store := { s.store with stream := some { t with next := t.next + 1 } } } := by
  have notFinal : t.atFinal = false := decide_eq_false (Nat.ne_of_lt more)
  simp only [chunkSent, h, notFinal, Bool.false_eq_true, if_false]
  rfl

theorem chunkSent_final {s : State} {t : Stream} (h : s.store.stream = some t)
    (final : t.next + 1 = totalChunks t.entries t.faces) :
    chunkSent s = transmit (endStream { s with link := { s.link with sending := none } } t) := by
  have atFinal : t.atFinal = true := decide_eq_true final
  simp only [chunkSent, h, atFinal, if_true]

/-- Settles O8: the end of each kind of frame. -/
theorem framesSentWhole : Obligations.FramesSentWhole := by
  refine ⟨totalChunks_eq, fun s f hf => ?_⟩
  intro aged
  refine ⟨fun r rest what hr noRestart => ?_, fun what => frameSent_attention hf what, fun st what stream => ?_⟩
  · exact (frameSent_reply hf what hr).trans (congrArg _ (replySent_eq noRestart))
  · have sent := frameSent_chunk hf what
    refine ite_prop_iff_and.mpr ⟨fun more => sent.trans (congrArg _ (chunkSent_next stream more)), fun _ final => ?_⟩
    rw [chunkSent_final stream final] at sent
    have store : (transmit (endStream { s with link := { s.link with sending := none } } st)).store
        = (endStream { s with link := { s.link with sending := none } } st).store := by simp
    refine ⟨_, sent, ?_, by simp [LinkKept], fun i => ?_, by simp [apart]⟩
    · rw [store, endStream_stream]
    · rw [store]
      exact endStream_get _ st i

end Sys2Proof.Machine
end

-- ==== Proofs: EXTEND_VOLUME ====
section
/-! ExtendVolume: the face records renumbered, the targets computed afresh in mid-visit, and the volume extended. -/

namespace Sys2Proof.Machine

open Sys2Proof.Config

/-! ## What EXTEND_VOLUME waits for (R26) -/

theorem captureRuns_iff (c : Capture) : captureRuns c = true ↔ c.state = .arming ∨ c.state = .exposing := by
  simp [captureRuns]

theorem checkHolds_iff (l : Lamps) : checkHolds l = true ↔ ∃ check, l.holder = .check check := by
  unfold checkHolds
  split <;> simp_all

theorem streamOf_iff (s : State) (slot : SlotId) :
    streamOf s slot = true ↔ ∃ t, s.store.stream = some t ∧ t.slot = slot := by
  unfold streamOf
  split <;> simp_all

/-! ## The face records renumbered (R27) -/

/-- The back board's record moves to its new number, and every face between is all zero. -/
theorem facesGet_renumber {fs : List (Nat × FaceRec)} (wf : facesWf fs = true) {leaves more : Nat} (longer : 0 < more)
    (above : ∀ g, 2 * leaves + 1 < g → facesGet fs g = FaceRec.zero) (f : Nat) :
    facesGet (facesRenumber fs leaves (leaves + more)) f
      = if f = 2 * (leaves + more) + 1 then facesGet fs (2 * leaves + 1)
        else if f ≤ 2 * leaves then facesGet fs f else FaceRec.zero := by
  have cleared : facesWf (facesSet fs (2 * leaves + 1) FaceRec.zero) = true := facesSet_wf wf _ _
  unfold facesRenumber
  rw [facesGet_set cleared, facesGet_set wf]
  rcases Nat.lt_trichotomy f (2 * leaves + 1) with below | rfl | past
  · rw [if_neg (by omega), if_neg (by omega), if_neg (by omega), if_pos (by omega)]
  · rw [if_neg (by omega), if_pos rfl, if_neg (by omega), if_neg (by omega)]
  · by_cases back : f = 2 * (leaves + more) + 1
    · rw [if_pos back.symm, if_pos back]
    · rw [if_neg (Ne.symm back), if_neg (by omega), above f past, if_neg back, if_neg (by omega)]

/-! ## The targets computed afresh (R65, R67) -/

/-- A side's PLATEN_LIMIT entry, where its target is beyond the travel and the visit has not logged it yet. -/
def noteFreshClamp (s : State) (platens : Sides Platen) (targets : Sides Nat) (side : Side) : State :=
  if 80000 < targets.get side ∧ (platens.get side).logged = false then
    appendIncident s .platenLimit (sideCode side) (targets.get side)
  else s

/-- A side's clamp, logged in the visit. -/
def clampAlsoLogged (p : Platen) (target : Nat) : Platen := { p with logged := p.logged || decide (80000 < target) }

theorem logPlaten_of_targets (s : State) {m : Mechanics} {t : Sides Nat} (ht : m.targets = some t) (side : Side) :
    logPlaten { s with mech := m } side =
      { noteFreshClamp s m.platens t side with
        mech :=
          { m with platens := m.platens.set side (clampAlsoLogged (m.platens.get side) (t.get side)) } } := by
  have clamps : isClamped (t.get side) = decide (80000 < t.get side) := rfl
  have stands {b : Bool} (e : (m.platens.get side).logged = b) :
      m.platens.set side { m.platens.get side with logged := b } = m.platens := by
    rw [← e]; cases side <;> rfl
  by_cases fresh : 80000 < t.get side ∧ (m.platens.get side).logged = false
  · obtain ⟨clamped, logged⟩ := fresh
    simp [logPlaten, noteFreshClamp, clampAlsoLogged, ht, clamps, clamped, logged, appendIncident_mech]
  · have kept : m.platens.set side (clampAlsoLogged (m.platens.get side) (t.get side)) = m.platens := by
      refine stands ?_
      rcases logged : (m.platens.get side).logged <;> simp_all
    have quiet : ¬ (isClamped (t.get side) && !(m.platens.get side).logged) = true := by simpa [clamps] using fresh
    have same : logPlaten { s with mech := m } side = { s with mech := m } := by
      simp only [logPlaten, ht, if_neg quiet]
    rw [same, noteFreshClamp, if_neg fresh, kept]

theorem computeTargets_of_open {s : State} {slot : SlotId} {v : Volume} (h : openSlot? s.store.slots = some (slot, v))
    (n : Nat) :
    computeTargets s n =
      let t := platenTargets v.profile n
      let was := s.mech.platens
      { noteFreshClamp (noteFreshClamp s was t .left) was t .right with
        mech :=
          { s.mech with
            targets := some t
            platens := { left := clampAlsoLogged was.left t.left, right := clampAlsoLogged was.right t.right } } } := by
  let t := platenTargets v.profile n
  let was := s.mech.platens
  let m : Mechanics := { s.mech with targets := some t }
  have onLeft := logPlaten_of_targets s (m := m) rfl .left
  have onRight := logPlaten_of_targets (noteFreshClamp s was t .left) (t := t)
    (m := { m with platens := was.set .left (clampAlsoLogged was.left t.left) }) rfl .right
  simp only [computeTargets, openVolume?_eq h]
  exact (congrArg (logPlaten · .right) onLeft).trans onRight

theorem computeTargets_targets {s : State} {slot : SlotId} {v : Volume}
    (h : openSlot? s.store.slots = some (slot, v)) (n : Nat) :
    (computeTargets s n).mech.targets = some (platenTargets v.profile n) := by
  rw [computeTargets_of_open h]

/-! ## The volume extended (R27) -/

/-- The extension without a visit to adjust: the record, the incident, and the aiming interval on the back board
abandoned. -/
def extendNoted (s : State) (slot : SlotId) (v : Volume) (count : Nat) : State :=
  let noted := appendIncident (setSlot s slot (.opened (extendRecord count v))) .extended v.profile.leaves
    (v.profile.leaves + count)
  if s.tracker.n = some (v.profile.leaves + 1) then aimDark noted else noted

theorem extendNoted_tracker (s : State) (slot : SlotId) (v : Volume) (count : Nat) :
    (extendNoted s slot v count).tracker = s.tracker := by
  unfold extendNoted
  dsimp only
  split <;> simp

/-- The slot stays OPEN, with the longer profile. -/
theorem extendNoted_openSlot {s : State} {slot : SlotId} {v : Volume} (h : openSlot? s.store.slots = some (slot, v))
    (count : Nat) :
    ∃ w, openSlot? (extendNoted s slot v count).store.slots = some (slot, w)
      ∧ w.profile = { v.profile with leaves := v.profile.leaves + count } := by
  have same : InPlace (setSlot s slot (.opened (extendRecord count v))).store.slots
      (extendNoted s slot v count).store.slots := by
    unfold extendNoted
    dsimp only
    split <;> exact appendIncident_inPlace (.refl _) _ _ _
  exact same.sameOpen.openVolume (openSlot?_set h _)

theorem extendNoted_eq {s : State} {slot : SlotId} {v : Volume} (h : openSlot? s.store.slots = some (slot, v))
    (count : Nat) :
    (if s.tracker.n = some (v.profile.leaves + 1) then
        aimDark (appendIncident (onOpen s (extendRecord count)) .extended v.profile.leaves (v.profile.leaves + count))
      else appendIncident (onOpen s (extendRecord count)) .extended v.profile.leaves (v.profile.leaves + count))
      = extendNoted s slot v count := by
  rw [onOpen_eq h]
  rfl

/-- In PLACED the platens are sent to the targets of the longer volume. -/
theorem extendVolume_placed {s : State} {slot : SlotId} {v : Volume} (h : openSlot? s.store.slots = some (slot, v))
    {n : Nat} (placed : s.tracker.state = .placed) (at' : s.tracker.n = some n) (count : Nat) :
    extendVolume s v.profile.leaves count =
      aimRetest (mechPump (setPlatens (computeTargets (extendNoted s slot v count) n)
        { left := (n - 1) * v.profile.thickness
          right := (v.profile.leaves + count + 1 - n) * v.profile.thickness })) := by
  obtain ⟨w, hw, profile⟩ := extendNoted_openSlot h count
  have targets : (computeTargets (extendNoted s slot v count) n).mech.targets
      = some { left := (n - 1) * v.profile.thickness
               right := (v.profile.leaves + count + 1 - n) * v.profile.thickness } := by
    rw [computeTargets_targets hw, profile]
    rfl
  simp only [extendVolume, extendNoted_eq h, extendNoted_tracker]
  simp only [placed, at', targets]

theorem extendVolume_elsewhere {s : State} {slot : SlotId} {v : Volume}
    (h : openSlot? s.store.slots = some (slot, v))
    (away : ∀ n, s.tracker.state = .placed → s.tracker.n = some n → False) (count : Nat) :
    extendVolume s v.profile.leaves count = extendNoted s slot v count := by
  simp only [extendVolume, extendNoted_eq h, extendNoted_tracker]

theorem extendVolume_eq {s : State} {slot : SlotId} {v : Volume} (h : openSlot? s.store.slots = some (slot, v))
    (count : Nat) :
    extendVolume s v.profile.leaves count =
      match s.tracker.state, s.tracker.n with
      | .placed, some n =>
        aimRetest (mechPump (setPlatens (computeTargets (extendNoted s slot v count) n)
          { left := (n - 1) * v.profile.thickness
            right := (v.profile.leaves + count + 1 - n) * v.profile.thickness }))
      | _, _ => extendNoted s slot v count := by
  split
  · next n placed at' => exact extendVolume_placed h placed at' count
  · next away => exact extendVolume_elsewhere h away count

theorem takeExtendVolume_of_open {s : State} {slot : SlotId} {v : Volume}
    (h : openSlot? s.store.slots = some (slot, v)) (count : Nat) :
    takeExtendVolume count s =
      if count = 0 ∨ 4000 < v.profile.leaves + count then refuse s .badValue 1
      else if s.turner.state ≠ .idle ∧ s.turner.state ≠ .halted ∨ captureRuns s.capture = true
          ∨ checkHolds s.lamps = true ∨ streamOf s slot = true then refuse s .busy 0
      else if freeFaces s < 2 * count then refuse s .storeFull 1
      else
        let t := extendVolume s v.profile.leaves count
        (t, taken [u 2 v.profile.leaves, u 2 (v.profile.leaves + count), u 2 (freeFaces t), u 2 (freeEntries t)]) := by
  simp only [takeExtendVolume, h, turnerAway, Bool.or_eq_true, Bool.and_eq_true, bne_iff_ne, or_assoc]
  rfl

/-- Settles O14: the checks of R26 in the model's order, the extension as one write and one append, the targets side
by side, and the renumbering face by face. -/
theorem extendVolumeTaken : Obligations.ExtendVolume := by
  refine ⟨fun c l s slot => ⟨captureRuns_iff c, checkHolds_iff l, streamOf_iff s slot⟩, fun tag count s h => ?_,
    fun s slot v n hopen => computeTargets_of_open hopen n,
    fun fs leaves more f wf longer above => ⟨facesRenumber_wf wf _ _, facesGet_renumber wf longer above f⟩⟩
  split
  · next none' => exact refuses_of_eq h rfl (by simp only [takeExtendVolume, enqueue_frame, none'])
  · next slot v hopen =>
    have eq := takeExtendVolume_of_open (s := enqueue s 0x02 tag) hopen count
    refine ite_prop_iff_and.mpr ⟨fun bad => refuses_of_eq h rfl (eq.trans (if_pos bad)), fun good => ?_⟩
    replace eq := eq.trans (if_neg good)
    refine ite_prop_iff_and.mpr ⟨fun busy => refuses_of_eq h rfl (eq.trans (if_pos busy)), fun idle => ?_⟩
    replace eq := eq.trans (if_neg idle)
    refine ite_prop_iff_and.mpr ⟨fun full => refuses_of_eq h rfl (eq.trans (if_pos full)), fun room => ?_⟩
    replace eq := eq.trans (if_neg room)
    intro longer after
    have same : extendVolume (enqueue s 0x02 tag) v.profile.leaves count = after :=
      extendVolume_eq (s := enqueue s 0x02 tag) hopen count
    refine takes_of_eq h rfl (eq.trans (by rw [same])) ?_
    change LinkKept (enqueue s 0x02 tag) after
    rw [← same]
    simp [LinkKept]

end Sys2Proof.Machine
end

-- ==== Proofs: receipts and the release decision ====
section
/-! ReceiptsAndRelease: FRAME_RECEIVED judged in the order of R130, ACCEPT, REJECT and the release decision. -/

namespace Sys2Proof.Machine

open Sys2Proof.Config

/-! ## The release decision, ACCEPT and REJECT (R131 to R133) -/

theorem releaseDecision_eq (s : State) :
    releaseDecision s =
      if s.capture.release = some .onReceipt then
        latch
          { setPendingStatus s .accepted with
            capture := { s.capture with state := .released, entry := none, lastOutcome := .released } }
          (.captureReady (s.capture.take.getD 0))
      else latch { s with capture := { s.capture with state := .acceptWait } }
        (.captureReady (s.capture.take.getD 0)) := by
  unfold releaseDecision
  split
  · next onReceipt => simp [onReceipt, setCapture]
  · next other => rw [if_neg other, setCapture]

theorem acceptCapture_eq (s : State) :
    acceptCapture s =
      { setPendingStatus s .accepted with
        capture := { s.capture with state := .released, entry := none, lastOutcome := .released } } := by
  simp [acceptCapture, setCapture]

theorem rejectCapture_eq (s : State) :
    rejectCapture s =
      { setPendingStatus s .rejected with
        capture :=
          { s.capture with
            state := .none, progress := Sides.both .notRequested, entry := none, lastOutcome := .rejected } } := by
  simp [rejectCapture, setCapture]

theorem takeAccept_eq (s : State) :
    takeAccept s =
      if s.capture.state ≠ .acceptWait then refuse s .wrongState 0
      else (acceptCapture s, taken (entryItems s.capture)) := by
  simp only [takeAccept, bne_iff_ne]

theorem takeReject_eq (s : State) :
    takeReject s =
      if s.capture.state ≠ .receiptWait ∧ s.capture.state ≠ .acceptWait then refuse s .wrongState 0
      else (rejectCapture s, taken (entryItems s.capture)) := by
  simp only [takeReject, Bool.and_eq_true, bne_iff_ne]

/-! ## Receipts (R130) -/

theorem cameraOf?_eq {camera : Nat} (h : ¬ (camera = 0 ∨ 2 < camera)) :
    cameraOf? camera = some (if camera = 1 then .left else .right)
      ∧ sideCode (if camera = 1 then .left else .right) = camera := by
  obtain rfl | rfl : camera = 1 ∨ camera = 2 := by omega
  · exact ⟨rfl, rfl⟩
  · exact ⟨rfl, rfl⟩

theorem cameraOf?_eq_none {camera : Nat} (h : camera = 0 ∨ 2 < camera) : cameraOf? camera = none := by
  unfold cameraOf?
  split <;> simp_all

/-- The frame number given is the side's, which has 32 bits. -/
theorem frameIs_iff (c : Capture) (side : Side) (number : Nat) :
    frameIs c side number = true ↔ c.frame.get side = some (BitVec.ofNat 32 number) ∧ number < 2 ^ 32 := by
  unfold frameIs
  split
  · next f hf =>
    rw [hf, decide_eq_true_eq, Option.some.injEq]
    constructor
    · rintro rfl
      exact ⟨by simp, f.isLt⟩
    · rintro ⟨rfl, small⟩
      exact Nat.mod_eq_of_lt small
  · next hf => simp [hf]

theorem receiptsDone_iff (c : Capture) : receiptsDone c = true ↔ missingReceipts c = 0 := by
  unfold receiptsDone missingReceipts
  dsimp only
  generalize (c.sides.getD .both).has .left = left
  generalize (c.sides.getD .both).has .right = right
  cases left <;> cases right <;> cases c.receipt.left <;> cases c.receipt.right <;> decide

/-- The record with one more receipt taken. -/
def receiptNoted (c : Capture) (side : Side) : Capture := { c with receipt := c.receipt.set side true }

theorem takeReceipt_eq (s : State) (side : Side) :
    takeReceipt s side =
      let noted : State := { s with capture := receiptNoted s.capture side }
      if s.capture.state = .receiptWait ∧ missingReceipts (receiptNoted s.capture side) = 0 then
        releaseDecision noted
      else noted := by
  simp only [takeReceipt, Bool.and_eq_true, decide_eq_true_eq, receiptsDone_iff]
  rfl

/-- The release decision takes no receipt away. -/
theorem missingReceipts_takeReceipt (s : State) (side : Side) :
    missingReceipts (takeReceipt s side).capture = missingReceipts (receiptNoted s.capture side) := by
  rw [takeReceipt_eq]
  dsimp only
  split
  · rw [releaseDecision_eq]
    split <;> simp [missingReceipts]
  · rfl

/-- FRAME_RECEIVED of one of the two cameras: the table of R130 in its order. -/
theorem takeFrameReceived_of_camera {camera : Nat} {side : Side} (hside : cameraOf? camera = some side)
    (code : sideCode side = camera) (number : Nat) (s : State) :
    takeFrameReceived camera number s =
      let c := s.capture
      let same := c.frame.get side = some (BitVec.ofNat 32 number) ∧ number < 2 ^ 32
      let again := (s, taken [u 1 camera, u 4 number, u 1 1, u 1 (missingReceipts c)])
      if c.state = .none ∨ c.state = .arming then refuse s .wrongState 0
      else if c.state = .acceptWait ∨ c.state = .released then
        if c.receipt.get side = true ∧ same then again else refuse s .wrongState 0
      else if (c.sides.getD .both).has side = false then refuse s .wrongFrame 1
      else if c.state = .exposing ∧ c.voiding = true ∨ c.progress.get side ≠ .done then refuse s .wrongState 0
      else if ¬ same then refuse s .wrongFrame 2
      else if c.receipt.get side = true then again
      else
        (takeReceipt s side,
          taken [u 1 camera, u 4 number, u 1 0, u 1 (missingReceipts (receiptNoted c side))]) := by
  simp only [takeFrameReceived, hside, receiptAnswer, code, missingReceipts_takeReceipt, Bool.or_eq_true,
    Bool.and_eq_true, Bool.not_eq_true', decide_eq_true_eq, bne_iff_ne, frameIs_iff,
    ← Bool.not_eq_true (frameIs _ _ _)]
  rfl

/-- Settles O49: the writes to the PENDING entry, the table of R130 in the model's order, and the two ways to
release. -/
theorem receiptsAndRelease : Obligations.ReceiptsAndRelease := by
  refine ⟨fun f e => rfl, fun s f => ?_, fun s status => rfl, fun tag s h => ?_⟩
  · rcases hopen : openSlot? s.store.slots with _ | ⟨slot, v⟩
    · exact onOpen_none hopen _
    · exact onOpen_eq hopen _
  intro c sides reply
  refine ⟨fun camera number => ?_, ?_, ?_, releaseDecision_eq s⟩
  · intro no
    refine ite_prop_iff_and.mpr ⟨fun bad => ?_, fun good => ?_⟩
    · exact refuses_of_eq h rfl (by simp only [takeFrameReceived, cameraOf?_eq_none bad])
    intro side same missing again
    obtain ⟨hside, code⟩ := cameraOf?_eq good
    have eq := takeFrameReceived_of_camera hside code number (enqueue s 0x31 tag)
    have again' (e : takeFrameReceived camera number (enqueue s 0x31 tag) = (enqueue s 0x31 tag,
        taken [u 1 camera, u 4 number, u 1 1, u 1 (missingReceipts c)])) : again :=
      takes_of_eq (f := id) h rfl e (linkKept_refl _)
    refine ite_prop_iff_and.mpr ⟨fun early => refuses_of_eq h rfl (eq.trans (if_pos early)), fun begun => ?_⟩
    replace eq := eq.trans (if_neg begun)
    refine ite_prop_iff_and.mpr ⟨fun late => ?_, fun running => ?_⟩
    · replace eq := eq.trans (if_pos late)
      refine ite_prop_iff_and.mpr ⟨fun dup => again' (eq.trans (if_pos dup)), fun fresh => ?_⟩
      exact refuses_of_eq h rfl (eq.trans (if_neg fresh))
    replace eq := eq.trans (if_neg running)
    refine ite_prop_iff_and.mpr ⟨fun other => refuses_of_eq h rfl (eq.trans (if_pos other)), fun asked => ?_⟩
    replace eq := eq.trans (if_neg asked)
    refine ite_prop_iff_and.mpr ⟨fun unready => refuses_of_eq h rfl (eq.trans (if_pos unready)), fun done => ?_⟩
    replace eq := eq.trans (if_neg done)
    refine ite_prop_iff_and.mpr ⟨fun wrong => refuses_of_eq h rfl (eq.trans (if_pos wrong)), fun right => ?_⟩
    replace eq := eq.trans (if_neg right)
    refine ite_prop_iff_and.mpr ⟨fun dup => again' (eq.trans (if_pos dup)), fun fresh => ?_⟩
    replace eq := eq.trans (if_neg fresh)
    rw [takeReceipt_eq] at eq
    refine takes_of_eq h rfl eq ?_
    dsimp only
    split <;> simp [LinkKept]
  · have eq := takeAccept_eq (enqueue s 0x32 tag)
    refine ite_prop_iff_and.mpr ⟨fun other => refuses_of_eq h rfl (eq.trans (if_pos other)), fun waits => ?_⟩
    replace eq := eq.trans (if_neg waits)
    rw [acceptCapture_eq] at eq
    exact takes_of_eq h rfl eq (by simp [LinkKept])
  · have eq := takeReject_eq (enqueue s 0x33 tag)
    refine ite_prop_iff_and.mpr ⟨fun other => refuses_of_eq h rfl (eq.trans (if_pos other)), fun waits => ?_⟩
    replace eq := eq.trans (if_neg waits)
    rw [rejectCapture_eq] at eq
    exact takes_of_eq h rfl eq (by simp [LinkKept])

end Sys2Proof.Machine
end

-- ==== Proofs: the turner's raises, CANCEL_TURN and PARK ====
section
/-! RaisesAskedByTheTurner and CancelAndPark: what a raise makes of the glass, and what its outcome makes of the
turner. -/

namespace Sys2Proof.Machine

open Sys2Proof.Config

/-! ## A raise asked of the glass (R73) -/

/-- The glass once a raise is asked of it: RAISING, or the raise kept under a press's claim. -/
def raiseAsked (g : Glass) : Glass :=
  match g.state with
  | .raised => g
  | .raising => g
  | .halted => { g with state := .raising, keptRaise := false }
  | _ => if g.claim then { g with keptRaise := true } else { g with state := .raising, keptRaise := false }

theorem askRaise_eq (s : State) : askRaise s = setGlass s (raiseAsked s.mech.glass) := by
  unfold askRaise raiseAsked
  cases h : s.mech.glass.state
  case lowering | pressed => simp only [h, apply_ite (setGlass s), glassRaise]
  case raised | raising | halted => rfl

/-- Away from RAISED a raise starts, unless a lowered glass has its claim held. -/
theorem raiseAsked_of_ne_raised {g : Glass} (h : g.state ≠ .raised) :
    raiseAsked g =
      let held := (g.state = .lowering ∨ g.state = .pressed) ∧ g.claim = true
      { g with
        state := if held then g.state else .raising
        keptRaise := if held then true else if g.state = .raising then g.keptRaise else false } := by
  obtain ⟨state, _, _, claim, _, _, _, _⟩ := g
  cases state
  case raised => exact absurd rfl h
  case raising | halted | lowering | pressed => cases claim <;> rfl

/-! ## The arm leaves home (R48, R49, R54) -/

theorem enterLift_eq (s : State) :
    enterLift s = { s with
      turner := { s.turner with state := .lift, step := .running, purpose := none, valveClosed := true }
      pins := { s.pins with home := false } } := rfl

/-- REACH, or LIFT at once where the arm stands at the far end already. -/
theorem enterReach_eq (s : State) :
    enterReach s = { s with
      turner := { s.turner with
        state := if s.pins.farEnd then .lift else .reach
        step := .running, purpose := none, valveClosed := s.pins.farEnd || s.turner.valveClosed }
      pins := { s.pins with home := false } } := by
  unfold enterReach
  cases h : s.pins.farEnd <;> simp [setPhase, leaveHome, setTurner, enterLift_eq, h]

/-! ## The raise's outcome (R48, R59, R60) -/

theorem turnerRaised_lift {s : State} (wait : s.turner.step = .glassWait) (lift : s.turner.state = .lift) :
    turnerRaised s = enterLift s := by
  simp only [turnerRaised, if_pos wait, lift]

theorem turnerRaised_reach {s : State} (wait : s.turner.step = .glassWait) (reach : s.turner.state = .reach) :
    turnerRaised s = enterReach s := by
  simp only [turnerRaised, if_pos wait, reach]

theorem turnerRaised_manualWait {s : State} (wait : s.turner.step = .glassWait)
    (manual : s.turner.state = .manualWait) :
    turnerRaised s = { s with turner := { s.turner with step := .running } } := by
  simp only [turnerRaised, if_pos wait, manual, setTurner]

/-- The arm on its way home from a halt, its valve open. -/
def parkLeaves (s : State) : State :=
  { s with
    turner :=
      { s.turner with
        state := .ret, step := .running, purpose := some .park, parkWaiting := false, cupHeld := false
        valveClosed := false }
    pins := { s.pins with hold := false, farEnd := false } }

theorem turnerRaised_of_park {s : State} (step : s.turner.step = .running) (halted : s.turner.state = .halted)
    (park : s.turner.parkWaiting = true) :
    turnerRaised s = if s.pins.home = true then endReturn (parkLeaves s) else parkLeaves s := by
  simp only [turnerRaised, step, halted, park]
  rfl

theorem turnerRaiseFailed_of_wait {s : State} (h : s.turner.step = .glassWait) :
    turnerRaiseFailed s = latch (appendIncident (turnerIdle s .glassFailed) .turnFailed 2 0) (.turnFailed 2) := by
  simp only [turnerRaiseFailed, if_pos h]

theorem turnerRaiseFailed_of_park {s : State} (step : s.turner.step = .running) (halted : s.turner.state = .halted)
    (park : s.turner.parkWaiting = true) :
    turnerRaiseFailed s
      = latch { s with turner := { s.turner with parkWaiting := false, lastOutcome := .parkFailed } }
          (.turnParkFailed 1) := by
  simp only [turnerRaiseFailed, step, halted, park]
  rfl

/-- A report that neither a turn nor a park waits for. -/
theorem raise_unheard {s : State} (step : s.turner.step = .running)
    (none' : s.turner.state ≠ .halted ∨ s.turner.parkWaiting = false) :
    turnerRaised s = s ∧ turnerRaiseFailed s = s := by
  have unheard : ¬ ((s.turner.parkWaiting && decide (s.turner.state = .halted)) = true) := by
    rcases none' with h | h <;> simp [h]
  have running : s.turner.step ≠ .glassWait := by simp [step]
  simp only [turnerRaised, turnerRaiseFailed, if_neg running, if_neg unheard, and_self]

theorem turnerAsksRaise_of_raised {s : State} (h : s.mech.glass.state = .raised) (w : RaiseWaiter) :
    turnerAsksRaise s w = turnerRaised s := if_pos h

theorem turnerAsksRaise_of_ne_raised {s : State} (h : s.mech.glass.state ≠ .raised) (w : RaiseWaiter) :
    turnerAsksRaise s w
      = setGlass s (raiseAsked { s.mech.glass with waiters := s.mech.glass.waiters ++ [w] }) := by
  simp only [turnerAsksRaise, if_neg h, askRaiseWaiting, askRaise_eq]
  rfl

/-- Settles O29: the raise as one write of the glass, and its outcome by who waits for it. -/
theorem raisesAskedByTheTurner : Obligations.RaisesAskedByTheTurner := by
  intro s w
  refine ⟨fun away => ?_, (turnerAsksRaise_of_raised · w), fun wait lift => ?_, fun wait reach => ?_,
    turnerRaised_manualWait, fun step halted park home => ?_, fun step halted park home => ?_,
    turnerRaiseFailed_of_wait, turnerRaiseFailed_of_park, raise_unheard⟩
  · rw [turnerAsksRaise_of_ne_raised away, raiseAsked_of_ne_raised (by exact away)]
    rfl
  · rw [turnerRaised_lift wait lift]
    simp only [enterLift_eq, lift]
  · exact (turnerRaised_reach wait reach).trans (enterReach_eq s)
  · rw [turnerRaised_of_park step halted park, home, parkLeaves, ← step]
    rfl
  · rw [turnerRaised_of_park step halted park, if_pos home, endReturn_park rfl]
    simp [turnerIdle, setTurner, parkLeaves, step]

/-! ## A chain of refusals (R164) -/

/-- A request that is refused where a check fails, and otherwise does what the rest of its checks let it do. -/
theorem ite_refuses {i : Instr} {s : State} {kind tag : Nat} {take : State → State × Answer} {reason : Reason}
    {field : Nat} {bad : Prop} [Decidable bad] {rest : State × Answer} {good : Prop} (h : Ready s)
    (hi : exec i s = .next (arrive s kind tag take))
    (eq : take (enqueue s kind tag) = if bad then refuse (enqueue s kind tag) reason field else rest)
    (hgood : take (enqueue s kind tag) = rest → good) :
    if bad then Refuses i s kind tag reason field else good :=
  ite_prop_iff_and.mpr ⟨fun hbad => refuses_of_eq h hi (eq.trans (if_pos hbad)),
    fun hok => hgood (eq.trans (if_neg hok))⟩

/-! ## CANCEL_TURN (R62) -/

theorem takeCancelTurn_eq (s : State) :
    takeCancelTurn s =
      if s.turner.state = .manualWait
          ∨ s.turner.step = .glassWait ∧ (s.turner.state = .reach ∨ s.turner.state = .lift) then
        (turnerIdle (dropWaiter s .turn) .cancelled, taken [u 2 (s.tracker.n.getD 0)])
      else refuse s .wrongState 0 := by
  simp only [takeCancelTurn, cancellable, openingField, Bool.not_eq_true', ← Bool.not_eq_true, Bool.or_eq_true,
    Bool.and_eq_true, decide_eq_true_eq, ite_not]

/-! ## PARK (R59) -/

theorem takePark_eq (s : State) :
    takePark s =
      if s.turner.state ≠ .halted then refuse s .wrongState 0
      else if s.pause.state = .pausedBroken then refuse s .wrongState 0
      else if s.turner.parkWaiting = true then refuse s .busy 0
      else if s.capture.state = .arming ∨ s.capture.state = .exposing then refuse s .busy 0
      else (turnerAsksRaise { s with turner := { s.turner with parkWaiting := true } } .park, started []) := by
  simp only [takePark, bne_iff_ne, captureRuns_iff]
  rfl

/-- Settles O30: CANCEL_TURN's one check and PARK's four, in the model's order. -/
theorem cancelAndPark : Obligations.CancelAndPark := by
  intro tag s h
  constructor
  · have eq := takeCancelTurn_eq (enqueue s 0x13 tag)
    exact ite_prop_iff_and.mpr
      ⟨fun waits => takes_of_eq h rfl (eq.trans (if_pos waits)) ⟨rfl, rfl, rfl, rfl, rfl⟩,
        fun away => refuses_of_eq h rfl (eq.trans (if_neg away))⟩
  · refine ite_refuses h rfl (takePark_eq (enqueue s 0x11 tag)) fun eq => ?_
    iterate 3 refine ite_refuses h rfl eq fun eq => ?_
    exact takes_of_eq h rfl eq (by simp [LinkKept])

end Sys2Proof.Machine
end

-- ==== Proofs: the arm's phases ====
section
/-! ArmPhases and FailedAttempts: where each phase ends, and how an attempt that fails is followed by the next. -/

namespace Sys2Proof.Machine

open Sys2Proof.Config

/-! ## Where the turner stands -/

theorem inPhase_iff {t : Turner} {phase : TurnerState} :
    inPhase t phase = true ↔ t.state = phase ∧ t.step = .running := by
  simp [inPhase]

/-- The turner is in one phase at a time. -/
theorem inPhase_other {t : Turner} {phase other : TurnerState} (h : inPhase t phase = true)
    (differ : phase ≠ other) : inPhase t other = false := by
  simp [inPhase, (inPhase_iff.mp h).1, differ]

/-- An event that makes `u` of the part, the aiming light tested again before the transmitter takes its next frame. -/
theorem does_aimRetest {i : Instr} {s u : State} (hx : exec i s = .next (transmit (aimRetest u)))
    (hl : LinkKept s u) : Does i s (aimRetest u) := by
  obtain ⟨framer, queue, replies, resetting, rate⟩ := hl
  exact does_of_transmit hx (by simp [LinkKept, framer, queue, replies, resetting, rate])

/-! ## REACH and CARRY (R52, R54) -/

theorem farEndSensor_reach {s : State} (h : inPhase s.turner .reach = true) :
    exec (.farEndSensor true) s
      = .next { s with
          turner := { s.turner with state := .lift, purpose := none, valveClosed := true }
          pins := { s.pins with farEnd := true, home := false } } := by
  have lifts : exec (.farEndSensor true) s = .next (enterLift { s with pins := { s.pins with farEnd := true } }) := by
    simp [exec, execFarEndSensor, h]
  rw [lifts, enterLift_eq, ← (inPhase_iff.mp h).2]

theorem farEndSensor_carry {s : State} (h : inPhase s.turner .carry = true)
    (forward : s.turner.direction ≠ some .back) :
    exec (.farEndSensor true) s = .next (enterLay { s with pins := { s.pins with farEnd := true } }) := by
  simp [exec, execFarEndSensor, h, inPhase_other h (other := .reach) (by decide), forward]

theorem farEndSensor_elsewhere {s : State} (reach : inPhase s.turner .reach ≠ true)
    (carry : ¬ (inPhase s.turner .carry = true ∧ s.turner.direction ≠ some .back)) :
    exec (.farEndSensor true) s = .next { s with pins := { s.pins with farEnd := true } } := by
  simp_all [exec, execFarEndSensor]

theorem homeSensor_carry {s : State} (h : inPhase s.turner .carry = true) (back : s.turner.direction = some .back) :
    exec (.homeSensor true) s = .next (enterLay { s with pins := { s.pins with home := true } }) := by
  simp [exec, execHomeSensor, h, back]

theorem homeSensor_elsewhere {s : State}
    (carry : ¬ (inPhase s.turner .carry = true ∧ s.turner.direction = some .back))
    (ret : inPhase s.turner .ret = false) :
    exec (.homeSensor true) s = .next { s with pins := { s.pins with home := true } } := by
  simp_all [exec, execHomeSensor]

/-! ## LIFT and SEPARATE (R49, R50) -/

theorem holdSensor_lift {s : State} (h : inPhase s.turner .lift = true) :
    exec (.holdSensor true) s
      = .next { s with
          turner := { s.turner with state := .separate, purpose := none }
          pins := { s.pins with hold := true } } := by
  simp [exec, execHoldSensor, h, setPhase, setTurner, (inPhase_iff.mp h).2]

/-- The hold sensor's clearing, which in LAY tells that the valve has opened. -/
theorem holdSensor_clear (s : State) :
    exec (.holdSensor false) s
      = .next { s with
          turner := { s.turner with
            valveClosed := if inPhase s.turner .lay = true then false else s.turner.valveClosed }
          pins := { s.pins with hold := false } } := by
  by_cases h : inPhase s.turner .lay = true <;> simp [exec, execHoldSensor, h, openValve]

theorem separationTime_one {s : State} (h : inPhase s.turner .separate = true) :
    exec (.separationTime 1) s
      = .next { s with
          turner := { s.turner with state := .carry, purpose := none, lastCount := some 1 }
          pins := { s.pins with farEnd := if s.turner.direction = some .back then false else s.pins.farEnd } } := by
  have carries : exec (.separationTime 1) s
      = .next (enterCarry { s with turner := { s.turner with lastCount := some 1 } }) := by
    simp [exec, execSeparationTime, h, setTurner]
  rw [carries]
  rcases hd : s.turner.direction with _ | _ | _ <;>
    simp [enterCarry, hd, setPhase, setTurner, leaveFarEnd, (inPhase_iff.mp h).2]

theorem separationTime_elsewhere {s : State} (h : ¬ inPhase s.turner .separate = true) (count : Nat) :
    exec (.separationTime count) s = .next s := by
  simp [exec, execSeparationTime, h]

/-! ## LAY (R52) -/

/-- The platens are sent to the offsets of the opening that the turn leads to. -/
theorem enterLay_of_open {s : State} {slot : SlotId} {v : Volume} (h : openSlot? s.store.slots = some (slot, v))
    {n : Nat} {d : Direction} (hn : s.tracker.n = some n) (hd : s.turner.direction = some d) :
    enterLay s
      = setPlatens
          { s with
            turner := { s.turner with state := .lay, step := .running, purpose := none, layEmpty := false }
            pins := { s.pins with home := false } }
          (platenTargets v.profile (reached n d)) := by
  have hv : openVolume? s = some v := openVolume?_eq h
  have low : enterLay s =
      let low : State :=
        { s with
          turner := { s.turner with state := .lay, step := .running, purpose := none, layEmpty := false }
          pins := { s.pins with home := false } }
      match openVolume? s, s.tracker.n, s.turner.direction with
      | some v, some n, some d => setPlatens low (platenTargets v.profile (reached n d))
      | _, _, _ => low := rfl
  simp only [low, hv, hn, hd]

/-- LAY goes on until both platens are SETTLED. -/
theorem layPump_of_empty {s : State} (h : inPhase s.turner .lay = true) (empty : s.turner.layEmpty = true) :
    layPump s = if platensSettled s = true then enterReturn s .turn else s := by
  obtain ⟨lay, running⟩ := inPhase_iff.mp h
  simp [layPump, lay, running, empty]

/-- Cup-empty is taken in LAY, where the valve has then opened. -/
def cupEmptied (s : State) : State :=
  { s with
    turner := { s.turner with layEmpty := true, valveClosed := false }
    pins := { s.pins with cupEmpty := true, hold := false } }

theorem cupEmptySensor_lay {s : State} (h : inPhase s.turner .lay = true) :
    exec (.cupEmptySensor true) s
      = .next (transmit (aimRetest
          (if platensSettled s = true then enterReturn (cupEmptied s) .turn else cupEmptied s))) := by
  have pumps : exec (.cupEmptySensor true) s = .next (transmit (aimRetest (layPump (cupEmptied s)))) := by
    simp only [exec, execCupEmptySensor, h, Bool.and_self, if_true]
    rfl
  rw [pumps, layPump_of_empty (by exact h) rfl]
  rfl

theorem cupEmptySensor_elsewhere {s : State} (h : ¬ inPhase s.turner .lay = true) :
    exec (.cupEmptySensor true) s = .next { s with pins := { s.pins with cupEmpty := true } } := by
  simp [exec, execCupEmptySensor, h]

/-- Settles O32: sensor by sensor, the phase it ends and what it does elsewhere. -/
theorem armPhases : Obligations.ArmPhases := by
  intro s
  refine ⟨?_, rfl, ?_, holdSensor_clear s, ?_, ?_, fun slot v n d hopen hn hd => ?_, ?_, rfl⟩
  · exact ite_prop_iff_and.mpr ⟨farEndSensor_reach, fun reach => ite_prop_iff_and.mpr
      ⟨fun ⟨carry, forward⟩ => farEndSensor_carry carry forward, farEndSensor_elsewhere reach⟩⟩
  · exact ite_prop_iff_and.mpr ⟨holdSensor_lift, fun away => by simp [exec, execHoldSensor, away]⟩
  · exact ite_prop_iff_and.mpr ⟨separationTime_one, separationTime_elsewhere⟩
  · exact ite_prop_iff_and.mpr ⟨fun ⟨carry, back⟩ => homeSensor_carry carry back, homeSensor_elsewhere⟩
  · rw [enterLay_of_open hopen hn hd]
    cases d <;> rfl
  · refine ite_prop_iff_and.mpr ⟨fun lay => does_aimRetest (cupEmptySensor_lay lay) ?_, cupEmptySensor_elsewhere⟩
    split <;> simp [LinkKept]

/-! ## Attempts that fail (R49 to R51, R55) -/

theorem liftTimeout_lift {s : State} (h : inPhase s.turner .lift = true) :
    exec .liftTimeout s = .next (transmit (aimRetest (attemptEnds (openValve s) .noLift 1))) := by
  simp [exec, execLiftTimeout, h]

theorem separationTime_zero {s : State} (h : inPhase s.turner .separate = true) :
    exec (.separationTime 0) s
      = .next (transmit (aimRetest
          (attemptEnds (openValve { s with turner := { s.turner with lastCount := some 0 } }) .noLift 2))) := by
  simp [exec, execSeparationTime, h, setTurner]

theorem separationTime_many {s : State} (h : inPhase s.turner .separate = true) {count : Nat} (many : 2 ≤ count) :
    exec (.separationTime count) s
      = .next { s with
          turner := { s.turner with state := .restore, purpose := none, lastCount := some (min count 3) } } := by
  have notZero : count ≠ 0 := by omega
  have notOne : count ≠ 1 := by omega
  simp [exec, execSeparationTime, h, notZero, notOne, setPhase, setTurner, (inPhase_iff.mp h).2]

/-- In RESTORE the valve opens once, at the end of the descent or at the LIFT time-out. -/
theorem restore_releases {s : State} (h : inPhase s.turner .restore = true)
    (held : s.turner.restoreReleased = false) :
    exec .restoreDescentEnd s = .next (restoreRelease s) ∧ exec .liftTimeout s = .next (restoreRelease s) := by
  have notLift := inPhase_other h (other := .lift) (by decide)
  simp [exec, execRestoreDescentEnd, execLiftTimeout, h, held, notLift]

theorem restoreReleaseWait_released {s : State} (h : inPhase s.turner .restore = true)
    (released : s.turner.restoreReleased = true) :
    exec .restoreReleaseWait s = .next (transmit (aimRetest (restoreEnds s))) := by
  simp [exec, execRestoreReleaseWait, h, released]

theorem restoreEnds_eq {s : State} {level : Nat} (h : s.turner.airLevel = some level) :
    restoreEnds s = attemptEnds
      { s with
        turner := { s.turner with
          airLevel := some (if s.turner.plateHeld = some true then level else min 4 (level + 1))
          restoreReleased := false } } .doubleLeaf level := by
  simp only [restoreEnds, h, Option.getD_some, setTurner]

/-- The first phase of an attempt: REACH backward, but LIFT at once where the arm stands at the far end. -/
theorem startAttempt_eq (s : State) :
    startAttempt s = { s with
      turner := { s.turner with
        step := .running, purpose := none
        state := if s.turner.direction = some .back ∧ s.pins.farEnd = false then .reach else .lift
        valveClosed :=
          if s.turner.direction = some .back ∧ s.pins.farEnd = false then s.turner.valveClosed else true }
      pins := { s.pins with home := false } } := by
  rcases hd : s.turner.direction with _ | _ | _
  case some.back => cases hf : s.pins.farEnd <;> simp [startAttempt, hd, hf, enterReach_eq]
  all_goals simp [startAttempt, hd, enterLift_eq]

/-- Below the limit the next attempt follows. -/
theorem attemptEnds_again {s : State} {a : Nat} (h : s.turner.attempt = some a) (below : a < s.turner.settings.limit)
    (kind : IncidentKind) (second : Nat) :
    attemptEnds s kind second
      = startAttempt { appendIncident s kind a second with turner := { s.turner with attempt := some (a + 1) } } := by
  simp [attemptEnds, h, below, setTurner]

theorem attemptEnds_exhausted {s : State} {a : Nat} (h : s.turner.attempt = some a)
    (limit : ¬ a < s.turner.settings.limit) (kind : IncidentKind) (second : Nat) :
    attemptEnds s kind second = enterReturn (appendIncident s kind a second) .failureReturn := by
  simp [attemptEnds, h, limit]

/-- Settles O33: the events that fail an attempt, and the attempt that follows. -/
theorem failedAttempts : Obligations.FailedAttempts := by
  intro s
  refine ⟨fun lift => does_aimRetest (liftTimeout_lift lift) (by simp [LinkKept]),
    fun separate => ⟨?_, fun count => ?_⟩, fun restore held => ?_, fun restore released level hlevel => ?_, fun kind second a ha => ?_⟩
  · exact does_aimRetest (separationTime_zero separate) (by simp [LinkKept])
  · exact separationTime_many separate
  · obtain ⟨descent, timeout⟩ := restore_releases restore held
    exact ⟨descent, timeout.trans descent.symm⟩
  · have waited := restoreReleaseWait_released restore released
    rw [restoreEnds_eq hlevel] at waited
    exact does_aimRetest waited (by simp [LinkKept])
  · refine ite_prop_iff_and.mpr ⟨fun below => ?_, fun limit => attemptEnds_exhausted ha limit kind second⟩
    rw [attemptEnds_again ha below, startAttempt_eq]
    simp

end Sys2Proof.Machine
end

-- ==== Proofs: SET_TURNER, SET_CHECKS and SET_CAPTURE ====
section
/-! SettingsReplacedTogether: each request's fields judged from the lowest on, then its settings replaced. -/

namespace Sys2Proof.Machine

open Sys2Proof.Config

/-! ## Fields judged in order -/

/-- What the first failing check decides, as a chain of refusals. -/
theorem firstBad_cons {α : Type} (index : Nat) (good : Bool) (rest : List (Nat × Bool)) (bad : Nat → α)
    (done : α) :
    (match firstBad ((index, good) :: rest) with | some field => bad field | none => done)
      = if good = false then bad index
        else match firstBad rest with | some field => bad field | none => done := by
  cases good <;> rfl

theorem within_eq_false {low high v : Nat} : within low high v = false ↔ v < low ∨ high < v := by
  simp only [within, Bool.and_eq_false_iff, decide_eq_false_iff_not, Nat.not_le]

theorem within_zero_eq_false {high v : Nat} : within 0 high v = false ↔ high < v := by
  simp [within_eq_false]

/-! ## SET_TURNER (R63) -/

theorem takeSetTurner_eq (reach lift carry lay ret limit : Nat) (s : State) :
    takeSetTurner reach lift carry lay ret limit s =
      if s.turner.state ≠ .idle then refuse s .wrongState 0
      else if reach < 100 ∨ 10000 < reach then refuse s .badValue 1
      else if lift < 100 ∨ 10000 < lift then refuse s .badValue 2
      else if carry < 100 ∨ 10000 < carry then refuse s .badValue 3
      else if lay < 100 ∨ 10000 < lay then refuse s .badValue 4
      else if ret < 100 ∨ 10000 < ret then refuse s .badValue 5
      else if limit < 1 ∨ 5 < limit then refuse s .badValue 6
      else
        ({ s with turner := { s.turner with settings :=
            { reach := reach, lift := lift, carry := carry, lay := lay, ret := ret, limit := limit } } },
          taken [u 2 reach, u 2 lift, u 2 carry, u 2 lay, u 2 ret, u 1 limit]) := by
  simp only [takeSetTurner, bne_iff_ne]
  refine if_congr Iff.rfl rfl ?_
  iterate 6 refine (firstBad_cons ..).trans (if_congr within_eq_false rfl ?_)
  rfl

/-! ## SET_CHECKS (R102) -/

theorem relation_eq_false {tolerance failLimit : Nat} :
    (decide (tolerance < failLimit) && decide (failLimit ≤ 900)) = false
      ↔ failLimit ≤ tolerance ∨ 900 < failLimit := by
  simp only [Bool.and_eq_false_iff, decide_eq_false_iff_not, Nat.not_le, Nat.not_lt]

/-- The counter stands, or falls to the new K. -/
theorem min_counter (counter interval : Nat) :
    min counter interval = if interval < counter then interval else counter := by
  split <;> omega

theorem takeSetChecks_eq (interval rotation tolerance failLimit : Nat) (s : State) :
    takeSetChecks interval rotation tolerance failLimit s =
      if interval < 1 ∨ 255 < interval then refuse s .badValue 1
      else if 1 < rotation then refuse s .badValue 2
      else if tolerance < 1 ∨ 500 < tolerance then refuse s .badValue 3
      else if failLimit ≤ tolerance ∨ 900 < failLimit then refuse s .badValue 4
      else if s.lamps.waitingCheck.isSome = true ∨ checkHolds s.lamps = true then refuse s .busy 0
      else
        ({ s with lamps := { s.lamps with
            interval := interval, rotation := decide (rotation = 1), tolerance := tolerance, failLimit := failLimit
            counter := if interval < s.lamps.counter then interval else s.lamps.counter } },
          taken [u 1 interval, u 1 rotation, u 2 tolerance, u 2 failLimit,
            u 1 (if interval < s.lamps.counter then interval else s.lamps.counter)]) := by
  simp only [takeSetChecks, checkActive, checkSettings, setLamps, min_counter, Bool.or_eq_true]
  refine (firstBad_cons ..).trans (if_congr within_eq_false rfl ?_)
  refine (firstBad_cons ..).trans (if_congr within_zero_eq_false rfl ?_)
  refine (firstBad_cons ..).trans (if_congr within_eq_false rfl ?_)
  refine (firstBad_cons ..).trans (if_congr relation_eq_false rfl ?_)
  rfl

/-! ## SET_CAPTURE (R137) -/

theorem captureStands_iff (c : Capture) : captureStands c = true ↔ c.state ≠ .none ∧ c.state ≠ .released := by
  cases h : c.state <;> simp [captureStands, captureRuns, h]

theorem takeSetCapture_eq (mode timeout delayL delayR pedal : Nat) (s : State) :
    takeSetCapture mode timeout delayL delayR pedal s =
      if s.capture.state ≠ .none ∧ s.capture.state ≠ .released then refuse s .wrongState 0
      else if 1 < mode then refuse s .badValue 1
      else if timeout < 50 ∨ 5000 < timeout then refuse s .badValue 2
      else if 5000 < delayL then refuse s .badValue 3
      else if 5000 < delayR then refuse s .badValue 4
      else if 1 < pedal then refuse s .badValue 5
      else
        ({ s with capture := { s.capture with
            releaseMode := if mode = 0 then .onReceipt else .onAccept
            timeout := timeout, strobeDelay := { left := delayL, right := delayR }
            pedalCapture := decide (pedal = 1) } },
          taken [u 1 mode, u 2 timeout, u 2 delayL, u 2 delayR, u 1 pedal]) := by
  simp only [takeSetCapture, captureStands_iff]
  refine if_congr Iff.rfl rfl ?_
  refine (firstBad_cons ..).trans (if_congr within_zero_eq_false rfl ?_)
  refine (firstBad_cons ..).trans (if_congr within_eq_false rfl ?_)
  iterate 3 refine (firstBad_cons ..).trans (if_congr within_zero_eq_false rfl ?_)
  rfl

/-! ## The three requests -/

/-- Settles O36: the chain of checks of each request, then its settings. -/
theorem settingsReplacedTogether : Obligations.SettingsReplacedTogether := by
  refine ⟨fun tag reach lift carry lay ret limit s h => ?_, fun tag interval rotation tolerance failLimit s h => ?_,
    fun tag mode timeout delayL delayR pedal s h => ?_⟩
  · refine ite_refuses h rfl (takeSetTurner_eq _ _ _ _ _ _ (enqueue s 0x14 tag)) fun eq => ?_
    iterate 6 refine ite_refuses h rfl eq fun eq => ?_
    exact takes_of_eq h rfl eq ⟨rfl, rfl, rfl, rfl, rfl⟩
  · refine ite_refuses h rfl (takeSetChecks_eq _ _ _ _ (enqueue s 0x26 tag)) fun eq => ?_
    iterate 4 refine ite_refuses h rfl eq fun eq => ?_
    exact takes_of_eq h rfl eq ⟨rfl, rfl, rfl, rfl, rfl⟩
  · refine ite_refuses h rfl (takeSetCapture_eq _ _ _ _ _ (enqueue s 0x34 tag)) fun eq => ?_
    iterate 5 refine ite_refuses h rfl eq fun eq => ?_
    exact takes_of_eq h rfl eq ⟨rfl, rfl, rfl, rfl, rfl⟩

end Sys2Proof.Machine
end

-- ==== Proofs: moves and their ends ====
section
/-! MechanicsMovesEnd: moves asked of the platens and the angle, and what ends them and the glass's moves. -/

namespace Sys2Proof.Machine

open Sys2Proof.Config

/-! ## Moves asked (R65, R66, R73, R79) -/

theorem raiseAsked_of_raised {g : Glass} (h : g.state = .raised) : raiseAsked g = g := by
  simp only [raiseAsked, h]

theorem bne_raised (g : GlassState) : (g != .raised) = decide (g ≠ .raised) := by
  cases g <;> rfl

/-- A move asked of a glass that stands at `g`: its drives wait for a raise unless the glass is RAISED. -/
theorem raise_for_move (s : State) {g : GlassState} (h : s.mech.glass.state = g) :
    (if decide (g ≠ .raised) = true then askRaise s else s) = setGlass s (raiseAsked s.mech.glass) := by
  by_cases raised : g = .raised
  · rw [raiseAsked_of_raised (h.trans raised)]
    simp [raised, setGlass]
  · simp [raised, askRaise_eq]

theorem setPlatens_eq (s : State) (targets : Sides Nat) :
    setPlatens s targets = { s with mech := { s.mech with
      glass := raiseAsked s.mech.glass
      platens :=
        { left := { s.mech.platens.left with
            setpoint := if 80000 < targets.left then 80000 else targets.left
            pending := decide (s.mech.glass.state ≠ .raised) }
          right := { s.mech.platens.right with
            setpoint := if 80000 < targets.right then 80000 else targets.right
            pending := decide (s.mech.glass.state ≠ .raised) } } } } := by
  unfold setPlatens
  rw [clampTravel_eq, clampTravel_eq, bne_raised]
  exact raise_for_move _ rfl

theorem setAngleTarget_eq (s : State) (angle : Nat) :
    setAngleTarget s angle = { s with mech := { s.mech with
      glass := raiseAsked s.mech.glass, angleTarget := angle
      anglePending := decide (s.mech.glass.state ≠ .raised) } } := by
  unfold setAngleTarget
  rw [bne_raised]
  exact raise_for_move _ rfl

/-! ## Feedback (R52, R66) -/

theorem platenSettled_iff (s : State) (side : Side) :
    platenSettled s side = true ↔
      s.pins.position.get side = (s.mech.platens.get side).setpoint ∧ (s.mech.platens.get side).pending = false := by
  simp [platenSettled]

theorem layPump_eq (s : State) :
    layPump s =
      if s.turner.state = .lay ∧ s.turner.step = .running ∧ s.turner.layEmpty = true
          ∧ s.pins.position.left = s.mech.platens.left.setpoint ∧ s.mech.platens.left.pending = false
          ∧ s.pins.position.right = s.mech.platens.right.setpoint ∧ s.mech.platens.right.pending = false then
        enterReturn s .turn
      else s := by
  simp only [layPump, platensSettled, Bool.and_eq_true, decide_eq_true_eq, platenSettled_iff, and_assoc]
  rfl

/-! ## The ends of the glass's moves (R72, R73) -/

theorem glassFault_eq (s : State) (f : GlassFault) :
    glassFault s f = { appendIncident s .glassFault f.code f.force with
      mech := { s.mech with glass := { s.mech.glass with fault := f } } } :=
  appendIncident_mech s _ _ _ _

/-- The glass halted by the time-out of a raise, its waiters off the list and its fault noted. -/
def raiseHalted (s : State) : State :=
  appendIncident
    { s with mech := { s.mech with glass :=
        { s.mech.glass with state := .halted, waiters := [], fault := .timeout s.pins.force } } }
    .glassFault 1 s.pins.force

theorem raiseHalted_eq (s : State) :
    (let faulted := glassFault (setGlass s { s.mech.glass with state := .halted }) (.timeout s.pins.force)
     setGlass faulted { faulted.mech.glass with waiters := [] }) = raiseHalted s := by
  simp only [raiseHalted, glassFault_eq, setGlass, appendIncident_mech]
  rfl

/-- A raise timed out: the waiters hear of it, then a held press fails. -/
theorem raiseTimedOut_eq (s : State) :
    raiseTimedOut s =
      let told := if s.mech.glass.waiters = [] then raiseHalted s else turnerRaiseFailed (raiseHalted s)
      if s.mech.glass.heldPress = true then pressFailed told else told := by
  have held :
      (if s.mech.glass.waiters = [] then raiseHalted s else turnerRaiseFailed (raiseHalted s)).mech.glass.heldPress
        = s.mech.glass.heldPress := by
    split <;> simp [raiseHalted]
  have halted : raiseTimedOut s =
      let told := if s.mech.glass.waiters = [] then raiseHalted s else turnerRaiseFailed (raiseHalted s)
      if told.mech.glass.heldPress = true then pressFailed told else told := by
    rw [← raiseHalted_eq]
    rfl
  dsimp only at halted
  rw [halted, held]

/-- Settles O39: moves asked, their feedback, and the raised stop and the time-out by the glass's state. -/
theorem mechanicsMovesEnd : Obligations.MechanicsMovesEnd := by
  intro s
  refine ⟨fun side position => does_aimRetest rfl (by simp [LinkKept]), ⟨rfl, layPump_eq s⟩,
    ⟨fun targets => ?_, fun angle => ?_⟩, fun angle => does_aimRetest rfl (by simp [LinkKept]), ?_, rfl, ?_⟩
  · exact (setPlatens_eq s targets).trans rfl
  · exact (setAngleTarget_eq s angle).trans rfl
  · refine ite_prop_iff_and.mpr ⟨fun raising => ?_, fun away => by simp [exec, execRaisedStopSensor, away]⟩
    have reached : exec (.raisedStopSensor true) s
        = .next (transmit (aimRetest (glassReached { s with pins := { s.pins with raisedStop := true } }))) := by
      simp [exec, execRaisedStopSensor, raising]
    have kept : LinkKept s (glassReached { s with pins := { s.pins with raisedStop := true } }) := by
      simp [LinkKept]
    exact does_aimRetest reached kept
  · split
    · next lowering =>
      refine does_aimRetest (u := lowerTimedOut s) ?_ (by simp [LinkKept])
      simp only [exec, execGlassMoveTimeout, lowering]
    · next raising =>
      have timedOut : Does .glassMoveTimeout s (aimRetest (raiseTimedOut s)) :=
        does_aimRetest (by simp only [exec, execGlassMoveTimeout, raising]) (by simp [LinkKept])
      rw [raiseTimedOut_eq] at timedOut
      exact timedOut
    · simp only [exec, execGlassMoveTimeout]

end Sys2Proof.Machine
end

-- ==== Proofs: SET_GLASS, RAISE_GLASS and SET_ANGLE ====
section
/-! GlassAndAngleRequests: the checks of R70, R77 and R78 and the clamps to the profile's limits. -/

namespace Sys2Proof.Machine

open Sys2Proof.Config

/-- A value clamped to a limit. -/
theorem min_limit (v limit : Nat) : min v limit = if limit < v then limit else v := by
  split <;> omega

theorem flagItem_eq (p : Prop) [Decidable p] : flagItem (decide p) = u 1 (if p then 1 else 0) := by
  by_cases h : p <;> simp [flagItem, bit, h]

/-! ## SET_GLASS (R70) -/

theorem takeSetGlass_of_open {s : State} {v : Volume} (hv : openVolume? s = some v) (force : Nat) :
    takeSetGlass force s =
      let limit := v.profile.forceLimit
      let held := if limit < force then limit else force
      if 2000 < force then refuse s .badValue 1
      else
        ({ s with mech := { s.mech with glass := { s.mech.glass with requestedForce := held } } },
          taken [u 2 held, u 1 (if limit < force then 1 else 0)]) := by
  simp only [takeSetGlass, hv, min_limit, flagItem_eq, setGlass]

theorem takeSetGlass_noVolume {s : State} (hv : openVolume? s = none) (force : Nat) :
    takeSetGlass force s = refuse s .noVolume 0 := by
  simp only [takeSetGlass, hv]

/-! ## RAISE_GLASS (R77) -/

theorem askRaise_of_free {s : State} (free : s.mech.glass.claim ≠ true) (away : s.mech.glass.state ≠ .raised) :
    askRaise s = setGlass s { s.mech.glass with
      state := .raising
      keptRaise := if s.mech.glass.state = .raising then s.mech.glass.keptRaise else false } := by
  simp [askRaise_eq, raiseAsked_of_ne_raised away, free]

theorem takeRaiseGlass_eq (s : State) :
    takeRaiseGlass s =
      if s.mech.glass.claim = true then refuse s .busy 0
      else if s.mech.glass.state = .raised then (s, taken [u 1 0])
      else
        (setGlass s { s.mech.glass with
            state := .raising
            keptRaise := if s.mech.glass.state = .raising then s.mech.glass.keptRaise else false },
          taken [u 1 3]) := by
  unfold takeRaiseGlass
  split
  · rfl
  · next free =>
    split
    · next raised =>
      have stays : askRaise s = s := by rw [askRaise_eq, raiseAsked_of_raised raised]; rfl
      rw [stays, raised, GlassState.code]
    · next away => rw [askRaise_of_free free away, setGlass_glass, GlassState.code]

/-! ## SET_ANGLE (R78) -/

theorem takeSetAngle_noVolume {s : State} (hv : openVolume? s = none) (angle : Nat) :
    takeSetAngle angle s = refuse s .noVolume 0 := by
  simp only [takeSetAngle, hv]

theorem takeSetAngle_of_open {s : State} {v : Volume} (hv : openVolume? s = some v) (angle : Nat) :
    takeSetAngle angle s =
      let limit := v.profile.angleLimit
      let target := if limit < angle then limit else angle
      if angle < 80 ∨ 140 < angle then refuse s .badValue 1
      else if s.turner.state ≠ .idle ∨ s.mech.glass.state ≠ .raised then refuse s .wrongState 0
      else
        (aimRetest (mechPump { s with mech := { s.mech with angleTarget := target, anglePending := false } }),
          taken [u 1 target, u 1 (if limit < angle then 1 else 0)]) := by
  have bars : (!within 80 140 angle) = true ↔ angle < 80 ∨ 140 < angle := by
    rw [Bool.not_eq_true', within_eq_false]
  simp only [takeSetAngle, hv, bars, bne_iff_ne, min_limit, flagItem_eq]
  by_cases raised : s.mech.glass.state = .raised
  · simp only [setAngleTarget_eq, raiseAsked_of_raised raised, raised, ne_eq, not_true_eq_false, decide_false, or_false,
      if_false]
  · by_cases idle : s.turner.state = .idle <;> simp [raised, idle]

/-- Settles O37: each request's checks in the model's order, then what it does to the mechanics. -/
theorem glassAndAngleRequests : Obligations.GlassAndAngleRequests := by
  intro tag s h
  refine ⟨fun force => ?_, ?_, fun angle => ?_⟩
  · split
    · next hv => exact refuses_of_eq h rfl (takeSetGlass_noVolume (s := enqueue s 0x18 tag) hv force)
    · next v hv =>
      refine ite_refuses h rfl (takeSetGlass_of_open (s := enqueue s 0x18 tag) hv force) fun eq => ?_
      exact takes_of_eq h rfl eq ⟨rfl, rfl, rfl, rfl, rfl⟩
  · refine ite_refuses h rfl (takeRaiseGlass_eq (enqueue s 0x19 tag)) fun eq => ?_
    exact ite_prop_iff_and.mpr
      ⟨fun raised => takes_of_eq h rfl (eq.trans (if_pos raised)) (linkKept_refl _),
        fun away => takes_of_eq h rfl (eq.trans (if_neg away)) ⟨rfl, rfl, rfl, rfl, rfl⟩⟩
  · split
    · next hv => exact refuses_of_eq h rfl (takeSetAngle_noVolume (s := enqueue s 0x1A tag) hv angle)
    · next v hv =>
      refine ite_refuses h rfl (takeSetAngle_of_open (s := enqueue s 0x1A tag) hv angle) fun eq => ?_
      refine ite_refuses h rfl eq fun eq => ?_
      exact takes_of_eq h rfl eq (by simp [LinkKept])

end Sys2Proof.Machine
end

-- ==== Proofs: presses and force readings ====
section
/-! PressesAndForce: the thresholds of a lowering, the held press, and a force reading by the glass's state. -/

namespace Sys2Proof.Machine

open Sys2Proof.Config

/-! ## The thresholds of a lowering (R71) -/

theorem shownPlate_eq (marks : List Mark) (n : Nat) :
    shownPlate marks n = marks.any fun m => (m.leaf + 1 = n || m.leaf = n) && m.kinds.plate := by
  simp [shownPlate, marksShown, List.any_filter]

theorem pressForce_eq (s : State) :
    pressForce s =
      let plate :=
        match (openSlot? s.store.slots).map Prod.snd, s.tracker.n with
        | some v, some n => v.marks.any fun m => (m.leaf + 1 = n || m.leaf = n) && m.kinds.plate
        | _, _ => false
      if plate then s.mech.glass.requestedForce / 2 else s.mech.glass.requestedForce := by
  unfold pressForce openVolume?
  rcases (openSlot? s.store.slots).map Prod.snd with _ | v
  · rfl
  · rcases s.tracker.n with _ | n
    · rfl
    · exact congrArg
        (fun plate : Bool => if plate then s.mech.glass.requestedForce / 2 else s.mech.glass.requestedForce)
        (shownPlate_eq v.marks n)

theorem forceLimit_eq (s : State) :
    forceLimit s = (((openSlot? s.store.slots).map Prod.snd).map fun v => v.profile.forceLimit).getD 0 := by
  unfold forceLimit openVolume?
  cases (openSlot? s.store.slots).map Prod.snd <;> rfl

/-! ## The held press (R69, R72) -/

theorem movesDone_iff (s : State) :
    movesDone s = true ↔
      s.pins.position.left = s.mech.platens.left.setpoint ∧ s.mech.platens.left.pending = false
        ∧ s.pins.position.right = s.mech.platens.right.setpoint ∧ s.mech.platens.right.pending = false
        ∧ s.pins.angle = s.mech.angleTarget ∧ s.mech.anglePending = false := by
  simp only [movesDone, platensSettled, angleSettled, Bool.and_eq_true, platenSettled_iff, decide_eq_true_eq,
    Bool.not_eq_true', and_assoc]
  rfl

theorem glassModeNone_iff (s : State) :
    glassModeNone s = true
      ↔ ((openSlot? s.store.slots).map Prod.snd).map (fun v => v.profile.glassMode) = some .none :=
  decide_eq_true_iff

theorem heldPressStarts_iff (s : State) :
    (s.mech.glass.state = .raised && s.mech.glass.heldPress && movesDone s) = true ↔
      s.mech.glass.state = .raised ∧ s.mech.glass.heldPress = true
        ∧ s.pins.position.left = s.mech.platens.left.setpoint ∧ s.mech.platens.left.pending = false
        ∧ s.pins.position.right = s.mech.platens.right.setpoint ∧ s.mech.platens.right.pending = false
        ∧ s.pins.angle = s.mech.angleTarget ∧ s.mech.anglePending = false := by
  rw [Bool.and_eq_true, movesDone_iff, Bool.and_eq_true, decide_eq_true_eq, and_assoc]

/-! ## Force readings (R72, R74) -/

/-- An overforce: the fault and its incident with the glass RAISING, then the press lost if it was claimed. -/
theorem overforce_eq (s : State) (force : Nat) :
    overforce s force =
      let forced := appendIncident
        { s with mech := { s.mech with glass :=
          { s.mech.glass with state := .raising, keptRaise := false, fault := .overforce force } } } .glassFault 2 force
      if s.mech.glass.claim = true then pressLost forced else forced := by
  have same : (glassFault (glassRaise s) (.overforce force)).mech.glass.claim = s.mech.glass.claim := by
    simp [glassFault, glassRaise]
  simp only [overforce, same]
  rfl

theorem pressAnswered_eq (s : State) :
    pressAnswered s =
      { s with capture := { s.capture with press :=
        if s.mech.glass.claim = true ∧ s.capture.state = .arming then .pressed else s.capture.press } } := by
  simp only [pressAnswered, Bool.and_eq_true, decide_eq_true_eq]
  split <;> rfl

theorem readForce_eq (s : State) (force : Nat) (p : PressTarget) :
    readForce s force p =
      if (s.mech.glass.state = .lowering ∨ s.mech.glass.state = .pressed) ∧ p.overforceAt < force then
        overforce s force
      else if s.mech.glass.state = .lowering ∧ p.pressedAt ≤ force then
        armPump (pressAnswered (setGlass s { s.mech.glass with state := .pressed }))
      else s := by
  unfold readForce
  cases h : s.mech.glass.state
  case lowering => simp only [true_or, true_and]
  case pressed => simp only [or_true, true_and, reduceCtorEq, false_and, if_false]
  case raised | raising | halted => simp only [reduceCtorEq, or_self, false_and, if_false]

theorem forceReading_of_press {s : State} {p : PressTarget} (h : s.mech.glass.press = some p) (force : Nat) :
    Does (.glassForceReading force) s
      (aimRetest (readForce { s with pins := { s.pins with force := force } } force p)) :=
  does_aimRetest (by simp only [exec, execGlassForceReading, h]) (by simp [LinkKept])

/-- Settles O38: a lowering by its target, the held press by the moves, a force reading by the glass's state. -/
theorem pressesAndForce : Obligations.PressesAndForce := by
  refine ⟨fun s => ⟨?_, ?_⟩, fun force s => ?_⟩
  · simp only [startLowering, forceLimit_eq, pressForce_eq]
    rfl
  · exact if_congr (heldPressStarts_iff s) (if_congr (glassModeNone_iff s) rfl rfl) rfl
  · dsimp only
    split
    · next lifted => simp only [exec, execGlassForceReading, lifted]
    · next p hp =>
      have reads := forceReading_of_press hp force
      rw [readForce_eq, overforce_eq, pressAnswered_eq] at reads
      refine ite_prop_iff_and.mpr ⟨fun exceeds => ?_, fun within' => ?_⟩
      · rwa [if_pos (by exact exceeds)] at reads
      rw [if_neg (by exact within')] at reads
      refine ite_prop_iff_and.mpr ⟨fun reached => ?_, fun short => ?_⟩
      · rwa [if_pos (by exact reached)] at reads
      · rwa [if_neg (by exact short)] at reads

end Sys2Proof.Machine
end

-- ==== Proofs: stops, void orders and lost presses ====
section
/-! StopSteps: how a capture gives up its claims and enters NONE, and the eight steps of a stop. -/

namespace Sys2Proof.Machine

open Sys2Proof.Config

/-! ## The claim freed and NONE entered (R69, R73, R90, R125, R130) -/

theorem freeClaim_eq (s : State) :
    freeClaim s =
      let glass := s.mech.glass
      let rises := glass.keptRaise = true ∧ (glass.state = .lowering ∨ glass.state = .pressed)
      { s with mech := { s.mech with glass := { glass with
        claim := false, state := if rises then .raising else glass.state
        keptRaise := if rises then false else glass.keptRaise } } } := by
  simp only [freeClaim, Bool.and_eq_true, Bool.or_eq_true, decide_eq_true_eq]
  by_cases rises : s.mech.glass.keptRaise = true ∧ (s.mech.glass.state = .lowering ∨ s.mech.glass.state = .pressed)
  · simp only [if_pos rises]
    rfl
  · simp only [if_neg rises]
    rfl

theorem freeClaim_setCapture (s : State) (c : Capture) :
    freeClaim (setCapture s c) = { freeClaim s with capture := c } := by
  simp only [freeClaim_eq]
  rfl

theorem captureToNone_eq (s : State) (outcome : CaptureOutcome) :
    captureToNone s outcome =
      { freeClaim s with
        capture := { s.capture with
          state := .none, voiding := false, progress := Sides.both .notRequested, trigger := Sides.both false
          receipt := Sides.both false, press := .none, entry := none, lastOutcome := outcome, litUs := Sides.both 0 }
        lamps := { s.lamps with idleStage := .active, idleElapsed := 0, idleUs := 0 } } := by
  rw [captureToNone, freeClaim_setCapture, idleRestart, freeClaim_eq]

theorem captureHolds_iff (l : Lamps) : captureHolds l = true ↔ l.holder = .capture := by
  unfold captureHolds
  split <;> simp_all

/-- A FULL check leaves the waiting list with the capture that it was formed ahead of (R93, R101). -/
theorem withdrawLighting_eq (s : State) :
    withdrawLighting s =
      let left : State := { s with lamps := { s.lamps with
        waitingCapture := false
        waitingCheck := if s.lamps.waitingCheck.map Check.kind = some .full then none else s.lamps.waitingCheck } }
      if s.lamps.holder = .capture then releaseLighting left else left := by
  unfold withdrawLighting
  rw [if_congr (captureHolds_iff s.lamps) rfl rfl]
  cases s.lamps.waitingCheck with
  | none => rfl
  | some c => simp only [Option.map_some, Option.some.injEq, setLamps]

/-! ## The entry's results (R67, R129) -/

theorem focusLimited_or (s : State) (flag : Bool) :
    (flag || focusLimited s)
      = (flag || ((s.capture.sides.getD .both).has .left && sideClamped s .left)
          || ((s.capture.sides.getD .both).has .right && sideClamped s .right)) :=
  (Bool.or_assoc ..).symm

theorem writeResults_eq (s : State) (status : EntryStatus) :
    writeResults s status =
      onPendingEntry s fun e =>
        { e with
          frames := s.capture.frame, doses := s.capture.faceDoses, durations := s.capture.duration, status := status
          banks := banksFired s
          flags := { s.capture.flags with
            focusLimit := s.capture.flags.focusLimit
              || ((s.capture.sides.getD .both).has .left && sideClamped s .left)
              || ((s.capture.sides.getD .both).has .right && sideClamped s .right) } } := by
  simp only [writeResults, focusLimited_or]

/-! ## The steps of a stop (R145, R146) -/

theorem stopTaken_of_pause {s : State} (h : s.pause.state ≠ .running) (cause : PauseCause) : stopTaken s cause = s := by
  simp [stopTaken, h]

theorem haltGlass_eq (s : State) :
    haltGlass s = setGlass s { s.mech.glass with
      state := if s.mech.glass.state = .lowering ∨ s.mech.glass.state = .raising then .halted
        else s.mech.glass.state } := by
  unfold haltGlass
  by_cases moves : s.mech.glass.state = .lowering ∨ s.mech.glass.state = .raising
  · rw [if_pos moves]
    rcases moves with h | h <;> simp only [h]
  · rw [if_neg moves]
    split
    · next lowering => exact absurd (.inl lowering) moves
    · next raising => exact absurd (.inr raising) moves
    · rfl

/-- Steps 5 to 8: the glass halted, the capture voided, the idle timer at T_dark, HALT latched. -/
def stopEnds (s : State) (cause : PauseCause) : State :=
  latch (idleDark (voidOrder (haltGlass s))) cause.condition

theorem inMotion_of_still {t : Turner}
    (h : t.step = .glassWait ∨ t.state = .idle ∨ t.state = .manualWait ∨ t.state = .halted) : inMotion t = false := by
  rcases h with h | h | h | h <;> simp [inMotion, h]

theorem stopTaken_of_still {s : State} (running : s.pause.state = .running) (still : inMotion s.turner = false)
    (cause : PauseCause) :
    stopTaken s cause
      = stopEnds { s with pause := { s.pause with state := .paused, cause := some cause, brokenPhase := none } }
          cause := by
  simp [stopTaken, running, still, stopEnds, setPause]

theorem brokenPhaseCode_of_motion {t : Turner} (running : t.step = .running) {phase : Nat}
    (h : match t.state with
      | .reach => phase = 1
      | .lift => phase = 2
      | .separate => phase = 3
      | .restore => phase = 4
      | .carry => phase = 5
      | .lay => phase = 6
      | .ret => phase = if t.purpose = some .park then 8 else 7
      | _ => False) : inMotion t = true ∧ brokenPhaseCode t = phase := by
  cases hs : t.state
  case idle | manualWait | halted => simp only [hs] at h
  case ret =>
    rcases hp : t.purpose with _ | _ | _ | _ <;> simp_all [inMotion, brokenPhaseCode]
  case reach | lift | separate | restore | carry | lay => simp_all [inMotion, brokenPhaseCode]

theorem enterUncertain_appendIncident (s : State) (kind : IncidentKind) (detail second : Nat) (why : Condition) :
    enterUncertain (appendIncident s kind detail second) why =
      let noted := appendIncident s kind detail second
      let left := if s.tracker.state = .placed then leavePlaced noted else noted
      latch { left with tracker := { left.tracker with state := .uncertain } } why := by
  simp only [enterUncertain, appendIncident_frame]
  rfl

theorem breakPause_eq (s : State) (cause : PauseCause) (phase : Nat) :
    breakPause s cause phase =
      if openSlot? s.store.slots = none then s
      else enterUncertain (appendIncident s .pauseBroken cause.code phase) (.uncertainBroken phase) := by
  unfold breakPause openVolume?
  cases openSlot? s.store.slots <;> simp

theorem stopTaken_of_motion {s : State} (running : s.pause.state = .running) (moving : inMotion s.turner = true)
    (step : s.turner.step = .running) (cause : PauseCause) :
    stopTaken s cause =
      stopEnds
        (breakPause
          { s with
            turner := { s.turner with
              state := .halted, purpose := none, lastOutcome := .broken
              cupHeld := s.pins.hold, valveClosed := s.pins.hold }
            pause := { s.pause with
              state := .pausedBroken, cause := some cause, brokenPhase := some (brokenPhaseCode s.turner) } }
          cause (brokenPhaseCode s.turner)) cause := by
  simp [stopTaken, running, moving, stopEnds, setPause, turnerHalted_eq, ← step]

/-- Settles O52: the steps of a stop by what the turner does, and the ends of a capture by its state. -/
theorem stopSteps : Obligations.StopSteps := by
  refine ⟨fun s cause => ?_, fun s outcome => ⟨freeClaim_eq s, captureToNone_eq s outcome, ?_⟩, fun s outcome => rfl,
    fun s => ⟨rfl, rfl, rfl, writeResults_eq s⟩⟩
  · intro condition rest
    have ends (u : State) : stopEnds u cause = rest u := by
      unfold stopEnds
      rw [haltGlass_eq]
      cases cause <;> rfl
    refine ⟨(stopTaken_of_pause · cause), fun running still => ?_, fun running step phase at' => ?_⟩
    · rw [stopTaken_of_still running (inMotion_of_still still), ends]
    · obtain ⟨moving, rfl⟩ := brokenPhaseCode_of_motion step at'
      rw [stopTaken_of_motion running moving step, ends, breakPause_eq, enterUncertain_appendIncident]
  · rw [captureEndArming, withdrawLighting_eq]
    rfl

end Sys2Proof.Machine
end

-- ==== Proofs: the ends of an exposure ====
section
/-! ExposureEnds: an exposure goes on, is complete, or is voided by a camera time-out. -/

namespace Sys2Proof.Machine

open Sys2Proof.Config

/-! ## The sides of a capture that the arbiter serves -/

@[simp] theorem captureToNone_sides (s : State) (outcome : CaptureOutcome) :
    (captureToNone s outcome).capture.sides = s.capture.sides := by
  rw [captureToNone_eq]

@[simp] theorem grantCapture_sides (s : State) : (grantCapture s).capture.sides = s.capture.sides := by
  unfold grantCapture
  dsimp only
  split
  · simp
  · split <;> simp

@[simp] theorem grantNext_sides (s : State) : (grantNext s).capture.sides = s.capture.sides := by
  unfold grantNext
  dsimp only
  (repeat' split) <;> simp

@[simp] theorem serveCounter_sides (s : State) : (serveCounter s).capture.sides = s.capture.sides := by
  unfold serveCounter
  dsimp only
  (repeat' split) <;> simp [releaseLighting, deferCheck]

/-! ## The reference counter served (R99, R100) -/

theorem oneBank_get (b x : Bank) : (oneBank b).get x = decide (x = b) := by
  cases b <;> cases x <;> rfl

theorem serveCounter_eq {s : State} {l : Lamps} (h : s.lamps = l) :
    serveCounter s =
      let counter := min (l.counter + 1) l.interval
      let counted : State := { s with lamps := { l with counter := counter } }
      let due :=
        if l.fullCheck = true then newCheck .full (Banks.all true)
        else newCheck .periodic (if l.rotation then oneBank l.pointer else Banks.all true)
      if (counter < l.interval ∧ l.fullCheck = false) ∨ l.waitingCheck.isSome = true then releaseLighting counted
      else
        match predictCheck counted due (boundNow counted) (Sides.both 0) with
        | some _ =>
          releaseLighting { counted with lamps := { counted.lamps with deferrals := min (l.deferrals + 1) 65535 } }
        | none =>
          { counted with lamps := { counted.lamps with holder := .check { due with bound := boundNow counted } } } := by
  subst h
  refine if_congr ?_ rfl rfl
  simp only [Bool.or_eq_true, Bool.and_eq_true, decide_eq_true_eq, Bool.not_eq_true']

/-! ## How an exposure ends (R128, R129) -/

theorem closeSettle_of_none {s : State} (h : s.dose.captureSettle = none) : closeSettle s = s := by
  simp only [closeSettle, h]

theorem exposureDone_iff {c : Capture} {sides : CaptureSides} (exposing : c.state = .exposing)
    (hsides : c.sides = some sides) :
    exposureDone c = true ↔ c.voiding = false ∧ ∀ side, sides.has side = true → c.progress.get side = .done := by
  have both : (∀ side, sides.has side = true → c.progress.get side = .done)
      ↔ (sides.has .left = true → c.progress.left = .done) ∧ (sides.has .right = true → c.progress.right = .done) :=
    ⟨fun h => ⟨h .left, h .right⟩, fun h side => match side with | .left => h.1 | .right => h.2⟩
  simp only [both, exposureDone, exposing, hsides, Option.getD_some, decide_true, Bool.true_and, Bool.and_eq_true,
    Bool.or_eq_true, Bool.not_eq_true', decide_eq_true_eq, ← Bool.not_eq_true, ← imp_iff_not_or, and_assoc]

theorem exposurePump_of_not_exposing {s : State} (h : s.capture.state ≠ .exposing) : exposurePump s = s := by
  simp [exposurePump, exposureDone, h]

theorem exposurePump_of_done {s : State} (h : exposureDone s.capture = true) : exposurePump s = exposureComplete s :=
  if_pos h

theorem exposurePump_of_going {s : State} (going : s.capture.voiding = false) (h : ¬ exposureDone s.capture = true) :
    exposurePump s = s := by
  simp [exposurePump, h, going]

theorem exposurePump_of_voiding {s : State} (exposing : s.capture.state = .exposing)
    (voiding : s.capture.voiding = true) :
    exposurePump s =
      if s.capture.progress.left ≠ .lit ∧ s.capture.progress.right ≠ .lit then finishVoid (closeSettle s) .voidTimeout
      else s := by
  simp [exposurePump, exposureDone, exposing, voiding, noneLit]

theorem receiptsDone_iff_sides {c : Capture} {sides : CaptureSides} (h : c.sides = some sides) :
    receiptsDone c = true ↔
      (sides.has .left = true → c.receipt.left = true) ∧ (sides.has .right = true → c.receipt.right = true) := by
  simp only [receiptsDone, h, Option.getD_some, Bool.and_eq_true, Bool.or_eq_true, Bool.not_eq_true',
    ← Bool.not_eq_true, ← imp_iff_not_or]

/-! ## A camera time-out (R128) -/

theorem latch_capture (s : State) (c : Capture) (k : Condition) :
    latch { s with capture := c } k = { latch s k with capture := c } := by
  unfold latch
  dsimp only
  split <;> rfl

theorem cameraTimerRuns_iff (c : Capture) (side : Side) :
    cameraTimerRuns c side = true ↔
      c.state = .exposing ∧ c.voiding = false
        ∧ (c.progress.get side = .triggered ∧ c.trigger.get side = true ∨ c.progress.get side = .delay
          ∨ c.progress.get side = .lit ∨ c.progress.get side = .awaitFall) := by
  unfold cameraTimerRuns
  cases c.progress.get side <;> simp [and_assoc]

/-- A time-out that expires: the capture voiding with its triggers withdrawn, and a lit strobe of the side cut. -/
theorem cameraExpires_eq (s : State) (side : Side) :
    cameraExpires s side =
      let marked : State :=
        { latch s (.captureTimeout side) with capture :=
          { s.capture with voiding := true, lastOutcome := .voidTimeout, trigger := Sides.both false } }
      let actual := max 1 (min (s.capture.litUs.get side) (s.lamps.duration.get side))
      exposurePump (closeSettle
        (if s.capture.progress.get side = .lit then endStrobe marked side actual .awaitFall else marked)) := by
  simp only [cameraExpires, markVoiding, setCapture, latch_capture, cutStrobe, cutDuration, latch_frame]

/-- Settles O48: what the exposure pump does by the sides' progress, and a time-out by the side's. -/
theorem exposureEnds : Obligations.ExposureEnds := by
  refine ⟨fun s b x => ⟨rfl, oneBank_get b x⟩, fun s sides exposing hsides settled => ?_,
    fun s => ⟨exposurePump_of_not_exposing, fun sides side going hsides asked waits => ?_,
      fun side voiding lit => ?_⟩, fun s side => ?_⟩
  · intro c fired clamped wrote
    have writes (status : EntryStatus) : writeResults s status = wrote status := by
      rw [writeResults_eq, hsides]
      rfl
    refine ⟨fun going done => ?_, fun voiding left right => ?_⟩
    · intro counter counted due served freed waiting
      have hserved : serveCounter (writeResults s .pending) = served := by
        have eq := serveCounter_eq (s := writeResults s .pending) (l := s.lamps) (by simp)
        rw [writes] at eq ⊢
        exact eq
      have hfreed : freed.capture.sides = some sides := by
        simp only [freed, ← hserved]
        simp [hsides]
      rw [exposurePump_of_done ((exposureDone_iff exposing hsides).mpr ⟨going, done⟩), exposureComplete,
        closeSettle_of_none settled, hserved]
      exact congrArg idleRestart (if_congr (receiptsDone_iff_sides hfreed) rfl rfl)
    · rw [exposurePump_of_voiding exposing voiding, if_pos ⟨left, right⟩, closeSettle_of_none settled, finishVoid,
        writes]
  · by_cases exposing : s.capture.state = .exposing
    · refine exposurePump_of_going going fun done => ?_
      obtain ⟨-, all⟩ := (exposureDone_iff exposing hsides).mp done
      exact waits (all side asked)
    · exact exposurePump_of_not_exposing exposing
  · by_cases exposing : s.capture.state = .exposing
    · rw [exposurePump_of_voiding exposing voiding, if_neg]
      cases side
      · exact fun dark => dark.1 lit
      · exact fun dark => dark.2 lit
    · exact exposurePump_of_not_exposing exposing
  · dsimp only
    split
    · next runs =>
      have expires : Does (.cameraTimeout side) s (aimRetest (cameraExpires s side)) :=
        does_aimRetest (by simp only [exec, execCameraTimeout, if_pos ((cameraTimerRuns_iff _ _).mpr runs)])
          (by simp [LinkKept])
      rwa [cameraExpires_eq] at expires
    · next stands =>
      simp only [exec, execCameraTimeout, if_neg (mt (cameraTimerRuns_iff _ _).mp stands)]

end Sys2Proof.Machine
end

-- ==== Proofs: CAPTURE ====
section
/-! CaptureTaken: the checks of R122 on the bytes of the request, its prediction, and what a taken CAPTURE sets
going. -/

namespace Sys2Proof.Machine

open Sys2Proof.Config

/-! ## Takes and marks (R10, R122, R123) -/

theorem takesAt_eq (log : List Entry) (n : Nat) :
    takesAt log n = log.countP fun e =>
      match e.body with
      | .capture _ => decide (e.opening = n)
      | .incident _ _ _ => false :=
  List.countP_eq_length_filter.symm

theorem shownHold_eq (marks : List Mark) (n : Nat) :
    shownHold marks n = marks.any fun m => (m.leaf + 1 = n || m.leaf = n) && m.kinds.hold := by
  simp [shownHold, marksShown, List.any_filter]

/-! ## The sides of a request -/

theorem captureSidesOf?_eq {code : Nat} (h : ¬ (code = 0 ∨ 3 < code)) :
    captureSidesOf? code = some (if code = 1 then .both else if code = 2 then .left else .right) := by
  obtain rfl | rfl | rfl : code = 1 ∨ code = 2 ∨ code = 3 := by omega
  all_goals rfl

theorem captureSidesOf?_eq_none {code : Nat} (h : code = 0 ∨ 3 < code) : captureSidesOf? code = none := by
  unfold captureSidesOf?
  split <;> simp_all

/-- A request of the sides `sides`: its code, and the sides that are in it. -/
theorem captureSidesOf?_spec {code : Nat} {sides : CaptureSides} (h : captureSidesOf? code = some sides) :
    sides.code = code ∧ (sides.has .left = true ↔ code ≠ 3) ∧ (sides.has .right = true ↔ code ≠ 2) := by
  unfold captureSidesOf? at h
  split at h
  · cases h; decide
  · cases h; decide
  · cases h; decide
  · cases h

/-! ## The checks (R86, R122) -/

/-- The refusal that a side's status gives. -/
def refusedWith (status : SideStatus) : Option (Reason × Nat) := status.reason?.map fun r => (r, 1)

theorem unusable_refuses (asked : Bool) (status : SideStatus) (rest : Option (Reason × Nat)) :
    (if (asked && !status.isUsable) = true then refusedWith status else rest) =
      if asked = true ∧ status = .noLight then some (.noLight, 1)
      else if asked = true ∧ status = .notCalibrated then some (.notCalibrated, 1)
      else rest := by
  cases asked
  · simp
  · cases status <;> rfl

/-- Check 8 of R122: the first requested side that is not USABLE names the reason. -/
def lightRefusal? (l : Lamps) (sides : CaptureSides) : Option (Reason × Nat) :=
  (unusableSide? l sides).bind refusedWith

theorem lightRefusal?_eq (l : Lamps) (sides : CaptureSides) :
    lightRefusal? l sides =
      if sides.has .left = true ∧ sideStatus l .left = .noLight then some (.noLight, 1)
      else if sides.has .left = true ∧ sideStatus l .left = .notCalibrated then some (.notCalibrated, 1)
      else if sides.has .right = true ∧ sideStatus l .right = .noLight then some (.noLight, 1)
      else if sides.has .right = true ∧ sideStatus l .right = .notCalibrated then some (.notCalibrated, 1)
      else none := by
  have first := apply_ite (fun status : Option SideStatus => status.bind refusedWith)
  simp only [lightRefusal?, unusableSide?, first, Option.bind_some, Option.bind_none, unusable_refuses]

theorem turnerBars_iff (t : Turner) :
    turnerBars t = true ↔
      (t.state ≠ .idle ∧ t.state ≠ .halted) ∨ (t.state = .halted ∧ t.parkWaiting = true) := by
  simp [turnerBars]

/-- Checks 1 to 8 of R122 in their order, with a volume OPEN. -/
theorem captureRefusal?_of_open {s : State} {v : Volume} {code : Nat} {sides : CaptureSides}
    (hv : openVolume? s = some v) (hsides : captureSidesOf? code = some sides) :
    captureRefusal? s code =
      if s.tracker.state = .uncertain then some (.uncertain, 0)
      else if s.tracker.state ≠ .placed then some (.wrongState, 0)
      else if (s.turner.state ≠ .idle ∧ s.turner.state ≠ .halted)
          ∨ (s.turner.state = .halted ∧ s.turner.parkWaiting = true) then some (.busy, 0)
      else if s.capture.state ≠ .none ∧ s.capture.state ≠ .released then some (.busy, 0)
      else if s.pause.state = .pausedBroken then some (.uncertain, 0)
      else if s.pause.hoodOpen = true then some (.hoodOpen, 0)
      else if code ≠ 3 ∧ sideStatus s.lamps .left = .noLight then some (.noLight, 1)
      else if code ≠ 3 ∧ sideStatus s.lamps .left = .notCalibrated then some (.notCalibrated, 1)
      else if code ≠ 2 ∧ sideStatus s.lamps .right = .noLight then some (.noLight, 1)
      else if code ≠ 2 ∧ sideStatus s.lamps .right = .notCalibrated then some (.notCalibrated, 1)
      else none := by
  obtain ⟨-, left, right⟩ := captureSidesOf?_spec hsides
  have light := lightRefusal?_eq s.lamps sides
  simp only [left, right] at light
  rw [← light]
  simp only [captureRefusal?, hsides, hv, Option.isNone_some, Bool.false_eq_true, if_false, bne_iff_ne, turnerBars_iff,
    captureStands_iff]
  unfold lightRefusal?
  cases unusableSide? s.lamps sides <;> rfl

theorem captureRefusal?_badCode {s : State} {code : Nat} (h : captureSidesOf? code = none) :
    captureRefusal? s code = some (.badValue, 1) := by
  simp only [captureRefusal?, h]

theorem captureRefusal?_noVolume {s : State} {code : Nat} {sides : CaptureSides}
    (hsides : captureSidesOf? code = some sides) (hv : openVolume? s = none) :
    captureRefusal? s code = some (.noVolume, 0) := by
  simp [captureRefusal?, hsides, hv]

/-! ## The request refused, deferred or taken (R109, R122, R123, R147) -/

/-- Every CAPTURE restarts the idle timer, one that is refused too. -/
theorem captureArrives_of_refused {s : State} {code : Nat} {reason : Reason} {field : Nat}
    (h : captureRefusal? s code = some (reason, field)) (manual : Bool) :
    captureArrives code manual s = (idleRestart s, .refused reason field) := by
  have h' : captureRefusal? (idleRestart s) code = some (reason, field) := h
  simp only [captureArrives, h', refuse]

/-- What becomes of a CAPTURE that passes checks 1 to 8, given how its prediction comes out. -/
def answerCapture (s : State) (v : Volume) (n code : Nat) (sides : CaptureSides) (manual : Bool) :
    Option Nat → State × Answer
  | some named => (doseRefused s named, .refused (doseReason named) 1)
  | none =>
    if storeBars s v n then refuse s .storeFull 0
    else if s.pause.state = .paused then deferRequest s (.capture code)
    else startCapture s v n sides manual

theorem captureArrives_of_passes {s : State} {code : Nat} {v : Volume} {n : Nat} {sides : CaptureSides}
    (passes : captureRefusal? s code = none) (hv : openVolume? s = some v) (hn : s.tracker.n = some n)
    (hsides : captureSidesOf? code = some sides) (manual : Bool) :
    captureArrives code manual s
      = answerCapture (idleRestart s) v n code sides manual
          (predict v (facesOf n) (captureDose s.lamps (firingBanks s.lamps sides) sides)) := by
  have passes' : captureRefusal? (idleRestart s) code = none := passes
  have hv' : openVolume? (idleRestart s) = some v := hv
  have hn' : (idleRestart s).tracker.n = some n := hn
  simp only [captureArrives, passes', hv', hn', hsides]
  rfl

theorem storeBars_iff (s : State) (v : Volume) (n : Nat) :
    storeBars s v n = true ↔ freeEntries s ≤ 8 ∨ 255 ≤ takesAt v.log n := by
  simp only [storeBars, Bool.or_eq_true, decide_eq_true_eq]
  rfl

/-- Checks 10 and 11 of R122, then the deferral of R147. -/
theorem answerCapture_of_fits (s : State) (v : Volume) (n code : Nat) (sides : CaptureSides) (manual : Bool) :
    answerCapture s v n code sides manual none =
      if freeEntries s ≤ 8 ∨ 255 ≤ takesAt v.log n then (s, .refused .storeFull 0)
      else if s.pause.state = .paused then
        if s.pause.deferred.isSome = true then (s, .refused .busy 0)
        else ({ s with pause := { s.pause with deferred := some (.capture code) } }, .own .deferred 4 [])
      else startCapture s v n sides manual :=
  if_congr (storeBars_iff s v n) rfl rfl

/-- The record of a taken CAPTURE, by the request's sides byte (R123). -/
theorem captureRecord_eq {code : Nat} {sides : CaptureSides} (h : captureSidesOf? code = some sides) (s : State)
    (v : Volume) (n : Nat) :
    captureRecord s v n sides false =
      let hold := v.marks.any fun m => (m.leaf + 1 = n || m.leaf = n) && m.kinds.hold
      { Capture.restarted s.capture.releaseMode with
        state := .arming, sides := some sides, opening := some n, take := some (takesAt v.log n + 1)
        hold := some hold, release := some (if hold then .onAccept else s.capture.releaseMode), manual := some false
        progress :=
          { left := if code = 3 then .notRequested else .triggered
            right := if code = 2 then .notRequested else .triggered }
        counter := s.capture.counter, timeout := s.capture.timeout
        strobeDelay := s.capture.strobeDelay, pedalCapture := s.capture.pedalCapture
        admitted := captureDose s.lamps (firingBanks s.lamps sides) sides } := by
  obtain ⟨-, left, right⟩ := captureSidesOf?_spec h
  simp only [captureRecord, shownHold_eq, left, right, ne_eq, ite_not]
  rfl

theorem captureItems_captureRecord {code : Nat} {sides : CaptureSides} (h : captureSidesOf? code = some sides)
    (s : State) (v : Volume) (n : Nat) :
    captureItems (captureRecord s v n sides false) =
      let hold := v.marks.any fun m => (m.leaf + 1 = n || m.leaf = n) && m.kinds.hold
      let release : ReleaseMode := if hold then .onAccept else s.capture.releaseMode
      [u 1 code, u 2 n, u 1 (takesAt v.log n + 1), u 1 (if hold then 0 else 1), u 1 release.code] := by
  obtain ⟨hcode, -, -⟩ := captureSidesOf?_spec h
  simp only [captureItems, captureRecord, shownHold_eq, Option.map_some, Option.getD_some, hcode, listedItem,
    firstCode_eq]

theorem takeCapture_of_arrives {s t : State} {code : Nat} {a : Answer} (h : captureArrives code false s = (t, a)) :
    takeCapture code s = (aimRetest t, a) := by
  simp only [takeCapture, h]

/-- A request after which the aiming light is tested again. -/
theorem takes_aimRetest {i : Instr} {s : State} {kind tag : Nat} {take : State → State × Answer} {f : State → State}
    {a : Answer} (h : Ready s) (hi : exec i s = .next (arrive s kind tag take))
    (he : take (enqueue s kind tag) = (aimRetest (f (enqueue s kind tag)), a))
    (hl : LinkKept (enqueue s kind tag) (f (enqueue s kind tag))) :
    Takes i s kind tag (fun s => aimRetest (f s)) a := by
  obtain ⟨framer, queue, replies, resetting, rate⟩ := hl
  exact takes_of_eq h hi he (by simp [LinkKept, framer, queue, replies, resetting, rate])

/-! ## The supply, the press and the claim (R69, R72, R80, R83, R93, R124) -/

theorem supplyOn_eq (s : State) :
    supplyOn s =
      let on (supply : Supply) : State :=
        { s with lamps := { s.lamps with
          supply := supply, settleRun := s.lamps.settle, settleUs := 0, reservoirUs := 0
          counter := s.lamps.interval, fullCheck := true } }
      if s.lamps.supply = .off then
        if s.lamps.settle = 0 then latch (on .ready) .lampSettled else on .settling
      else s := by
  unfold supplyOn
  cases s.lamps.supply <;> rfl

theorem movePending_iff (s : State) :
    movePending s = true ↔
      s.mech.platens.left.pending = true ∨ s.mech.platens.right.pending = true ∨ s.mech.anglePending = true := by
  simp only [movePending, Bool.or_eq_true, or_assoc]

theorem checkActive_eq_false (l : Lamps) :
    (l.fullCheck && !checkActive l) = true
      ↔ l.fullCheck = true ∧ l.waitingCheck = none ∧ checkHolds l = false := by
  simp [checkActive]

theorem hasClaimed_eq_false (s : State) :
    (!hasClaimed s) = true ↔ s.lamps.waitingCapture = false ∧ s.lamps.holder ≠ .capture := by
  simp [hasClaimed, ← captureHolds_iff]

theorem gateOpen_iff (s : State) :
    gateOpen s = true ↔
      movesDone s = true ∧ s.mech.glass.state ≠ .lowering ∧ s.mech.glass.state ≠ .raising := by
  simp only [gateOpen, Bool.and_eq_true, bne_iff_ne]

/-- The moves that a press and a claim wait for: each platen's, then the angle's. -/
theorem movesDone_iff_rests (s : State) :
    movesDone s = true ↔
      (s.pins.position.left = s.mech.platens.left.setpoint ∧ s.mech.platens.left.pending = false)
        ∧ (s.pins.position.right = s.mech.platens.right.setpoint ∧ s.mech.platens.right.pending = false)
        ∧ s.pins.angle = s.mech.angleTarget ∧ s.mech.anglePending = false := by
  simp only [movesDone_iff, and_assoc]

theorem armPump_iff (s : State) :
    (s.capture.state = .arming && s.capture.press != .none && gateOpen s && !hasClaimed s) = true ↔
      s.capture.state = .arming ∧ s.capture.press ≠ .none
        ∧ (s.pins.position.left = s.mech.platens.left.setpoint ∧ s.mech.platens.left.pending = false)
        ∧ (s.pins.position.right = s.mech.platens.right.setpoint ∧ s.mech.platens.right.pending = false)
        ∧ s.pins.angle = s.mech.angleTarget ∧ s.mech.anglePending = false
        ∧ s.mech.glass.state ≠ .lowering ∧ s.mech.glass.state ≠ .raising
        ∧ s.lamps.waitingCapture = false ∧ s.lamps.holder ≠ .capture := by
  simp only [Bool.and_eq_true, decide_eq_true_eq, bne_iff_ne, gateOpen_iff, hasClaimed_eq_false, movesDone_iff_rests,
    and_assoc]

theorem claimLighting_eq (s : State) :
    claimLighting s = { s with lamps := { s.lamps with
      waitingCapture := true
      waitingCheck :=
        if s.lamps.fullCheck = true ∧ s.lamps.waitingCheck = none ∧ checkHolds s.lamps = false then
          some (newCheck .full allBanks)
        else s.lamps.waitingCheck } } := by
  simp only [claimLighting, checkActive_eq_false, setLamps]

theorem pressAnswered_of_claim {s : State} (h : s.mech.glass.claim = true) :
    pressAnswered s = { s with capture := { s.capture with
      press := if s.capture.state = .arming then .pressed else s.capture.press } } := by
  simp only [pressAnswered_eq, h, true_and]

/-- The press of a capture in glass mode PRESS, by the glass's state (R69, R72). -/
theorem pressRequest_of_press {s : State} {v : Volume} (hv : openVolume? s = some v)
    (press : v.profile.glassMode = .press) :
    let claimed := setGlass s { s.mech.glass with claim := true }
    let held := setGlass s { s.mech.glass with claim := true, heldPress := true }
    (s.mech.glass.state = .raised → pressRequest s = if movesDone s = true then startLowering claimed else held)
      ∧ (s.mech.glass.state = .raising → pressRequest s = held)
      ∧ (s.mech.glass.state = .lowering → pressRequest s = claimed)
      ∧ (s.mech.glass.state = .pressed → pressRequest s = pressAnswered claimed)
      ∧ (s.mech.glass.state = .halted →
          pressRequest s = if movePending s = true then glassRaise held else startLowering claimed) := by
  unfold pressRequest
  rw [hv, Option.map_some, press]
  exact ⟨fun h => by rw [h]; rfl, fun h => by rw [h]; rfl, fun h => by rw [h], fun h => by rw [h],
    fun h => by rw [h]; rfl⟩

theorem pressRequest_of_none {s : State} {v : Volume} (hv : openVolume? s = some v)
    (noGlass : v.profile.glassMode = .none) :
    pressRequest s = { s with capture := { s.capture with
      press := .noGlass, flags := { s.capture.flags with noGlass := true } } } := by
  simp only [pressRequest, hv, Option.map_some, noGlass, setCapture]

/-- Settles O45: the checks in the model's order, the record, and the requests that a taken CAPTURE makes. -/
theorem captureTaken : Obligations.CaptureTaken := by
  refine ⟨takesAt_eq, fun tag code s h => ?_, supplyOn_eq, fun s slot v hopen => ?_, fun s => ?_⟩
  · intro tells no
    have takes {f : State → State} {a : Answer}
        (e : captureArrives code false (enqueue s 0x30 tag) = (f (enqueue s 0x30 tag), a))
        (kept : LinkKept (enqueue s 0x30 tag) (f (enqueue s 0x30 tag))) :
        Takes (.capture tag code) s 0x30 tag (fun s => aimRetest (f s)) a :=
      takes_aimRetest h rfl (takeCapture_of_arrives e) kept
    have refused {reason : Reason} {field : Nat}
        (e : captureRefusal? (enqueue s 0x30 tag) code = some (reason, field)) : no reason field :=
      takes (captureArrives_of_refused e false) (by simp [LinkKept])
    refine ite_prop_iff_and.mpr ⟨fun bad => refused (captureRefusal?_badCode (captureSidesOf?_eq_none bad)),
      fun good => ?_⟩
    have hsides := captureSidesOf?_eq good
    intro sides
    split
    · next hopen => exact refused (captureRefusal?_noVolume hsides (openVolume?_none hopen))
    next slot v hopen =>
    have hv : openVolume? (enqueue s 0x30 tag) = some v := openVolume?_eq hopen
    have eq := captureRefusal?_of_open hv hsides
    iterate 10
      refine ite_prop_iff_and.mpr ⟨fun bad => refused (eq.trans (if_pos bad)), fun ok => ?_⟩
      replace eq := eq.trans (if_neg ok)
    intro n hn dose
    have answered := captureArrives_of_passes eq hv hn hsides false
    split
    · next named fails =>
      have hp : predict v (facesOf n) (captureDose (enqueue s 0x30 tag).lamps
        (firingBanks (enqueue s 0x30 tag).lamps sides) sides) = some named := fails
      rw [hp] at answered
      exact takes answered (by simp [LinkKept])
    · next fits =>
      have hp : predict v (facesOf n) (captureDose (enqueue s 0x30 tag).lamps
        (firingBanks (enqueue s 0x30 tag).lamps sides) sides) = none := fits
      rw [hp, answerCapture_of_fits] at answered
      refine ite_prop_iff_and.mpr ⟨fun full => takes (answered.trans (if_pos full)) (by simp [LinkKept]),
        fun room => ?_⟩
      replace answered := answered.trans (if_neg room)
      refine ite_prop_iff_and.mpr ⟨fun paused => ?_, fun running => ?_⟩
      · replace answered := answered.trans (if_pos paused)
        exact ite_prop_iff_and.mpr ⟨fun held => takes (answered.trans (if_pos held)) (by simp [LinkKept]),
          fun free => takes (answered.trans (if_neg free)) (by simp [LinkKept])⟩
      · replace answered := answered.trans (if_neg running)
        rw [startCapture, captureItems_captureRecord hsides, captureRecord_eq hsides] at answered
        exact takes answered (by simp [LinkKept])
  · intro platenRests rests waits claimed held
    have hrests : movesDone s = true ↔ rests := movesDone_iff_rests s
    have hv := openVolume?_eq hopen
    by_cases noGlass : v.profile.glassMode = .none
    · rw [if_pos noGlass]
      exact pressRequest_of_none hv noGlass
    · have press : v.profile.glassMode = .press := by
        cases mode : v.profile.glassMode
        · rfl
        · exact absurd mode noGlass
      obtain ⟨raised, raising, lowering, pressed, halted⟩ := pressRequest_of_press hv press
      rw [if_neg noGlass]
      split
      · next h => exact (raised h).trans (if_congr hrests rfl rfl)
      · next h => exact raising h
      · next h => exact lowering h
      · next h => exact (pressed h).trans (pressAnswered_of_claim rfl)
      · next h => exact (halted h).trans (if_congr (movePending_iff s) rfl rfl)
  · intro platenRests
    exact if_congr (armPump_iff s) (claimLighting_eq s) rfl

end Sys2Proof.Machine
end

-- ==== Proofs: SET_LIGHTING, SET_AIMING and SET_IDLE ====
section
/-! LightingSettings: each request's fields judged from the lowest on, then its settings replaced; the status of a side
case by case. -/

namespace Sys2Proof.Machine

open Sys2Proof.Config

/-! ## The requests (R87, R89, R91) -/

theorem lightingBusy_iff (s : State) :
    lightingBusy s = true ↔
      s.lamps.holder ≠ .free ∨ s.lamps.waitingCapture = true ∨ s.lamps.waitingCheck.isSome = true
        ∨ s.capture.state = .arming ∨ s.capture.state = .exposing := by
  simp only [lightingBusy, Bool.or_eq_true, bne_iff_ne, captureRuns_iff, or_assoc]

theorem takeSetLighting_eq (la lb ra rb tl tr spill : Nat) (s : State) :
    takeSetLighting { la := la, lb := lb, ra := ra, rb := rb } { left := tl, right := tr } spill s =
      if 1000 < la then refuse s .badValue 1
      else if 1000 < lb then refuse s .badValue 2
      else if 1000 < ra then refuse s .badValue 3
      else if 1000 < rb then refuse s .badValue 4
      else if tl < 100 ∨ 20000 < tl then refuse s .badValue 5
      else if tr < 100 ∨ 20000 < tr then refuse s .badValue 6
      else if 250 < spill then refuse s .badValue 7
      else if s.lamps.holder ≠ .free ∨ s.lamps.waitingCapture = true ∨ s.lamps.waitingCheck.isSome = true
          ∨ s.capture.state = .arming ∨ s.capture.state = .exposing then refuse s .busy 0
      else
        let lamps : Lamps :=
          { s.lamps with
            drive := { la := la, lb := lb, ra := ra, rb := rb }
            duration := { left := tl, right := tr }, spill := spill }
        (if spill = s.lamps.spill then { s with lamps := lamps }
          else aimRetest { s with lamps := lamps, dose := { s.dose with aiming := none } },
          taken [u 2 la, u 2 lb, u 2 ra, u 2 rb, u 2 tl, u 2 tr, u 2 spill,
            u 1 (sideStatus lamps .left).code, u 1 (sideStatus lamps .right).code]) := by
  unfold takeSetLighting
  iterate 4 refine (firstBad_cons ..).trans (if_congr within_zero_eq_false rfl ?_)
  iterate 2 refine (firstBad_cons ..).trans (if_congr within_eq_false rfl ?_)
  refine (firstBad_cons ..).trans (if_congr within_zero_eq_false rfl ?_)
  exact if_congr (lightingBusy_iff s) rfl rfl

/-- The aiming levels set, the cut flag cleared and the idle timer restarted (R89). -/
def aimingSet (level rest : Nat) (s : State) : State :=
  { s with lamps := { s.lamps with
    aimingLevel := level, restLevel := rest, aimingCut := false, idleStage := .active, idleElapsed := 0, idleUs := 0 } }

/-- The interval that starts when the aiming light is about to light: one whose prediction passes (R116, R117). -/
def intervalStarted (s : State) : Option AimInterval :=
  match openVolume? s, s.tracker.n with
  | some v, some n =>
    let lux := aimFaces s.lamps (stageLevel s.lamps)
    if predict v (facesOf n) (aimDose lux) = none then
      some { elapsedUs := 0, level := stageLevel s.lamps, lux := lux }
    else none
  | _, _ => none

theorem aimStart_aiming (s : State) : (aimStart s).dose.aiming = intervalStarted s := by
  rcases hv : openVolume? s with _ | v
  · simp only [aimStart, intervalStarted, hv, aimDark_aiming]
  rcases hn : s.tracker.n with _ | n
  · simp only [aimStart, intervalStarted, hv, hn, aimDark_aiming]
  rcases hp : predict v (facesOf n) (aimDose (aimFaces s.lamps (stageLevel s.lamps))) with _ | named
  · simp [aimStart, intervalStarted, hv, hn, hp]
  · simp [aimStart, intervalStarted, hv, hn, hp, aimCut]

/-- The interval that runs once the aiming light has been tested: the one that ran at this level, or a new one. -/
def intervalTested (s : State) : Option AimInterval :=
  if aimWanted s then
    match s.dose.aiming with
    | some iv => if iv.level = stageLevel s.lamps then some iv else intervalStarted s
    | none => intervalStarted s
  else none

theorem aimRetest_aiming (s : State) : (aimRetest s).dose.aiming = intervalTested s := by
  unfold aimRetest intervalTested
  split
  · rcases running : s.dose.aiming with _ | iv
    · exact aimStart_aiming s
    · dsimp only
      split
      · exact running
      · exact aimStart_aiming s
  · rfl

theorem takeSetAiming_eq (level rest : Nat) (s : State) :
    takeSetAiming level rest s =
      if 100 < level then refuse s .badValue 1
      else if level < rest then refuse s .badValue 2
      else
        (aimRetest (aimingSet level rest s),
          taken [u 1 level, u 1 rest, u 1 (bit (aimRetest (aimingSet level rest s)).dose.aiming.isSome)]) := rfl

/-- A field that is at least a field that is at least 1. -/
theorem within_above_eq_false {low v : Nat} (h : 1 ≤ low) :
    (within 1 3600 v && decide (low ≤ v)) = false ↔ v < low ∨ 3600 < v := by
  simp only [Bool.and_eq_false_iff, within_eq_false, decide_eq_false_iff_not]
  omega

theorem takeSetIdle_eq (rest dark supply settle : Nat) (s : State) :
    takeSetIdle rest dark supply settle s =
      if rest < 1 ∨ 3600 < rest then refuse s .badValue 1
      else if dark < rest ∨ 3600 < dark then refuse s .badValue 2
      else if supply < dark ∨ 3600 < supply then refuse s .badValue 3
      else if 10000 < settle then refuse s .badValue 4
      else
        (aimRetest { s with lamps := { s.lamps with
            tRest := rest, tDark := dark, tSupply := supply, settle := settle
            idleStage := .active, idleElapsed := 0, idleUs := 0 } },
          taken [u 2 rest, u 2 dark, u 2 supply, u 2 settle]) := by
  unfold takeSetIdle
  refine (firstBad_cons ..).trans (if_ctx_congr within_eq_false (fun _ => rfl) fun hr => ?_)
  refine (firstBad_cons ..).trans
    (if_ctx_congr (within_above_eq_false (low := rest) (by omega)) (fun _ => rfl) fun hd => ?_)
  refine (firstBad_cons ..).trans (if_congr (within_above_eq_false (low := dark) (by omega)) rfl ?_)
  exact (firstBad_cons ..).trans (if_congr within_zero_eq_false rfl rfl)

/-! ## The status of a side (R86) -/

theorem sideStatus_eq (l : Lamps) (side : Side) (a b : Bank)
    (hs : (a, b) = match side with | .left => (Bank.la, Bank.lb) | .right => (Bank.ra, Bank.rb)) :
    sideStatus l side = statusOf (l.health.get a) (l.health.get b) (l.drive.get a) (l.drive.get b) := by
  cases side <;> cases hs <;> rfl

theorem statusOf_eq (ha hb : Health) (da db : Nat) :
    statusOf ha hb da db =
      if (ha ≠ .good ∧ hb ≠ .good) ∨ (da = 0 ∧ db = 0) then .noLight
      else if ha = .uncalibrated ∨ hb = .uncalibrated then .notCalibrated
      else if ha = .failed then (if db = 0 then .noLight else .usable true)
      else if hb = .failed then (if da = 0 then .noLight else .usable true)
      else .usable false := by
  unfold statusOf
  by_cases dark : da = 0 ∧ db = 0
  · rw [if_pos dark, if_pos (.inr dark)]
  · rw [if_neg dark]
    cases ha <;> cases hb <;> simp [dark]

theorem isUsable_iff (status : SideStatus) :
    status.isUsable = true ↔ status = .usable true ∨ status = .usable false := by
  rcases status with _ | _ | (_ | _) <;> simp [SideStatus.isUsable]

theorem isSingle_iff (status : SideStatus) : status.isSingle = true ↔ status = .usable true := by
  rcases status with _ | _ | (_ | _) <;> simp [SideStatus.isSingle]

theorem firingBanks_get (l : Lamps) (sides : CaptureSides) (b : Bank) :
    (firingBanks l sides).get b = (sides.has b.side && bankFires l b) := by
  cases b <;> rfl

theorem firingBanks_iff (l : Lamps) (sides : CaptureSides) (b : Bank) :
    (firingBanks l sides).get b = true ↔
      sides.has b.side = true ∧ (sideStatus l b.side = .usable true ∨ sideStatus l b.side = .usable false)
        ∧ l.health.get b = .good ∧ l.drive.get b ≠ 0 := by
  simp only [firingBanks_get, bankFires, Bool.and_eq_true, isUsable_iff, decide_eq_true_eq, bne_iff_ne, and_assoc]

theorem anySingle_iff (l : Lamps) (sides : CaptureSides) :
    anySingle l sides = true ↔ ∃ x, sides.has x = true ∧ sideStatus l x = .usable true := by
  simp only [anySingle, Bool.or_eq_true, Bool.and_eq_true, isSingle_iff]
  exact ⟨fun h => h.elim (⟨.left, ·⟩) (⟨.right, ·⟩), fun ⟨x, h⟩ => match x with | .left => .inl h | .right => .inr h⟩

/-- Settles O41: the status table row by row, and each request as the chain of its checks. -/
theorem lightingSettingsTaken : Obligations.LightingSettings := by
  refine ⟨fun l side => ?_, fun tag s h => ⟨fun la lb ra rb tl tr spill => ?_, fun level rest => ?_,
    fun rest dark supply settle => ?_⟩⟩
  · intro banks a b
    refine ⟨?_, fun sides x hx => ?_, fun sides => ⟨anySingle_iff l sides, isUsable_iff _⟩⟩
    · rw [sideStatus_eq l side a b rfl, statusOf_eq]
    · have hside : x.side = side := by
        cases side <;> rcases hx with rfl | rfl <;> rfl
      rw [← hside]
      exact firingBanks_iff l sides x
  · refine ite_refuses h rfl (takeSetLighting_eq _ _ _ _ _ _ _ (enqueue s 0x22 tag)) fun eq => ?_
    iterate 7 refine ite_refuses h rfl eq fun eq => ?_
    refine takes_of_eq h rfl eq ?_
    dsimp only
    split <;> simp [LinkKept]
  · refine ite_refuses h rfl (takeSetAiming_eq _ _ (enqueue s 0x23 tag)) fun eq => ?_
    refine ite_refuses h rfl eq fun eq => ?_
    have lit : (aimRetest (aimingSet level rest (enqueue s 0x23 tag))).dose.aiming
        = (aimRetest (aimingSet level rest s)).dose.aiming := by
      rw [aimRetest_aiming, aimRetest_aiming]
      rfl
    refine ⟨takes_of_eq h rfl (eq.trans ?_) (by simp [LinkKept]), fun t ht => ?_⟩
    · rw [lit]
      rfl
    · obtain rfl := Host.Outcome.next.inj ht
      simp only [arrive_ready h, eq, transmit_frame, makeReply_frame]
      exact congrArg Option.isSome lit
  · refine ite_refuses h rfl (takeSetIdle_eq _ _ _ _ (enqueue s 0x24 tag)) fun eq => ?_
    iterate 3 refine ite_refuses h rfl eq fun eq => ?_
    exact takes_of_eq h rfl eq (by simp [LinkKept])

end Sys2Proof.Machine
end

-- ==== Proofs: the lamps' law ====
section
/-! StepsKeepTheLamps: the operations that write a setting or a count of the Lamp Controller, one lemma for each; every
other operation passes the records it is given on. -/

namespace Sys2Proof.Machine

open Sys2Proof.Config

/-! ## What the law reads (R82, R92) -/

/-- The law reads the settings, the readings and the counts of R82, and no other item. -/
@[simp] theorem lampsInRange_of_items (l : Lamps) (supply : Supply) (settleRun settleUs : Nat) (health : Banks Health)
    (aimingCut : Bool) (idleStage : IdleStage) (idleElapsed idleUs reservoirUs : Nat) (rotation : Bool)
    (pointer : Bank) (fullCheck : Bool) (holder : Holder) (waitingCapture : Bool) (waitingCheck : Option Check)
    (lastCheck : Option CheckRecord) (fixedBanks : BankSet) :
    LampsInRange { l with
        supply := supply, settleRun := settleRun, settleUs := settleUs, health := health, aimingCut := aimingCut
        idleStage := idleStage, idleElapsed := idleElapsed, idleUs := idleUs, reservoirUs := reservoirUs
        rotation := rotation, pointer := pointer, fullCheck := fullCheck, holder := holder
        waitingCapture := waitingCapture, waitingCheck := waitingCheck, lastCheck := lastCheck
        fixedBanks := fixedBanks } ↔ LampsInRange l := ⟨id, id⟩

/-- Told before `simp` reads the record that is set, whose law it then judges. -/
@[simp ↓] theorem setLamps_lampsInRange (s : State) (l : Lamps) :
    LampsInRange (setLamps s l).lamps ↔ LampsInRange l := ⟨id, id⟩

theorem lampsInRange_restarted : LampsInRange Lamps.restarted := by
  simp [LampsInRange, Lamps.restarted, InRange, OptInRange, EachBank, Banks.all, Sides.both, reservoirFull]

/-- Every bank's value obeys `P` when the one written does. -/
theorem EachBank.set {α : Type} {q : Banks α} {P : α → Prop} (h : EachBank q P) (b : Bank) {v : α} (hv : P v) :
    EachBank (q.set b v) P := by
  obtain ⟨la, lb, ra, rb⟩ := h
  cases b
  · exact ⟨hv, lb, ra, rb⟩
  · exact ⟨la, hv, ra, rb⟩
  · exact ⟨la, lb, hv, rb⟩
  · exact ⟨la, lb, ra, hv⟩

theorem EachBank.get {α : Type} {q : Banks α} {P : α → Prop} (h : EachBank q P) (b : Bank) : P (q.get b) := by
  obtain ⟨la, lb, ra, rb⟩ := h
  cases b <;> assumption

theorem optInRange_some {low high v : Nat} (h : InRange low high v) : OptInRange low high (some v) := by
  rintro x ⟨⟩
  exact h

/-! ## The counts written -/

section

variable {l : Lamps} (h : LampsInRange l)
include h

theorem LampsInRange.withReservoir {r : Nat} (hr : r ≤ reservoirFull) : LampsInRange { l with reservoir := r } := by
  simp_all [LampsInRange, InRange]

/-- What is drawn leaves no more in the reservoir. -/
theorem LampsInRange.drawn (cost : Nat) : LampsInRange { l with reservoir := l.reservoir - cost } := by
  obtain ⟨-, -, -, -, -, -, -, -, -, -, -, -, full, -⟩ := id h
  exact h.withReservoir ((Nat.sub_le _ _).trans full.2)

theorem LampsInRange.withCost {cost : Nat} (hc : cost ≤ reservoirFull) :
    LampsInRange { l with captureCost := cost } := by
  simp_all [LampsInRange, InRange]

theorem LampsInRange.cost_le : l.captureCost ≤ reservoirFull := by
  obtain ⟨-, -, -, -, -, -, -, -, -, -, -, -, -, cost, -⟩ := h
  exact cost.2

theorem LampsInRange.withCounter {counter : Nat} (hc : counter ≤ l.interval) :
    LampsInRange { l with counter := counter } := by
  simp_all [LampsInRange, InRange]

theorem LampsInRange.withDeferrals {d : Nat} (hd : d ≤ hold16) : LampsInRange { l with deferrals := d } := by
  simp_all [LampsInRange, InRange]

theorem LampsInRange.withReading (b : Bank) {r : Nat} (hr : r ≤ 60000) :
    LampsInRange { l with lastReading := l.lastReading.set b (some r) } := by
  obtain ⟨settle, scales, readings, rest⟩ := h
  exact ⟨settle, scales, readings.set b (optInRange_some ⟨Nat.zero_le _, hr⟩), rest⟩

theorem LampsInRange.withScale (b : Bank) {f : Option Nat} (hf : OptInRange 1000 60000 f) :
    LampsInRange { l with fullScale := l.fullScale.set b f } := by
  obtain ⟨settle, scales, rest⟩ := h
  exact ⟨settle, scales.set b hf, rest⟩

theorem LampsInRange.complete (c : Check) : LampsInRange (completeCheck l c) :=
  LampsInRange.withDeferrals (l := { l with counter := 0 }) (h.withCounter (Nat.zero_le _)) (Nat.zero_le _)

/-- A judgement of a reading that is no failure takes it as the bank's full scale (R96). -/
theorem LampsInRange.judgement (b : Bank) {r : Nat} {v : Verdict} (low : v ≠ .failed → 1000 ≤ r) (high : r ≤ 60000) :
    LampsInRange (judged l b r v) := by
  have old : OptInRange 1000 60000 (acceptedScale l b) := by
    obtain ⟨-, scales, -⟩ := h
    unfold acceptedScale
    split
    · exact nofun
    · exact scales.get b
  have new (hv : v ≠ .failed) : OptInRange 1000 60000 (some r) := optInRange_some ⟨low hv, high⟩
  cases v
  · exact h.withScale b (new nofun)
  · exact h.withScale b (new nofun)
  · exact h.withScale b old

/-! ## The settings replaced (R87, R89, R91, R102) -/

theorem LampsInRange.checks {interval rotation tolerance failLimit : Nat} (hi : InRange 1 255 interval)
    (ht : InRange 1 500 tolerance) (hf : InRange (tolerance + 1) 900 failLimit) :
    LampsInRange (checkSettings l interval rotation tolerance failLimit) := by
  simp_all [LampsInRange, InRange, checkSettings]

theorem LampsInRange.lighting {drives : Banks Nat} {times : Sides Nat} {spill : Nat}
    (hd : EachBank drives (InRange 0 1000)) (hl : InRange 100 20000 times.left) (hr : InRange 100 20000 times.right)
    (hs : InRange 0 250 spill) : LampsInRange (lightingSettings l drives times spill) := by
  simp_all [LampsInRange, InRange, lightingSettings]

theorem LampsInRange.aiming {level rest : Nat} (hl : level ≤ 100) (hr : rest ≤ level) :
    LampsInRange { l with aimingLevel := level, restLevel := rest } := by
  simp_all [LampsInRange, InRange]

theorem LampsInRange.idle {rest dark supply settle : Nat} (hr : 1 ≤ rest) (hd : rest ≤ dark) (hs : dark ≤ supply)
    (high : supply ≤ 3600) (ht : settle ≤ 10000) :
    LampsInRange { l with tRest := rest, tDark := dark, tSupply := supply, settle := settle } := by
  simp_all [LampsInRange, InRange]
  omega

end

/-! ## The cost of a capture (R92) -/

/-- A side's two banks at full drive for the longest duration draw half of the reservoir's capacity. -/
theorem LampsInRange.strobeCost_le {l : Lamps} (h : LampsInRange l) (banks : BankSet) (side : Side) :
    strobeCost l banks side ≤ 40000 := by
  obtain ⟨-, -, -, drives, left, right, -⟩ := h
  have time : l.duration.get side ≤ 20000 := by
    cases side
    · exact left.2
    · exact right.2
  have bank (b : Bank) : (if banks.get b = true then ceilDiv (l.drive.get b * l.duration.get side) 1000 else 0)
      ≤ 20000 := by
    have drive : l.drive.get b ≤ 1000 := (drives.get b).2
    have charge : l.drive.get b * l.duration.get side ≤ 1000 * 20000 := Nat.mul_le_mul drive time
    unfold ceilDiv
    split <;> omega
  cases side
  · exact Nat.add_le_add (bank .la) (bank .lb)
  · exact Nat.add_le_add (bank .ra) (bank .rb)
/-! ## The operations of the lamps and the arbiter -/

@[simp] theorem verdictReport_lamps (s : State) (b : Bank) (r : Nat) (v : Verdict) :
    (verdictReport s b r v).lamps = s.lamps := by
  cases v <;> simp [verdictReport]

theorem verdictOf_low {scale : Option Nat} {tolerance failLimit r : Nat}
    (h : verdictOf scale tolerance failLimit r ≠ .failed) : 1000 ≤ r := by
  by_contra low
  exact h (if_pos (Nat.lt_of_not_le low))

section

variable {s : State} (h : LampsInRange s.lamps)
include h

@[simp] theorem covered_lampsInRange {cost : Nat} (hc : cost ≤ reservoirFull) :
    LampsInRange (covered s cost).lamps := by
  obtain ⟨-, -, -, -, -, -, -, -, -, -, -, -, full, -⟩ := id h
  exact h.withReservoir (max_le full.2 hc)

@[simp] theorem idleRestart_lampsInRange : LampsInRange (idleRestart s).lamps := h

@[simp] theorem idleReleased_lampsInRange : LampsInRange (idleReleased s).lamps := by
  unfold idleReleased; split <;> simp [h]

@[simp] theorem idleDark_lampsInRange : LampsInRange (idleDark s).lamps := by
  unfold idleDark; split <;> exact h

@[simp] theorem supplyOff_lampsInRange : LampsInRange (supplyOff s).lamps := h.withReservoir (Nat.zero_le _)

@[simp] theorem supplyReady_lampsInRange : LampsInRange (supplyReady s).lamps := by
  simp [h, supplyReady]

@[simp] theorem supplyOn_lampsInRange : LampsInRange (supplyOn s).lamps := by
  have on : LampsInRange { s.lamps with counter := s.lamps.interval } := h.withCounter (le_refl _)
  unfold supplyOn
  split
  · dsimp only
    split
    · exact supplyReady_lampsInRange on
    · exact on
  · exact h

@[simp] theorem idleExpires_lampsInRange : LampsInRange (idleExpires s).lamps := by
  unfold idleExpires; dsimp only; split <;> simp [h]

@[simp] theorem aimCut_lampsInRange (named : Nat) : LampsInRange (aimCut s named).lamps := by
  simp [h, aimCut]

@[simp] theorem aimStart_lampsInRange : LampsInRange (aimStart s).lamps := by
  unfold aimStart; dsimp only; (repeat' split) <;> simp [h]

@[simp] theorem aimRetest_lampsInRange : LampsInRange (aimRetest s).lamps := by
  unfold aimRetest; (repeat' split) <;> simp [h]

@[simp] theorem captureToNone_lampsInRange (outcome : CaptureOutcome) :
    LampsInRange (captureToNone s outcome).lamps := by
  simp [h, captureToNone]

@[simp] theorem finishCheck_lampsInRange (c : Check) (outcome : CheckOutcome) :
    LampsInRange (finishCheck s c outcome).lamps := by
  have counted := h.complete c
  unfold finishCheck; dsimp only; (repeat' split) <;> simp [h, counted]

@[simp] theorem deferCheck_lampsInRange : LampsInRange (deferCheck s).lamps :=
  h.withDeferrals (Nat.min_le_right _ _)

@[simp] theorem grantCheck_lampsInRange (c : Check) : LampsInRange (grantCheck s c).lamps := by
  unfold grantCheck; dsimp only; (repeat' split) <;> simp [h]

@[simp] theorem grantCapture_lampsInRange : LampsInRange (grantCapture s).lamps := by
  have cost (banks : BankSet) :
      LampsInRange
        { s.lamps with captureCost := strobeCost s.lamps banks .left + strobeCost s.lamps banks .right } :=
    h.withCost (Nat.add_le_add (h.strobeCost_le banks .left) (h.strobeCost_le banks .right))
  unfold grantCapture
  dsimp only
  split
  · simp [h]
  · split
    · exact cost _
    · exact cost _

@[simp] theorem grantNext_lampsInRange : LampsInRange (grantNext s).lamps := by
  unfold grantNext; dsimp only; (repeat' split) <;> simp [h]

@[simp] theorem releaseLighting_lampsInRange : LampsInRange (releaseLighting s).lamps := by
  simp [h, releaseLighting]

@[simp] theorem withdrawLighting_lampsInRange : LampsInRange (withdrawLighting s).lamps := by
  unfold withdrawLighting; (repeat' split) <;> simp [h]

@[simp] theorem claimLighting_lampsInRange : LampsInRange (claimLighting s).lamps := h

@[simp] theorem serveCounter_lampsInRange : LampsInRange (serveCounter s).lamps := by
  have risen : LampsInRange { s.lamps with counter := min (s.lamps.counter + 1) s.lamps.interval } :=
    h.withCounter (Nat.min_le_right _ _)
  unfold serveCounter
  dsimp only
  split
  · exact releaseLighting_lampsInRange risen
  · split
    · exact releaseLighting_lampsInRange (deferCheck_lampsInRange risen)
    · exact risen

/-! ## Checks and pulses -/

@[simp] theorem endCheck_lampsInRange (c : Check) (outcome : CheckOutcome) :
    LampsInRange (endCheck s c outcome).lamps := by
  simp [h, endCheck]

@[simp] theorem checkGoesOn_lampsInRange (c : Check) : LampsInRange (checkGoesOn s c).lamps := by
  unfold checkGoesOn; (repeat' split) <;> simp [h]

@[simp] theorem pulseStart_lampsInRange (c : Check) (b : Bank) : LampsInRange (pulseStart s c b).lamps := by
  have lit : LampsInRange { s.lamps with holder := .check { c with lit := true } } := h
  have drawn := idleRestart_lampsInRange ((setLamps_lampsInRange s _).mpr (lit.drawn pulseCost))
  unfold pulseStart
  dsimp only
  split
  · simpa only [chargePulse_frame] using drawn
  · exact drawn

@[simp] theorem pulseEnd_lampsInRange (c : Check) (b : Bank) (rest : List Bank) {r : Nat} (hr : r ≤ ratedLux) :
    LampsInRange (pulseEnd s c b rest r).lamps := by
  have read := h.withReading b hr
  have judgement := read.judgement b
    (verdictOf_low (scale := acceptedScale s.lamps b) (tolerance := s.lamps.tolerance)
      (failLimit := s.lamps.failLimit)) hr
  unfold pulseEnd; dsimp only
  exact checkGoesOn_lampsInRange (by simpa using judgement) _

/-! ## The press and the strobes -/

@[simp] theorem captureEndArming_lampsInRange (outcome : CaptureOutcome) :
    LampsInRange (captureEndArming s outcome).lamps := by
  simp [h, captureEndArming]

@[simp] theorem pressFailed_lampsInRange : LampsInRange (pressFailed s).lamps := by
  unfold pressFailed; (repeat' split) <;> simp [h]

@[simp] theorem startLowering_lampsInRange : LampsInRange (startLowering s).lamps := by
  unfold startLowering; split <;> simp [h]

@[simp] theorem heldPressGo_lampsInRange : LampsInRange (heldPressGo s).lamps := by
  unfold heldPressGo; (repeat' split) <;> simp [h]

@[simp] theorem armPump_lampsInRange : LampsInRange (armPump s).lamps := by
  unfold armPump; split <;> simp [h]

@[simp] theorem mechPump_lampsInRange : LampsInRange (mechPump s).lamps := by
  simp [h, mechPump]

@[simp] theorem pressRequest_lampsInRange : LampsInRange (pressRequest s).lamps := by
  unfold pressRequest; (repeat' split) <;> simp [h]

@[simp] theorem startStrobe_lampsInRange (side : Side) : LampsInRange (startStrobe s side).lamps := by
  have drawn := h.drawn (strobeCost s.lamps s.lamps.fixedBanks side)
  simp [startStrobe, drawn]

@[simp] theorem takeRise_lampsInRange (side : Side) : LampsInRange (takeRise s side).lamps := by
  unfold takeRise; dsimp only; split <;> simp [h]

@[simp] theorem lightingReady_lampsInRange : LampsInRange (lightingReady s).lamps := by
  unfold lightingReady; (repeat' split) <;> simp [h]

/-! ## The ends of a capture -/

@[simp] theorem finishVoid_lampsInRange (outcome : CaptureOutcome) : LampsInRange (finishVoid s outcome).lamps := by
  simp [h, finishVoid]

@[simp] theorem voidExposing_lampsInRange (outcome : CaptureOutcome) :
    LampsInRange (voidExposing s outcome).lamps := by
  simp [h, voidExposing]

@[simp] theorem voidOrder_lampsInRange : LampsInRange (voidOrder s).lamps := by
  unfold voidOrder; split <;> simp [h]

@[simp] theorem pressLost_lampsInRange : LampsInRange (pressLost s).lamps := by
  unfold pressLost; dsimp only; split <;> simp [h]

@[simp] theorem exposureComplete_lampsInRange : LampsInRange (exposureComplete s).lamps := by
  unfold exposureComplete; dsimp only; split <;> simp [h]

@[simp] theorem exposurePump_lampsInRange : LampsInRange (exposurePump s).lamps := by
  unfold exposurePump; (repeat' split) <;> simp [h]

@[simp] theorem takeFall_lampsInRange (side : Side) : LampsInRange (takeFall s side).lamps := by
  unfold takeFall; split <;> simp [h]

@[simp] theorem cameraExpires_lampsInRange (side : Side) : LampsInRange (cameraExpires s side).lamps := by
  simp [h, cameraExpires]

@[simp] theorem captureChange_lampsInRange : LampsInRange (captureChange s).lamps := by
  unfold captureChange; split <;> simp [h]

/-! ## Visits and the turner -/

@[simp] theorem endVisit_lampsInRange : LampsInRange (endVisit s).lamps := by
  simp [h, endVisit]

@[simp] theorem visitStart_lampsInRange (n : Nat) : LampsInRange (visitStart s n).lamps := by
  simp [h, visitStart]

@[simp] theorem leavePlaced_lampsInRange : LampsInRange (leavePlaced s).lamps := by
  simp [h, leavePlaced]

@[simp] theorem enterUncertain_lampsInRange (why : Condition) : LampsInRange (enterUncertain s why).lamps := by
  unfold enterUncertain; dsimp only; split <;> simp [h]

@[simp] theorem turnCompleted_lampsInRange : LampsInRange (turnCompleted s).lamps := by
  unfold turnCompleted; split <;> simp [h]

@[simp] theorem endReturn_lampsInRange : LampsInRange (endReturn s).lamps := by
  unfold endReturn; split <;> simp [h]

@[simp] theorem enterReturn_lampsInRange (purpose : Purpose) : LampsInRange (enterReturn s purpose).lamps := by
  unfold enterReturn; dsimp only; split <;> simp [h]

@[simp] theorem layPump_lampsInRange : LampsInRange (layPump s).lamps := by
  unfold layPump; split <;> simp [h]

@[simp] theorem attemptEnds_lampsInRange (kind : IncidentKind) (second : Nat) :
    LampsInRange (attemptEnds s kind second).lamps := by
  unfold attemptEnds; dsimp only; split <;> simp [h]

@[simp] theorem restoreEnds_lampsInRange : LampsInRange (restoreEnds s).lamps := by
  simp [h, restoreEnds]

@[simp] theorem turnerRaised_lampsInRange : LampsInRange (turnerRaised s).lamps := by
  unfold turnerRaised; (repeat' split) <;> simp [h]

@[simp] theorem turnerAsksRaise_lampsInRange (w : RaiseWaiter) : LampsInRange (turnerAsksRaise s w).lamps := by
  unfold turnerAsksRaise; split <;> simp [h]

@[simp] theorem glassReached_lampsInRange : LampsInRange (glassReached s).lamps := by
  refine layPump_lampsInRange (mechPump_lampsInRange (s := startMoves _) ?_)
  split <;> simp [h]

@[simp] theorem raiseTimedOut_lampsInRange : LampsInRange (raiseTimedOut s).lamps := by
  have told (u : State) (hu : LampsInRange u.lamps) :
      LampsInRange (if u.mech.glass.heldPress then pressFailed u else u).lamps := by
    split <;> simp [hu]
  refine told _ ?_
  split <;> simp [h]

@[simp] theorem lowerTimedOut_lampsInRange : LampsInRange (lowerTimedOut s).lamps := by
  simp [h, lowerTimedOut]

@[simp] theorem manualCompletes_lampsInRange : LampsInRange (manualCompletes s).lamps := by
  unfold manualCompletes; dsimp only; split <;> simp [h]

@[simp] theorem turnTimedOut_lampsInRange : LampsInRange (turnTimedOut s).lamps := by
  unfold turnTimedOut; dsimp only; split <;> simp [h]

@[simp] theorem overforce_lampsInRange (force : Nat) : LampsInRange (overforce s force).lamps := by
  unfold overforce; dsimp only; split <;> simp [h]

@[simp] theorem readForce_lampsInRange (force : Nat) (p : PressTarget) : LampsInRange (readForce s force p).lamps := by
  unfold readForce; (repeat' split) <;> simp [h]

/-! ## Stops, the hood and the pedal -/

@[simp] theorem startCapture_lampsInRange (v : Volume) (n : Nat) (sides : CaptureSides) (manual : Bool) :
    LampsInRange (startCapture s v n sides manual).1.lamps :=
  armPump_lampsInRange (pressRequest_lampsInRange (supplyOn_lampsInRange h))

@[simp] theorem captureArrives_lampsInRange (code : Nat) (manual : Bool) :
    LampsInRange (captureArrives code manual s).1.lamps := by
  unfold captureArrives; dsimp only; (repeat' split) <;> simp [h]

@[simp] theorem breakPause_lampsInRange (cause : PauseCause) (phase : Nat) :
    LampsInRange (breakPause s cause phase).lamps := by
  unfold breakPause; split <;> simp [h]

@[simp] theorem stopTaken_lampsInRange (cause : PauseCause) : LampsInRange (stopTaken s cause).lamps := by
  unfold stopTaken
  split
  · exact h
  · have halted (u : State) (hu : LampsInRange u.lamps) (k : Condition) :
        LampsInRange (latch (idleDark (voidOrder (haltGlass u))) k).lamps := by
      simp [hu]
    dsimp only
    split <;> exact halted _ (by simp [h]) _

@[simp] theorem hoodEndsCheck_lampsInRange : LampsInRange (hoodEndsCheck s).lamps := by
  unfold hoodEndsCheck; dsimp only; (repeat' split) <;> simp [h]

@[simp] theorem judgeHood_lampsInRange : LampsInRange (judgeHood s).lamps := by
  unfold judgeHood; dsimp only; (repeat' split) <;> simp [h]

@[simp] theorem pedalCaptures_lampsInRange : LampsInRange (pedalCaptures s).lamps := by
  unfold pedalCaptures; dsimp only; split <;> simp [h]

@[simp] theorem pedalPress_lampsInRange : LampsInRange (pedalPress s).lamps := by
  unfold pedalPress; (repeat' split) <;> simp [h]

@[simp] theorem edgeActs_lampsInRange (line : AuxLine) (edge : EdgeKind) :
    LampsInRange (edgeActs s line edge).lamps := by
  unfold edgeActs; dsimp only; (repeat' split) <;> simp [h]

end

/-! ## Every command -/

section

variable {s : State} (h : LampsInRange s.lamps)
include h

theorem extendVolume_lampsInRange (leaves count : Nat) : LampsInRange (extendVolume s leaves count).lamps := by
  unfold extendVolume; dsimp only; (repeat' split) <;> simp [h]

theorem closeVolume_lampsInRange (slot : SlotId) (v : Volume) : LampsInRange (closeVolume s slot v).lamps := by
  unfold closeVolume; dsimp only; (repeat' split) <;> simp [h]

theorem placeAt_lampsInRange (n : Nat) : LampsInRange (placeAt s n).lamps := by
  have visiting := visitStart_lampsInRange (s := onOpen (logReseat s n) fun v => { v with placedBefore := true })
    (by simpa using h) n
  refine aimRetest_lampsInRange (idleRestart_lampsInRange ?_)
  split <;> simp [visiting]

theorem startTurn_lampsInRange (v : Volume) (d : Direction) (manualFlag : Bool) :
    LampsInRange (startTurn s v d manualFlag).1.lamps := by
  unfold startTurn; dsimp only; split <;> simp [h]

theorem turnArrives_lampsInRange (direction flags : Nat) :
    LampsInRange (turnArrives direction flags s).1.lamps := by
  unfold turnArrives; dsimp only; (repeat' split) <;> simp [h, startTurn_lampsInRange]

theorem resumeTaken_lampsInRange : LampsInRange (resumeTaken s).lamps := by
  unfold resumeTaken startDeferred; (repeat' split) <;> simp [h, turnArrives_lampsInRange]

theorem takeSetLighting_lampsInRange (la lb ra rb tl tr spill : Nat) :
    LampsInRange (takeSetLighting { la := la, lb := lb, ra := ra, rb := rb } { left := tl, right := tr } spill
      s).1.lamps := by
  rw [takeSetLighting_eq]
  iterate 8
    split
    · exact h
  have set : LampsInRange (lightingSettings s.lamps { la := la, lb := lb, ra := ra, rb := rb }
      { left := tl, right := tr } spill) := by
    refine h.lighting ⟨?_, ?_, ?_, ?_⟩ ?_ ?_ ?_ <;> simp only [InRange] <;> omega
  dsimp only
  split
  · exact set
  · exact aimRetest_lampsInRange set

theorem takeSetAiming_lampsInRange (level rest : Nat) : LampsInRange (takeSetAiming level rest s).1.lamps := by
  rw [takeSetAiming_eq]
  split
  · exact h
  · split
    · exact h
    · exact aimRetest_lampsInRange (h.aiming (level := level) (rest := rest) (by omega) (by omega))

theorem takeSetIdle_lampsInRange (rest dark supply settle : Nat) :
    LampsInRange (takeSetIdle rest dark supply settle s).1.lamps := by
  rw [takeSetIdle_eq]
  iterate 4
    split
    · exact h
  refine aimRetest_lampsInRange
    (h.idle (rest := rest) (dark := dark) (supply := supply) (settle := settle) ?_ ?_ ?_ ?_ ?_)
    <;> omega

theorem takeSetChecks_lampsInRange (interval rotation tolerance failLimit : Nat) :
    LampsInRange (takeSetChecks interval rotation tolerance failLimit s).1.lamps := by
  rw [takeSetChecks_eq]
  iterate 5
    split
    · exact h
  rw [← min_counter]
  refine h.checks (rotation := rotation) ?_ ?_ ?_ <;> constructor <;> omega

theorem tick_lampsInRange : LampsInRange (tick s).lamps := by
  have settled : LampsInRange (settleTick s.lamps) := by
    unfold settleTick; split <;> exact h
  have charged : LampsInRange (reservoirTick (settleTick s.lamps)) := by
    unfold reservoirTick
    split
    · exact settled
    · split
      · exact settled
      · exact LampsInRange.withReservoir (l := { settleTick s.lamps with reservoirUs := 0 }) settled
          (Nat.min_le_right _ _)
  change LampsInRange (if idleHeld s then _ else _)
  unfold idleTick
  (repeat' split) <;> exact charged

end

theorem take_lampsInRange {i : Instr} {take : State → State × Answer} (hi : i.take? = some take) {s : State}
    (h : LampsInRange s.lamps) : LampsInRange (take s).1.lamps := by
  unfold Instr.take? at hi
  split at hi <;> cases hi
  case h_2 => unfold takeExtendVolume; dsimp only; (repeat' split) <;> simp [h, extendVolume_lampsInRange]
  case h_3 => unfold takeCloseVolume; (repeat' split) <;> simp [h, closeVolume_lampsInRange]
  case h_11 => unfold takePlace; (repeat' split) <;> simp [h, placeAt_lampsInRange]
  case h_13 => simp [h, takeTurn, turnArrives_lampsInRange]
  case h_14 => unfold takePark; (repeat' split) <;> simp [h]
  case h_15 => unfold takeManualDone; (repeat' split) <;> simp [h]
  case h_21 => unfold takeSetAngle; (repeat' split) <;> simp [h]
  case h_23 =>
    have lit := aimRetest_lampsInRange (supplyOn_lampsInRange (idleRestart_lampsInRange h))
    unfold takeLampsOn; dsimp only; split <;> exact lit
  case h_24 => unfold takeLampsOff; (repeat' split) <;> simp [h]
  case h_25 => exact takeSetLighting_lampsInRange h _ _ _ _ _ _ _
  case h_26 => exact takeSetAiming_lampsInRange h _ _
  case h_27 => exact takeSetIdle_lampsInRange h _ _ _ _
  case h_28 => unfold takeReferenceCheck; dsimp only; (repeat' split) <;> simp [h]
  case h_29 => exact takeSetChecks_lampsInRange h _ _ _ _
  case h_31 => simp [h, takeCapture]
  case h_37 => unfold takeResume; (repeat' split) <;> simp [h, resumeTaken_lampsInRange]
  case h_38 => unfold takeSetAux; (repeat' split) <;> simp [h]
  all_goals simpa using h

/-- The events that leave the Lamp Controller, or do what the operations above do. -/
theorem event_lampsInRange {i : Instr} {s t : State} (hi : i.take? = none) (hclear : ∀ run, i ≠ .clearStore run)
    (hbyte : ∀ b, i ≠ .byteReceived b) (hsent : i ≠ .frameSent) (hx : exec i s = .next t)
    (h : LampsInRange s.lamps) : LampsInRange t.lamps := by
  cases i
  case clearStore run => exact absurd rfl (hclear run)
  case byteReceived b => exact absurd rfl (hbyte b)
  case frameSent => exact absurd rfl hsent
  case platenSettled side position =>
    obtain rfl := Host.Outcome.next.inj hx
    have read : LampsInRange { s with pins := { s.pins with position := s.pins.position.set side position } }.lamps := h
    simp only [transmit_frame]
    exact aimRetest_lampsInRange (layPump_lampsInRange (mechPump_lampsInRange read))
  case lightingReady =>
    have ready := aimRetest_lampsInRange (lightingReady_lampsInRange (covered_lampsInRange h h.cost_le))
    obtain rfl := Host.Outcome.next.inj hx
    split <;> simp [h, ready]
  case referencePulseStart =>
    have drawn := covered_lampsInRange h (cost := pulseCost) (by decide)
    obtain rfl := Host.Outcome.next.inj hx
    (repeat' split) <;> simp [h, drawn]
  case gap | powerOn | resetLine | auxLevelChange | auxEdge | homeSensor | farEndSensor | holdSensor | cupEmptySensor
      | separationTime | restoreDescentEnd | restoreReleaseWait | liftTimeout | turnTimeout | angleSettled
      | glassForceReading | raisedStopSensor | glassMoveTimeout | supplySettled | idleStageExpiry | lightingGrant
      | referencePulseEnd | aimingInterval | exposureActiveRise
      | strobeDelayExpiry | exposureActiveFall | cameraTimeout | volumeClockTick | strobeEnd =>
    obtain rfl := Host.Outcome.next.inj hx
    (repeat' split) <;> simp [h, powerOn, resetLine, lampsInRange_restarted]
  all_goals exact absurd hi nofun

/-! ## The Link Port's part of a command -/

/-- The arrival of a request leaves the lamps, or does with them what its block does. -/
theorem arrive_lampsInRange {s : State} (h : LampsInRange s.lamps) (kind tag : Nat) {take : State → State × Answer}
    (ht : ∀ u : State, LampsInRange u.lamps → LampsInRange (take u).1.lamps) :
    LampsInRange (arrive s kind tag take).lamps := by
  have queued := ht (enqueue s kind tag) h
  unfold arrive; dsimp only; (repeat' split) <;> simp [h, queued]

theorem takeFrame_lampsInRange (kind : Nat) (p : List Byte) {s : State} (h : LampsInRange s.lamps) :
    LampsInRange (takeFrame kind p s).1.lamps := by
  rcases takeFrame_cases kind p s with ⟨i, take, hi, e⟩ | ⟨reason, e⟩
  · rw [e]; exact take_lampsInRange hi h
  · rw [e]; exact h

theorem receive_lampsInRange {s : State} (h : LampsInRange s.lamps) (b : Byte) : LampsInRange (receive s b).lamps := by
  unfold receive
  split
  case h_8 => -- the last check byte
    unfold frameReceived
    split
    · exact arrive_lampsInRange (s := setFramer s .hunt) h _ _ fun _ => takeFrame_lampsInRange _ _
    · simpa using h
  all_goals (repeat' split) <;> simp [h]

theorem frameSent_lampsInRange {s t : State} (h : LampsInRange s.lamps) (hx : exec .frameSent s = .next t) :
    LampsInRange t.lamps := by
  obtain rfl := Host.Outcome.next.inj hx
  unfold replySent
  dsimp only
  (repeat' split) <;> simp [h, lampsInRange_restarted]

theorem exec_lampsInRange {i : Instr} {s t : State} (h : LampsInRange s.lamps) (hx : exec i s = .next t) :
    LampsInRange t.lamps := by
  rcases hi : i.take? with _ | take
  · obtain rfl | hsent := eq_or_ne i .frameSent
    · exact frameSent_lampsInRange h hx
    obtain ⟨b, rfl⟩ | hbyte := em (∃ b, i = .byteReceived b)
    · obtain rfl := Host.Outcome.next.inj hx
      exact receive_lampsInRange h b
    obtain ⟨run, rfl⟩ | hclear := em (∃ run, i = .clearStore run)
    · obtain rfl := Host.Outcome.next.inj hx
      split
      · exact arrive_lampsInRange h _ _ fun u hu => by simpa using hu
      · split <;> simp [powerOn, resetLine, lampsInRange_restarted]
    exact event_lampsInRange hi (not_exists.mp hclear) (not_exists.mp hbyte) hsent hx h
  · obtain ⟨kind, tag, e⟩ := exec_of_take hi
    obtain rfl := Host.Outcome.next.inj ((e s).symm.trans hx)
    exact arrive_lampsInRange h kind tag fun _ => take_lampsInRange hi

/-- Settles O57, by the inversion of every command: it leaves the settings and the counts, or it is one of the
operations above. -/
theorem stepsKeepTheLamps : Obligations.StepsKeepTheLamps := by
  intro s t h hx
  unfold step at hx
  split at hx
  · next rest _ => exact exec_lampsInRange (s := { s with pending := rest }) h hx
  · obtain rfl := Host.Outcome.next.inj hx
    exact tick_lampsInRange h

end Sys2Proof.Machine
end

-- ==== Proofs: the supply and the idle timer ====
section
/-! SupplyAndIdleTimer: LAMPS_ON and LAMPS_OFF by the state of the supply, the settle's end, and the stage that each
expiry of the idle timer enters. -/

namespace Sys2Proof.Machine

open Sys2Proof.Config

/-! ## LAMPS_ON and LAMPS_OFF (R83, R84) -/

theorem supplyOn_of_on {s : State} (h : s.lamps.supply ≠ .off) : supplyOn s = s := by
  rw [supplyOn_eq]
  exact if_neg h

theorem takeLampsOn_of_ready {s : State} (h : s.lamps.supply = .ready) :
    takeLampsOn s = (aimRetest (idleRestart s), taken [u 1 2]) := by
  simp only [takeLampsOn, if_pos h, supplyOn_of_on (s := idleRestart s) (by simp [idleRestart, h])]
  rfl

theorem takeLampsOn_of_settling {s : State} (h : s.lamps.supply = .settling) :
    takeLampsOn s = (aimRetest (idleRestart s), started []) := by
  simp [takeLampsOn, h, supplyOn_of_on (s := idleRestart s) (by simp [idleRestart, h])]

/-- The supply asked for from OFF, with the idle timer restarted. -/
def suppliedOn (supply : Supply) (s : State) : State :=
  { s with lamps := { s.lamps with
      idleStage := .active, idleElapsed := 0, idleUs := 0, supply := supply, settleRun := s.lamps.settle
      settleUs := 0, reservoirUs := 0, counter := s.lamps.interval, fullCheck := true } }

theorem takeLampsOn_of_off {s : State} (h : s.lamps.supply = .off) :
    takeLampsOn s =
      (aimRetest (if s.lamps.settle = 0 then latch (suppliedOn .ready s) .lampSettled else suppliedOn .settling s),
        started []) := by
  have away : s.lamps.supply ≠ .ready := by simp [h]
  simp only [takeLampsOn, if_neg away, supplyOn_eq, idleRestart, if_pos h, suppliedOn]

/-- With the supply OFF the aiming light is dark (R88). -/
theorem aimRetest_of_not_ready {s : State} (h : s.lamps.supply ≠ .ready) : aimRetest s = aimDark s := by
  have dark : aimWanted s = false := by simp [aimWanted, h]
  simp [aimRetest, dark]

theorem takeLampsOff_eq (s : State) :
    takeLampsOff s =
      if s.lamps.holder ≠ .free ∨ s.lamps.waitingCapture = true ∨ s.lamps.waitingCheck.isSome = true
          ∨ s.capture.state = .arming ∨ s.capture.state = .exposing then refuse s .busy 0
      else if s.lamps.supply = .off then (s, taken [u 1 0])
      else (aimDark (supplyOff s), taken [u 1 0]) := by
  have dark : aimRetest (supplyOff s) = aimDark (supplyOff s) := aimRetest_of_not_ready nofun
  simp only [takeLampsOff, lightingBusy_iff, dark]
  refine if_congr Iff.rfl rfl ?_
  split <;> rfl

/-! ## The idle timer (R90) -/

/-- The interval that the idle timer reaches next gives its stage: the last of those that end there. -/
theorem stageOf_idleNext {l : Lamps} (running : l.idleStage ≠ .expired) (hdark : l.tRest ≤ l.tDark)
    (hsupply : l.tDark ≤ l.tSupply) :
    stageOf l (idleNext l) =
      if idleNext l = l.tSupply then .expired else if idleNext l = l.tDark then .dark else .rest := by
  rcases stage : l.idleStage with _ | _ | _ | _
  case expired => exact absurd stage running
  all_goals
    simp only [stageOf, idleNext, stage]
    grind

/-- Settles O40: each request and each expiry by the states of the supply and of the timer in which it finds them. -/
theorem supplyAndIdleTimer : Obligations.SupplyAndIdleTimer := by
  refine fun tag s => ⟨fun h => ⟨?_, ?_⟩, ?_, ?_⟩
  · split
    · next ready =>
      exact takes_aimRetest h rfl (takeLampsOn_of_ready (s := enqueue s 0x20 tag) ready) (by simp [LinkKept])
    · next notReady =>
      split
      · next settling =>
        exact takes_aimRetest h rfl (takeLampsOn_of_settling (s := enqueue s 0x20 tag) settling) (by simp [LinkKept])
      · next notSettling =>
        have off : s.lamps.supply = .off := by
          rcases e : s.lamps.supply with _ | _ | _
          · rfl
          · exact absurd e notSettling
          · exact absurd e notReady
        refine takes_aimRetest h rfl (takeLampsOn_of_off (s := enqueue s 0x20 tag) off) ?_
        dsimp only
        split <;> simp [LinkKept]
  · refine ite_refuses h rfl (takeLampsOff_eq (enqueue s 0x21 tag)) fun eq => ?_
    refine ite_prop_iff_and.mpr ⟨fun off => ?_, fun on => ?_⟩
    · exact takes_of_eq h rfl (eq.trans (if_pos off)) (linkKept_refl _)
    · exact takes_of_eq h rfl (eq.trans (if_neg on)) ⟨rfl, rfl, rfl, rfl, rfl⟩
  · split
    · next settling =>
      exact does_aimRetest (by simp [exec, execSupplySettled, settling, supplyReady]) (by simp [LinkKept])
    · next settled => simp [exec, execSupplySettled, settled]
  · split
    · next stands => simp [exec, execIdleStageExpiry, stands]
    · next runs =>
      obtain ⟨free, running⟩ := not_or.mp runs
      intro hdark hsupply reached stage aged
      have expires : exec .idleStageExpiry s = .next (transmit (aimRetest (idleExpires s))) := by
        simp [exec, execIdleStageExpiry, free, running]
      have next : idleNext s.lamps = reached := by
        unfold idleNext reached
        cases s.lamps.idleStage <;> rfl
      have entered : stageOf s.lamps reached = stage := by
        rw [← next, stageOf_idleNext running hdark hsupply, next]
      have ages : idleExpires s = { s with lamps :=
          if stage = .expired then { aged with supply := .off, reservoir := 0, reservoirUs := 0, settleUs := 0 }
          else aged } := by
        simp only [idleExpires, next, entered]
        split <;> rfl
      rw [ages] at expires
      exact does_aimRetest expires ⟨rfl, rfl, rfl, rfl, rfl⟩

end Sys2Proof.Machine
end

-- ==== Proofs: reference pulses ====
section
/-! ReferencePulses: how a check ends, the draw and the charge of a pulse that starts, and the verdict on a reading. -/

namespace Sys2Proof.Machine

open Sys2Proof.Config

/-! ## The end of a check (R90, R98, R99) -/

theorem oneBank_eq (b : Bank) :
    oneBank b = { la := decide (b = .la), lb := decide (b = .lb), ra := decide (b = .ra), rb := decide (b = .rb) } := by
  cases b <;> rfl

theorem bank_next_eq (b : Bank) :
    b.next = match b with | .la => .lb | .lb => .ra | .ra => .rb | .rb => .la := by
  cases b <;> rfl

theorem idleHeld_iff (s : State) :
    idleHeld s = true ↔ s.capture.state = .arming ∨ s.capture.state = .exposing
      ∨ s.lamps.waitingCheck.isSome = true ∨ checkHolds s.lamps = true := by
  simp only [idleHeld, checkActive, Bool.or_eq_true, captureRuns_iff, or_assoc]

/-- The idle timer's hold reads the capture and the check that waits or holds. -/
theorem idleHeld_congr {s t : State} (hcapture : t.capture = s.capture)
    (hwaiting : t.lamps.waitingCheck = s.lamps.waitingCheck) (hholder : t.lamps.holder = s.lamps.holder) :
    idleHeld t = idleHeld s := by
  simp only [idleHeld, checkActive, checkHolds, hcapture, hwaiting, hholder]

theorem finishCheck_eq (s : State) (c : Check) (outcome : CheckOutcome) :
    let counted := if outcome = .complete then completeCheck s.lamps c else s.lamps
    let record : CheckRecord :=
      { kind := c.kind, banks := c.banks, results := c.results, bound := c.bound, outcome := outcome }
    let ended : State := { s with lamps := { counted with lastCheck := some record } }
    let told := if c.kind = .requested then latch ended (.lampCheckDone outcome) else ended
    finishCheck s c outcome =
      if s.capture.state = .arming ∨ s.capture.state = .exposing ∨ s.lamps.waitingCheck.isSome = true
          ∨ checkHolds s.lamps = true then told
      else idleRestart told := by
  intro counted record ended told
  have kept : counted.waitingCheck = s.lamps.waitingCheck ∧ counted.holder = s.lamps.holder := by
    unfold counted
    split <;> exact ⟨rfl, rfl⟩
  have tells : told.capture = s.capture ∧ told.lamps = ended.lamps := by
    unfold told
    split <;> simp [ended]
  have held : idleHeld told = idleHeld s :=
    idleHeld_congr tells.1 (tells.2 ▸ kept.1) (tells.2 ▸ kept.2)
  have releases : finishCheck s c outcome = idleReleased told := rfl
  rw [releases, idleReleased, held]
  exact if_congr (idleHeld_iff s) rfl rfl

/-! ## The verdict on a reading (R96) -/

theorem changeOf_eq (r f : Nat) : changeOf r f = (if r < f then f - r else r - f) * 1000 / f := by
  have parted : (r - f) + (f - r) = if r < f then f - r else r - f := by
    split <;> omega
  rw [changeOf, parted]

theorem judged_eq (l : Lamps) (b : Bank) (r : Nat) (v : Verdict) :
    judged l b r v = { l with
      health := l.health.set b (if v = .failed then .failed else .good)
      fullScale := l.fullScale.set b (if v = .failed then acceptedScale l b else some r) } := by
  cases v <;> rfl

/-! ## The start and the end of a pulse (R92, R95, R115) -/

/-- The bank judged by a verdict on its reading: its health and F_b, the verdict reported. -/
def bankJudged (s : State) (b : Bank) (r : Nat) (verdict : Verdict) : State :=
  let read := settlePulse { s with lamps := { s.lamps with lastReading := s.lamps.lastReading.set b (some r) } } r
  verdictReport
    { read with lamps := { read.lamps with
        health := s.lamps.health.set b (if verdict = .failed then .failed else .good)
        fullScale := s.lamps.fullScale.set b (if verdict = .failed then acceptedScale s.lamps b else some r) } }
    b r verdict

theorem pulseEnd_eq (s : State) (c : Check) (b : Bank) (rest : List Bank) (r : Nat) :
    pulseEnd s c b rest r =
      let verdict := verdictOf (acceptedScale s.lamps b) s.lamps.tolerance s.lamps.failLimit r
      checkGoesOn (bankJudged s b r verdict)
        { c with
          remaining := rest, lit := false
          results := c.results.set b (some { reading := r, verdict := verdict }) } := by
  have lamps (u : State) : (settlePulse u r).lamps = u.lamps := by simp
  simp only [pulseEnd, bankJudged, judged_eq, setLamps, lamps]
  rfl

@[simp] theorem bankJudged_linkKept (s : State) (b : Bank) (r : Nat) (verdict : Verdict) :
    LinkKept s (bankJudged s b r verdict) := by
  cases verdict <;> simp [bankJudged, verdictReport, LinkKept]

theorem pulseStart_covered (s : State) (c : Check) (b : Bank) :
    let drawn : State := { s with lamps := { s.lamps with
      reservoir := max s.lamps.reservoir 200 - 200, holder := .check { c with lit := true }
      idleStage := .active, idleElapsed := 0, idleUs := 0 } }
    pulseStart (covered s pulseCost) c b =
      match c.bound with
      | some bound => chargePulse drawn bound b
      | none => drawn := by
  rcases hbound : c.bound with _ | bound <;>
    simp only [pulseStart, covered, pulseCost, idleRestart, setLamps, hbound]

theorem referencePulseStart_dark {s : State} {c : Check} {b : Bank} {rest : List Bank}
    (holds : s.lamps.holder = .check c) (ahead : c.remaining = b :: rest) (dark : ¬ c.lit = true) :
    exec .referencePulseStart s = .next (transmit (pulseStart (covered s pulseCost) c b)) := by
  simp [exec, execReferencePulseStart, holds, ahead, dark]

theorem referencePulseEnd_lit {s : State} {c : Check} {b : Bank} {rest : List Bank} (reading : Nat)
    (holds : s.lamps.holder = .check c) (ahead : c.remaining = b :: rest) (lit : ¬ c.lit = false) :
    exec (.referencePulseEnd reading) s
      = .next (transmit (aimRetest (pulseEnd s c b rest (min reading ratedLux)))) := by
  simp [exec, execReferencePulseEnd, holds, ahead, lit]

/-- Settles O44: the end of a check item by item, a pulse's start, and the verdict that its end gives. -/
theorem referencePulses : Obligations.ReferencePulses := by
  refine ⟨fun s c outcome => ⟨?_, rfl⟩, fun s c b rest holds ahead => ⟨?_, fun reading => ?_⟩⟩
  · rw [finishCheck_eq]
    simp only [completeCheck, oneBank_eq, bank_next_eq]
    rfl
  · split
    · next lit => simp [exec, execReferencePulseStart, holds, ahead, lit]
    · next dark =>
      have starts := referencePulseStart_dark holds ahead dark
      rw [pulseStart_covered] at starts
      refine does_of_transmit starts ?_
      split <;> simp [LinkKept]
  · split
    · next dark => simp [exec, execReferencePulseEnd, holds, ahead, dark]
    · next lit =>
      intro r read old verdict bad judged told next
      have reads : min reading ratedLux = r := by
        simp only [r, ratedLux]
        split <;> omega
      have judges : verdictOf (acceptedScale s.lamps b) s.lamps.tolerance s.lamps.failLimit r = verdict := by
        simp only [verdictOf, changeOf_eq]
        rfl
      have tells : bankJudged s b r verdict = told := by
        simp only [bankJudged, verdictReport]
        rfl
      have ends : exec (.referencePulseEnd reading) s = .next (transmit (aimRetest (checkGoesOn told next))) := by
        rw [referencePulseEnd_lit reading holds ahead lit, reads, pulseEnd_eq, judges, ← tells]
      obtain ⟨framer, queue, replies, resetting, rate⟩ : LinkKept s told := tells ▸ bankJudged_linkKept s b r verdict
      refine does_aimRetest ends ?_
      (repeat' split) <;> simp [LinkKept, framer, queue, replies, resetting, rate]

end Sys2Proof.Machine
end

-- ==== Proofs: LIGHTING_READY ====
section
/-! LightingReady: a capture entry's append written out, and the three outcomes of the confirming prediction. -/

namespace Sys2Proof.Machine

open Sys2Proof.Config

/-! ## A capture entry in the OPEN volume's record (R39, R42) -/

/-- The record after a capture's append: its entry PENDING at the end of the log. -/
def pendingRecord (s : State) (v : Volume) (take : Nat) (sides : CaptureSides) : Volume :=
  { v with
    captureCount := v.captureCount + 1
    log := v.log ++
      [{ opening := s.tracker.n.getD 0, timestamp := v.clock, body := .capture (CaptureEntry.header take sides) }] }

theorem freeEntries_pendingRecord {s : State} {slot : SlotId} {v : Volume}
    (h : openSlot? s.store.slots = some (slot, v)) (take : Nat) (sides : CaptureSides) :
    freeEntries (setSlot s slot (.opened (pendingRecord s v take sides))) = freeEntries s - 1 := by
  have used := usedEntries_set s.store.slots slot (.opened (pendingRecord s v take sides))
  have before : (s.store.slots.get slot).entryCount = v.log.length := by rw [openSlot?_get h]; rfl
  have after : (Slot.opened (pendingRecord s v take sides)).entryCount = v.log.length + 1 := by
    simp [Slot.entryCount, Slot.volume?, pendingRecord]
  rw [before, after] at used
  unfold freeEntries
  rw [setSlot_slots]
  omega

/-- A capture's append with a volume OPEN, STORE LOW latched where it is due. -/
theorem appendCapture_eq {s : State} {slot : SlotId} {v : Volume} (h : openSlot? s.store.slots = some (slot, v))
    (take : Nat) (sides : CaptureSides) :
    appendCapture s take sides =
      let stored := setSlot s slot (.opened (pendingRecord s v take sides))
      if freeEntries s ≤ 257 then latch stored (.storeLow (freeEntries s - 1)) else stored := by
  have stored : onOpen (storeEntry s (.capture (CaptureEntry.header take sides))) (fun v =>
      { v with captureCount := v.captureCount + 1 }) = setSlot s slot (.opened (pendingRecord s v take sides)) := by
    unfold storeEntry
    rw [onOpen_eq h, onOpen_eq (openSlot?_set h _), setSlot_setSlot]
    rfl
  have low : freeEntries s - 1 ≤ lowMark ↔ freeEntries s ≤ 257 := by
    unfold lowMark
    omega
  simp only [appendCapture, stored, latchLow, freeEntries_pendingRecord h, low]

/-! ## The entry into EXPOSING (R126) -/

theorem enterExposing_eq {s : State} {slot : SlotId} {v : Volume} (h : openSlot? s.store.slots = some (slot, v))
    (take : Nat) (sides : CaptureSides) (index : Nat) :
    enterExposing s take sides index =
      let exposing : State :=
        { setSlot s slot (.opened (pendingRecord s v take sides)) with
          capture :=
            { s.capture with
              state := .exposing, entry := some index, faceDoses := Sides.both 0
              trigger := { left := sides.has .left, right := sides.has .right } } }
      if freeEntries s ≤ 257 then latch exposing (.storeLow (freeEntries s - 1)) else exposing := by
  have kept (k : Condition) :
      (latch (setSlot s slot (.opened (pendingRecord s v take sides))) k).capture = s.capture := by simp
  simp only [enterExposing, appendCapture_eq h]
  split
  · rw [kept]
    exact (latch_capture _ _ _).symm
  · rfl

theorem captureAppendable_eq {s : State} {slot : SlotId} {v : Volume} (h : openSlot? s.store.slots = some (slot, v)) :
    captureAppendable s = true ↔ freeEntries s ≠ 0 := by
  simp [captureAppendable, openVolume?_eq h]

/-- The lighting ready for a capture: its prediction confirmed, then its entry appended. -/
theorem lightingReady_eq {s : State} {slot : SlotId} {v : Volume} {n : Nat} {sides : CaptureSides}
    (hopen : openSlot? s.store.slots = some (slot, v)) (hn : s.capture.opening = some n)
    (hsides : s.capture.sides = some sides) :
    lightingReady s =
      match predict v { left := 2 * n - 2, right := 2 * n - 1 } (captureDose s.lamps s.lamps.fixedBanks sides) with
      | some named => captureEndArming (doseRefused s named) .endedDose
      | none =>
        if freeEntries s = 0 then
          captureEndArming (latch (setSlot s slot (.opened { v with logComplete := false })) (.storeLost 0)) .endedStore
        else enterExposing s (s.capture.take.getD 0) sides v.log.length := by
  simp only [lightingReady, confirm, openVolume?_eq hopen, hn, hsides, captureAppendable_eq hopen, loseEntry,
    onOpen_eq hopen, ite_not]
  rfl

/-- Settles O46: the confirming prediction fails, or the log is full, or the capture enters EXPOSING. -/
theorem lightingReadyTaken : Obligations.LightingReady := by
  intro s slot v n sides hopen hn hsides
  split
  · next arming =>
    obtain ⟨holds, arms⟩ := arming
    intro full
    have ready : exec .lightingReady s = .next (transmit (aimRetest (lightingReady full))) := by
      simp [exec, execLightingReady, captureHolds_iff, holds, arms, full, covered, setLamps]
    have doses : captureDose full.lamps full.lamps.fixedBanks sides
        = captureDose s.lamps s.lamps.fixedBanks sides := rfl
    have free : freeEntries full = freeEntries s := rfl
    rw [lightingReady_eq (s := full) hopen hn hsides, doses, free] at ready
    split
    · next named fails =>
      rw [fails] at ready
      exact does_aimRetest ready (by simp [LinkKept, full])
    · next passes =>
      rw [passes] at ready
      dsimp only at ready
      split
      · next none' =>
        rw [if_pos none'] at ready
        exact does_aimRetest ready (by simp [LinkKept, full])
      · next room =>
        rw [if_neg room, enterExposing_eq (s := full) hopen, free] at ready
        refine does_aimRetest ready ?_
        split <;> simp [LinkKept, full]
  · next idle =>
    have away : ¬ (s.lamps.holder = .capture ∧ s.capture.state = .arming) := idle
    simp [exec, execLightingReady, captureHolds_iff, away]

end Sys2Proof.Machine
end

-- ==== Proofs: the exposure's events ====
section
/-! ExposureEvents: the rise by the trigger, the strobe that starts, and the fall by the side's progress. -/

namespace Sys2Proof.Machine

open Sys2Proof.Config

/-! ## A strobe that starts (R92, R111, R126) -/

theorem strobeCost_eq (l : Lamps) (banks : BankSet) (side : Side) :
    let drawn (b : Bank) : Nat :=
      if banks.get b = true then (l.drive.get b * l.duration.get side + 999) / 1000 else 0
    strobeCost l banks side = match side with | .left => drawn .la + drawn .lb | .right => drawn .ra + drawn .rb := by
  cases side <;> rfl

/-- The settle record that a strobe's charge joins: the capture's own, or a new one with the totals as they stand. -/
def strobeRecord (s : State) (slot : SlotId) (v : Volume) (n : Nat) : CaptureSettle :=
  s.dose.captureSettle.getD
    { slot := slot, faces := facesOf n
      before :=
        { left := (facesGet v.faces (2 * n - 2)).dose.total, right := (facesGet v.faces (2 * n - 1)).dose.total }
      volumeBefore := v.dose.total, predicted := Sides.both none, actual := Sides.both none }

theorem chargeStrobe_eq {s : State} {slot : SlotId} {v : Volume} {n : Nat}
    (hopen : openSlot? s.store.slots = some (slot, v)) (hn : s.capture.opening = some n) (side : Side) :
    let dose := strobeDose s.lamps s.lamps.fixedBanks side (s.lamps.duration.get side)
    let record := strobeRecord s slot v n
    chargeStrobe s side =
      charge
        { s with dose := { s.dose with
            captureSettle := some { record with predicted := record.predicted.set side (some dose) } } }
        (facesOf n) dose (some side) := by
  simp only [chargeStrobe, hopen, hn, strobeRecord]
  cases s.dose.captureSettle <;> rfl

theorem startStrobe_eq (s : State) (side : Side) :
    startStrobe s side =
      chargeStrobe
        { s with
          capture :=
            { s.capture with progress := s.capture.progress.set side .lit, litUs := s.capture.litUs.set side 0 }
          lamps :=
            { s.lamps with
              reservoir := s.lamps.reservoir - strobeCost s.lamps s.lamps.fixedBanks side
              idleStage := .active, idleElapsed := 0, idleUs := 0 } }
        side := rfl

/-! ## The events (R121, R126, R127) -/

theorem exposureActiveRise_exec (s : State) (side : Side) :
    exec (.exposureActiveRise side) s =
      .next (transmit (if s.capture.trigger.get side = false then strayFrame (countRise s side) side
        else takeRise (countRise s side) side)) := by
  cases h : s.capture.trigger.get side <;> simp [exec, execExposureActiveRise, h]

theorem strobeDelayExpiry_exec (s : State) (side : Side) :
    exec (.strobeDelayExpiry side) s =
      .next (if s.capture.state = .exposing ∧ s.capture.voiding = false ∧ s.capture.progress.get side = .delay then
        transmit (startStrobe s side) else s) := by
  simp [exec, execStrobeDelayExpiry, and_assoc]

theorem strobeEnd_exec (s : State) (side : Side) :
    exec (.strobeEnd side) s =
      .next (if s.capture.state = .exposing ∧ s.capture.progress.get side = .lit then
        transmit (aimRetest (exposurePump (endStrobe s side (s.lamps.duration.get side) .awaitFall))) else s) := by
  simp [exec, execStrobeEnd]

theorem exposureActiveFall_exec (s : State) (side : Side) :
    let fallen : State := { s with pins := { s.pins with exposureActive := s.pins.exposureActive.set side false } }
    exec (.exposureActiveFall side) s =
      .next (if s.capture.state ≠ .exposing then fallen else transmit (aimRetest (takeFall fallen side))) := by
  simp [exec, execExposureActiveFall]

@[simp] theorem takeFall_linkKept (s : State) (side : Side) : LinkKept s (takeFall s side) := by
  unfold takeFall
  split <;> simp [LinkKept, markUnder, sideDone]

/-- Settles O47: each event of the exposure by what the side awaits. -/
theorem exposureEvents : Obligations.ExposureEvents := by
  intro s side c number risen fallen
  have counts : (countRise s side).capture.counter.get side = number := by simp [countRise, number, c]
  refine ⟨?_, ?_, fun slot v n hopen hn => ?_, ?_, ?_⟩
  · have rises := exposureActiveRise_exec s side
    split
    · next stray =>
      rw [if_pos stray, strayFrame, counts] at rises
      exact does_of_transmit rises (by simp [LinkKept, risen])
    · next awaited =>
      rw [if_neg awaited, takeRise, counts] at rises
      intro delayed
      refine does_of_transmit rises ?_
      split <;> simp [LinkKept, delayed, risen]
  · have expires := strobeDelayExpiry_exec s side
    split
    · next delay =>
      exact does_of_transmit (expires.trans (congrArg _ (if_pos delay))) (by simp [LinkKept])
    · next away => exact expires.trans (congrArg _ (if_neg away))
  · intro faces dose drawn cost record
    have draws : strobeCost s.lamps s.lamps.fixedBanks side = cost := strobeCost_eq _ _ _
    rw [startStrobe_eq, draws]
    refine chargeStrobe_eq ?_ ?_ side
    exacts [hopen, hn]
  · have ends := strobeEnd_exec s side
    split
    · next lit => exact does_of_transmit (ends.trans (congrArg _ (if_pos lit))) (by simp [LinkKept])
    · next away => exact ends.trans (congrArg _ (if_neg away))
  · have falls := exposureActiveFall_exec s side
    split
    · next idle => exact falls.trans (congrArg _ (if_pos idle))
    · next exposing =>
      intro under done
      exact does_aimRetest (falls.trans (congrArg _ (if_neg exposing))) (takeFall_linkKept fallen side)

end Sys2Proof.Machine
end

-- ==== Proofs: the pedal and the hood ====
section
/-! PedalAndHood: the press by its meanings, the hood by the lines assigned to it, and the pedal's CAPTURE beside the
request's. -/

namespace Sys2Proof.Machine

open Sys2Proof.Config

/-! ## The hood (R101, R141) -/

theorem hoodFrom_iff (q : Lines Aux) :
    hoodFrom q = true ↔
      (q.aux0.func = .hood ∧ q.aux0.debounced = true) ∨ (q.aux1.func = .hood ∧ q.aux1.debounced = true)
        ∨ (q.aux2.func = .hood ∧ q.aux2.debounced = true) ∨ (q.aux3.func = .hood ∧ q.aux3.debounced = true) := by
  simp only [hoodFrom, AuxLine.all, List.any_cons, List.any_nil, Bool.or_eq_true, Bool.and_eq_true, decide_eq_true_eq,
    Bool.false_eq_true, or_false]
  rfl

theorem judgeHood_eq (s : State) :
    judgeHood s =
      if hoodFrom s.pause.lines = true then
        if s.pause.hoodOpen = true then s
        else stopTaken (hoodEndsCheck { s with pause := { s.pause with hoodOpen := true } }) .hood
      else { s with pause := { s.pause with hoodOpen := false } } := by
  have still : s = { s with pause := { s.pause with hoodOpen := s.pause.hoodOpen } } := rfl
  cases lines : hoodFrom s.pause.lines
  · cases stood : s.pause.hoodOpen
    · rw [stood] at still
      simpa [judgeHood, lines, stood] using still
    · simp [judgeHood, lines, stood, setPause]
  · cases stood : s.pause.hoodOpen <;> simp [judgeHood, lines, stood, setPause]

/-- The end of a check that waited leaves the check that holds the lighting. -/
theorem finishCheck_holder (s : State) (c : Check) (outcome : CheckOutcome) :
    (finishCheck s c outcome).lamps.holder = s.lamps.holder := by
  simp only [finishCheck, idleReleased]
  (repeat' split) <;> simp [idleRestart, completeCheck]

theorem hoodEndsCheck_eq (s : State) :
    hoodEndsCheck s =
      let waited := match s.lamps.waitingCheck with
        | some c => finishCheck { s with lamps := { s.lamps with waitingCheck := none } } c .endedHood
        | none => s
      match s.lamps.holder with
      | .check c =>
        if c.lit = true then
          { waited with lamps := { waited.lamps with holder := .check { c with hoodEnded := true } } }
        else endCheck waited c .endedHood
      | _ => waited := by
  rcases waiting : s.lamps.waitingCheck with _ | c
  · rcases holder : s.lamps.holder with _ | _ | held <;>
      simp only [hoodEndsCheck, waiting, holder, setLamps]
  · rcases holder : s.lamps.holder with _ | _ | held <;>
      simp only [hoodEndsCheck, waiting, finishCheck_holder, setLamps, holder]

/-! ## The pedal's CAPTURE beside the request's (R122, R123, R149) -/

theorem answerCapture_manual (s : State) (v : Volume) (n code : Nat) (sides : CaptureSides) (prediction : Option Nat) :
    answerCapture s v n code sides true prediction = answerCapture s v n code sides false prediction
      ∨ ∃ items, (answerCapture s v n code sides true prediction).2 = started items
          ∧ (answerCapture s v n code sides false prediction).2 = started items := by
  rcases prediction with _ | named
  · rw [answerCapture_of_fits, answerCapture_of_fits]
    split
    · exact .inl rfl
    · split
      · exact .inl rfl
      · exact .inr ⟨_, rfl, rfl⟩
  · exact .inl rfl

/-- A CAPTURE that passes checks 1 to 8 with no opening to capture is refused. -/
theorem captureArrives_of_no_opening {s : State} {code : Nat} (passes : captureRefusal? s code = none)
    (h : openVolume? s = none ∨ s.tracker.n = none ∨ captureSidesOf? code = none) (manual : Bool) :
    captureArrives code manual s = (idleRestart s, .refused .wrongState 0) := by
  have passes' : captureRefusal? (idleRestart s) code = none := passes
  simp only [captureArrives, passes']
  split
  · next hv hn hsides =>
    have hv' : openVolume? s = some _ := hv
    have hn' : s.tracker.n = some _ := hn
    simp [hv', hn', hsides] at h
  · rfl

/-- The pedal's CAPTURE and the request's differ in a capture that is STARTED alone. -/
theorem captureArrives_manual (code : Nat) (s : State) :
    captureArrives code true s = captureArrives code false s
      ∨ ∃ items, (captureArrives code true s).2 = started items ∧ (captureArrives code false s).2 = started items := by
  rcases refusal : captureRefusal? s code with _ | ⟨reason, field⟩
  · by_cases none' : openVolume? s = none ∨ s.tracker.n = none ∨ captureSidesOf? code = none
    · simp only [captureArrives_of_no_opening refusal none', true_or]
    · obtain ⟨hv, hn, hsides⟩ : (∃ v, openVolume? s = some v) ∧ (∃ n, s.tracker.n = some n)
          ∧ ∃ sides, captureSidesOf? code = some sides := by
        simpa [← ne_eq, Option.ne_none_iff_exists'] using none'
      obtain ⟨v, hv⟩ := hv
      obtain ⟨n, hn⟩ := hn
      obtain ⟨sides, hsides⟩ := hsides
      simp only [captureArrives_of_passes refusal hv hn hsides]
      exact answerCapture_manual _ _ _ _ _ _
  · simp only [captureArrives_of_refused refusal, true_or]

/-- A CAPTURE of the pedal that is taken in RUNNING starts the capture. -/
theorem captureArrives_taken {s : State} {slot : SlotId} {v : Volume} {n : Nat} {code : Nat} {sides : CaptureSides}
    (hopen : openSlot? s.store.slots = some (slot, v)) (hn : s.tracker.n = some n)
    (hsides : captureSidesOf? code = some sides) (running : s.pause.state = .running) (manual : Bool)
    (taken : (captureArrives code manual s).2.isOwn = true) :
    captureArrives code manual s = startCapture (idleRestart s) v n sides manual := by
  rcases refusal : captureRefusal? s code with _ | ⟨reason, field⟩
  · have passes := captureArrives_of_passes refusal (openVolume?_eq hopen) hn hsides manual
    rcases prediction : predict v (facesOf n) (captureDose s.lamps (firingBanks s.lamps sides) sides) with _ | named
    · rw [prediction, answerCapture_of_fits] at passes
      by_cases full : freeEntries (idleRestart s) ≤ 8 ∨ 255 ≤ takesAt v.log n
      · rw [passes, if_pos full] at taken
        cases taken
      · have unpaused : ¬ (idleRestart s).pause.state = .paused := by simp [idleRestart, running]
        rw [passes, if_neg full, if_neg unpaused]
    · rw [passes, prediction] at taken
      cases taken
  · rw [captureArrives_of_refused refusal] at taken
    cases taken

theorem captureRecord_manual (s : State) (v : Volume) (n : Nat) (sides : CaptureSides) :
    captureRecord s v n sides true =
      { captureRecord s v n sides false with manual := some true, flags := { EntryFlags.empty with manual := true } } :=
  rfl

/-! ## The press (R149) -/

theorem pedalCaptures_of_arrives (s : State) :
    pedalCaptures s =
      let out := captureArrives 1 true s
      match out.2 with
      | .refused reason _ => { out.1 with capture := { out.1.capture with lastOutcome := .refused reason } }
      | .own _ _ _ => out.1 := rfl

/-- Settles O51: the press meaning by meaning, the hood's two states, and the CAPTURE of the pedal by its checks. -/
theorem pedalAndHood : Obligations.PedalAndHood := by
  refine fun s => ⟨?_, ?_, fun code => ?_, fun slot v n hopen hn running taken => ?_, hoodEndsCheck_eq s⟩
  · have captures : (s.capture.pedalCapture && s.pause.state = .running
        && (s.capture.state = .none || s.capture.state = .released)) = true
        ↔ s.capture.pedalCapture = true ∧ s.pause.state = .running
          ∧ (s.capture.state = .none ∨ s.capture.state = .released) := by
      simp only [Bool.and_eq_true, Bool.or_eq_true, decide_eq_true_eq, and_assoc]
    refine if_congr Iff.rfl rfl (if_congr Iff.rfl (acceptCapture_eq _) (if_congr captures ?_ rfl))
    exact pedalCaptures_of_arrives _
  · exact (judgeHood_eq s).trans (if_congr (hoodFrom_iff _) rfl rfl)
  · rcases captureArrives_manual code s with same | ⟨items, manual, request⟩
    · exact ⟨congrArg Prod.snd same, fun _ => same⟩
    · exact ⟨manual.trans request.symm, fun differs => absurd request (differs items)⟩
  · rw [captureArrives_taken hopen hn (code := 1) rfl running true taken, startCapture, captureRecord_manual,
      captureRecord_eq (code := 1) rfl]
    rfl

end Sys2Proof.Machine
end

-- ==== Proofs: predictions and charges ====
section
/-! PredictedChargesKeepTheAllowances: the three tests of a prediction, the totals that a charge leaves, the doses that
each is made of, and the warnings. -/

namespace Sys2Proof.Machine

open Sys2Proof.Config

/-! ## Totals (R107) -/

@[simp] theorem dose_total_add (d : Dose) (more : Nat) : (d.add more).total = d.total + more := by
  simp only [Dose.total, Dose.add]
  omega

/-- The face totals after a charge: its two doses added to its two faces. -/
theorem chargeVolume_face_total {v : Volume} (wf : facesWf v.faces = true) (faces dose : Sides Nat) (own : Option Side)
    (f : Nat) :
    (facesGet (chargeVolume faces dose own v).faces f).dose.total =
      if f = faces.right then (facesGet v.faces faces.right).dose.total + dose.right
      else if f = faces.left then (facesGet v.faces faces.left).dose.total + dose.left
      else (facesGet v.faces f).dose.total := by
  simp only [chargeVolume, facesGet_set (facesSet_wf wf _ _), facesGet_set wf, eq_comm (a := f)]
  split
  · exact dose_total_add _ _
  · split
    · exact dose_total_add _ _
    · rfl

theorem chargeVolume_total (faces dose : Sides Nat) (own : Option Side) (v : Volume) :
    (chargeVolume faces dose own v).dose.total = v.dose.total + dose.left + dose.right := by
  simp only [chargeVolume, dose_total_add, Nat.add_assoc]

/-! ## Predictions (R108) -/

theorem predict_eq_none (v : Volume) (faces dose : Sides Nat) :
    predict v faces dose = none ↔
      (facesGet v.faces faces.left).dose.total + dose.left ≤ v.profile.pageAllowance * 1000
        ∧ (facesGet v.faces faces.right).dose.total + dose.right ≤ v.profile.pageAllowance * 1000
        ∧ v.dose.total + dose.left + dose.right ≤ v.profile.volumeAllowance * 1000 := by
  unfold predict
  (repeat' split) <;> simp <;> omega

/-- A charge whose prediction passes keeps the allowances. -/
theorem chargeVolume_within {v : Volume} {faces dose : Sides Nat} (wf : facesWf v.faces = true)
    (passes : predict v faces dose = none) (own : Option Side) :
    (∀ f, (facesGet v.faces f).dose.total ≤ v.profile.pageAllowance * 1000 →
        (facesGet (chargeVolume faces dose own v).faces f).dose.total ≤ v.profile.pageAllowance * 1000)
      ∧ (chargeVolume faces dose own v).dose.total ≤ v.profile.volumeAllowance * 1000 := by
  obtain ⟨left, right, whole⟩ := (predict_eq_none v faces dose).mp passes
  refine ⟨fun f before => ?_, by rwa [chargeVolume_total]⟩
  rw [chargeVolume_face_total wf]
  split
  · exact right
  · split
    · exact left
    · exact before

/-! ## The doses of flashes and of the aiming light (R105, R106, R116) -/

/-- The illuminance of a bank that fires at its drive. -/
def firedLux (l : Lamps) (banks : BankSet) (b : Bank) : Nat :=
  if banks.get b = true then ((l.fullScale.get b).getD 0 * l.drive.get b + 999) / 1000 else 0

theorem strobeLux_eq (l : Lamps) (banks : BankSet) (side : Side) :
    strobeLux l banks side = match side with
      | .left => firedLux l banks .la + firedLux l banks .lb
      | .right => firedLux l banks .ra + firedLux l banks .rb := by
  cases side <;> simp [strobeLux, sumSide, firedLux, bankLux_eq]

theorem captureDose_eq (l : Lamps) (banks : BankSet) (sides : CaptureSides) :
    captureDose l banks sides =
      let left := strobeDose l banks .left l.duration.left
      let right := strobeDose l banks .right l.duration.right
      match sides with
      | .both => addSides left right
      | .left => left
      | .right => right := by
  cases sides <;> simp [captureDose, CaptureSides.has, addSides, Sides.both]

/-! ## The doses of a check (R114) -/

theorem pulseDose_rated (l : Lamps) (b : Bank) : pulseDose l b ratedLux = onFaces b.side 12000 (12 * l.spill) := by
  have own : ceilDiv (60000 * 200) 1000 = 12000 := by decide
  have spill : ceilDiv (ceilDiv (60000 * l.spill) 1000 * 200) 1000 = 12 * l.spill := by
    simp only [ceilDiv]
    omega
  simp only [pulseDose, flashDose, spillLux, ratedLux, pulseTime, own, spill]

/-- The dose of a bank's pulse, if the bank is in the set. -/
def bankPulse (l : Lamps) (banks : BankSet) (b : Bank) : Sides Nat :=
  if banks.get b = true then onFaces b.side 12000 (12 * l.spill) else Sides.both 0

theorem checkDose_eq (l : Lamps) (banks : BankSet) :
    checkDose l banks =
      addSides (addSides (addSides (bankPulse l banks .la) (bankPulse l banks .lb)) (bankPulse l banks .ra))
        (bankPulse l banks .rb) := by
  have adds (sum : Sides Nat) (b : Bank) :
      (if banks.get b = true then addSides sum (pulseDose l b ratedLux) else sum)
        = addSides sum (bankPulse l banks b) := by
    unfold bankPulse
    split
    · rw [pulseDose_rated]
    · rfl
  have zero (d : Sides Nat) : addSides (Sides.both 0) d = d := by simp [addSides, Sides.both]
  simp only [checkDose, Bank.all, List.foldl_cons, List.foldl_nil, adds, zero]

/-! ## Warnings (R119) -/

theorem warnOne_eq (s : State) (level before after named : Nat) :
    warnOne s level before after named =
      if before < level ∧ level ≤ after then latch s (.doseWarn named) else s := by
  simp only [warnOne, crosses, Bool.and_eq_true, decide_eq_true_eq]

theorem charge_eq {s : State} {slot : SlotId} {v : Volume} (h : openSlot? s.store.slots = some (slot, v))
    (faces dose : Sides Nat) (own : Option Side) :
    let w := chargeVolume faces dose own v
    let page := v.profile.pageAllowance * v.profile.warning * 10
    let judged (u : State) (f : Nat) : State :=
      warnOne u page (facesGet v.faces f).dose.total (facesGet w.faces f).dose.total f
    charge s faces dose own =
      warnOne (judged (judged (setSlot s slot (.opened w)) faces.left) faces.right)
        (v.profile.volumeAllowance * v.profile.warning * 10) v.dose.total w.dose.total 65535 := by
  simp only [charge, openVolume?_eq h, onOpen_eq h]
  rfl

/-- Settles O24: the three tests, the doses summed bank by bank, and the warnings total by total. -/
theorem predictedChargesKeepTheAllowances : Obligations.PredictedChargesKeepTheAllowances := by
  refine ⟨fun faces dose own v wf distinct => ?_, fun l banks level t sides => ?_,
    fun s slot v faces dose own hopen => ?_, fun s c more => ?_, fun s side actual reading => by simp⟩
  · intro page whole
    refine ⟨predict_eq_none v faces dose, fun left => if_pos left, fun left right => ?_, fun left right total => ?_,
      fun passes => chargeVolume_within wf passes own⟩
    · exact (if_neg (Nat.not_lt.mpr left)).trans (if_pos right)
    · exact (if_neg (Nat.not_lt.mpr left)).trans ((if_neg (Nat.not_lt.mpr right)).trans (if_pos total))
  · intro up lux fired aimed strobe aim gives onLeft onRight
    have hleft (t : Nat) : strobeDose l banks .left t
        = { left := (gives strobe.left t).1, right := (gives strobe.left t).2 } := by
      rw [strobeDose, strobeLux_eq]
      rfl
    have hright (t : Nat) : strobeDose l banks .right t
        = { left := (gives strobe.right t).2, right := (gives strobe.right t).1 } := by
      rw [strobeDose, strobeLux_eq]
      rfl
    refine ⟨hleft t, hright t, ?_, ?_⟩
    · rw [captureDose_eq, hleft, hright]
      cases sides <;> rfl
    · simp only [aimFaces, aimLux_eq]
      rfl
  · intro w warns face
    rw [charge_eq hopen]
    simp only [warnOne_eq]
    rfl
  · intro own spill pulses
    have hdose : checkDose s.lamps c.banks = pulses := by
      rw [checkDose_eq]
      simp only [addSides, bankPulse, apply_ite Sides.left, apply_ite Sides.right, onFaces, Bank.side, Sides.both]
      simp only [pulses, own, spill, Sides.mk.injEq]
      exact ⟨trivial, by ac_rfl⟩
    refine ⟨hdose, rfl, rfl, fun b => ?_⟩
    rw [predictCheck_eq, predictBound, hdose]
    rfl

end Sys2Proof.Machine
end

-- ==== Proofs: idle steps ====
section
/-! IdleStepsChargeTheReservoir: the counters that a microsecond moves, taken apart from the state, and where each of
them stands after `n` microseconds. -/

namespace Sys2Proof.Machine

open Sys2Proof.Config

/-! ## The counters that a microsecond moves -/

/-- What one microsecond moves in a state. -/
structure Counters where
  reservoir : Nat
  reservoirUs : Nat
  settleUs : Nat
  idleElapsed : Nat
  idleUs : Nat
  aiming : Option AimInterval
  litUs : Sides Nat

def countersOf (s : State) : Counters :=
  { reservoir := s.lamps.reservoir, reservoirUs := s.lamps.reservoirUs, settleUs := s.lamps.settleUs
    idleElapsed := s.lamps.idleElapsed, idleUs := s.lamps.idleUs, aiming := s.dose.aiming, litUs := s.capture.litUs }

/-- A state with its counters replaced and nothing else. -/
def withCounters (s : State) (c : Counters) : State :=
  { s with
    lamps :=
      { s.lamps with
        reservoir := c.reservoir, reservoirUs := c.reservoirUs, settleUs := c.settleUs
        idleElapsed := c.idleElapsed, idleUs := c.idleUs }
    dose := { s.dose with aiming := c.aiming }
    capture := { s.capture with litUs := c.litUs } }

/-- The lit time of a side's strobe after one microsecond (R127). -/
def countLit (s : State) (us : Sides Nat) (side : Side) : Nat :=
  if s.capture.progress.get side = .lit then min (us.get side + 1) (s.lamps.duration.get side) else us.get side

/-- Each counter one microsecond on, in a state whose other items are those of `s`. -/
def count (s : State) (c : Counters) : Counters :=
  { reservoir :=
      if s.lamps.supply = .off ∨ c.reservoirUs + 1 < 1000 then c.reservoir else min (c.reservoir + 100) 80000
    reservoirUs :=
      if s.lamps.supply = .off then c.reservoirUs else if c.reservoirUs + 1 < 1000 then c.reservoirUs + 1 else 0
    settleUs :=
      if s.lamps.supply = .settling then min (c.settleUs + 1) (s.lamps.settleRun * 1000) else c.settleUs
    idleElapsed :=
      if idleHeld s = true ∨ s.lamps.idleStage = .expired ∨ c.idleUs + 1 < 1000000 then c.idleElapsed
      else if c.idleElapsed + 1 < idleNext s.lamps then c.idleElapsed + 1
      else c.idleElapsed
    idleUs :=
      if idleHeld s = true ∨ s.lamps.idleStage = .expired then c.idleUs
      else if c.idleUs + 1 < 1000000 then c.idleUs + 1
      else if c.idleElapsed + 1 < idleNext s.lamps then 0
      else c.idleUs
    aiming := c.aiming.map aimTick
    litUs := { left := countLit s c.litUs .left, right := countLit s c.litUs .right } }

theorem reservoirTick_eq (l : Lamps) :
    reservoirTick l = { l with
      reservoir :=
        if l.supply = .off ∨ l.reservoirUs + 1 < 1000 then l.reservoir else min (l.reservoir + 100) 80000
      reservoirUs :=
        if l.supply = .off then l.reservoirUs else if l.reservoirUs + 1 < 1000 then l.reservoirUs + 1 else 0 } := by
  unfold reservoirTick
  by_cases off : l.supply = .off
  · rw [if_pos off, if_pos off, if_pos (.inl off)]
  · by_cases within : l.reservoirUs + 1 < 1000 <;> simp [off, within, reservoirFull]

theorem settleTick_eq (l : Lamps) :
    settleTick l = { l with
      settleUs := if l.supply = .settling then min (l.settleUs + 1) (l.settleRun * 1000) else l.settleUs } := by
  unfold settleTick
  split <;> rfl

theorem idleTick_eq (l : Lamps) :
    idleTick l = { l with
      idleElapsed :=
        if l.idleStage = .expired ∨ l.idleUs + 1 < 1000000 then l.idleElapsed
        else if l.idleElapsed + 1 < idleNext l then l.idleElapsed + 1
        else l.idleElapsed
      idleUs :=
        if l.idleStage = .expired then l.idleUs
        else if l.idleUs + 1 < 1000000 then l.idleUs + 1
        else if l.idleElapsed + 1 < idleNext l then 0
        else l.idleUs } := by
  unfold idleTick
  by_cases expired : l.idleStage = .expired
  · rw [if_pos expired, if_pos expired, if_pos (.inl expired)]
  · by_cases within : l.idleUs + 1 < 1000000
    · simp [expired, within]
    · by_cases short : l.idleElapsed + 1 < idleNext l <;> simp [expired, within, short]

theorem tick_withCounters (s : State) (c : Counters) : tick (withCounters s c) = withCounters s (count s c) := by
  have held : idleHeld (withCounters s c) = idleHeld s := rfl
  simp only [tick, held, idleTick_eq, reservoirTick_eq, settleTick_eq]
  cases h : idleHeld s
  · simp only [withCounters, count, h, Bool.false_eq_true, false_or, if_false]
    rfl
  · simp only [withCounters, count, h, true_or, if_true]
    rfl

/-- After `n` microseconds the counters alone have moved. -/
theorem tick_iterate (s : State) (n : Nat) : tick^[n] s = withCounters s ((count s)^[n] (countersOf s)) := by
  induction n with
  | zero => rfl
  | succ n ih => rw [Function.iterate_succ_apply', Function.iterate_succ_apply', ih, tick_withCounters]

/-! ## Each counter after `n` microseconds (R83, R90, R92, R104, R127) -/

theorem reservoir_off {s : State} (off : s.lamps.supply = .off) (c : Counters) (n : Nat) :
    ((count s)^[n] c).reservoir = c.reservoir := by
  induction n with
  | zero => rfl
  | succ n ih => simp [Function.iterate_succ_apply', count, off, ih]

theorem reservoir_charges {s : State} (on : s.lamps.supply ≠ .off) {c : Counters} (hus : c.reservoirUs < 1000)
    (hfull : c.reservoir ≤ 80000) (n : Nat) :
    ((count s)^[n] c).reservoir = min 80000 (c.reservoir + 100 * ((c.reservoirUs + n) / 1000))
      ∧ ((count s)^[n] c).reservoirUs = (c.reservoirUs + n) % 1000 := by
  induction n with
  | zero =>
    simp only [Function.iterate_zero, id_eq]
    omega
  | succ n ih =>
    obtain ⟨reservoir, us⟩ := ih
    simp only [Function.iterate_succ_apply', count, on, false_or, if_false, reservoir, us]
    split <;> omega

theorem settleUs_counts (s : State) {c : Counters} (h : c.settleUs ≤ s.lamps.settleRun * 1000) (n : Nat) :
    ((count s)^[n] c).settleUs =
      if s.lamps.supply = .settling then min (c.settleUs + n) (s.lamps.settleRun * 1000) else c.settleUs := by
  induction n with
  | zero =>
    simp only [Function.iterate_zero, id_eq]
    split <;> omega
  | succ n ih =>
    simp only [Function.iterate_succ_apply', count, ih]
    split <;> omega

theorem idle_stands {s : State} (h : idleHeld s = true ∨ s.lamps.idleStage = .expired) (c : Counters) (n : Nat) :
    ((count s)^[n] c).idleElapsed = c.idleElapsed ∧ ((count s)^[n] c).idleUs = c.idleUs := by
  induction n with
  | zero => exact ⟨rfl, rfl⟩
  | succ n ih =>
    simp only [Function.iterate_succ_apply', count, ← or_assoc, h, true_or, if_true, ih, and_self]

/-- The idle timer in microseconds counts up to just below the second at which its next interval would be reached. -/
theorem idle_counts {s : State} (counts : ¬ (idleHeld s = true ∨ s.lamps.idleStage = .expired)) {c : Counters}
    (hus : c.idleUs < 1000000) (n : Nat) :
    ((count s)^[n] c).idleElapsed * 1000000 + ((count s)^[n] c).idleUs
        = min (c.idleElapsed * 1000000 + c.idleUs + n) (max c.idleElapsed (idleNext s.lamps - 1) * 1000000 + 999999)
      ∧ ((count s)^[n] c).idleUs < 1000000 := by
  induction n with
  | zero =>
    simp only [Function.iterate_zero, id_eq]
    omega
  | succ n ih =>
    obtain ⟨total, below⟩ := ih
    simp only [Function.iterate_succ_apply', count, ← or_assoc, counts, false_or, if_false]
    (repeat' split) <;> omega

theorem idleElapsed_counts {s : State} (counts : ¬ (idleHeld s = true ∨ s.lamps.idleStage = .expired)) {c : Counters}
    (hus : c.idleUs < 1000000) (n : Nat) :
    ((count s)^[n] c).idleElapsed
      = max c.idleElapsed (min (c.idleElapsed + (c.idleUs + n) / 1000000) (idleNext s.lamps - 1)) := by
  obtain ⟨total, below⟩ := idle_counts counts hus n
  omega

theorem aiming_none {s : State} {c : Counters} (h : c.aiming = none) (n : Nat) : ((count s)^[n] c).aiming = none := by
  induction n with
  | zero => exact h
  | succ n ih => rw [Function.iterate_succ_apply', count, ih, Option.map_none]

theorem aiming_counts {s : State} {c : Counters} {iv : AimInterval} (h : c.aiming = some iv)
    (hus : iv.elapsedUs ≤ 99999) (n : Nat) :
    ((count s)^[n] c).aiming = some { iv with elapsedUs := min (iv.elapsedUs + n) 99999 } := by
  induction n with
  | zero => simp [h, hus]
  | succ n ih =>
    have elapsed : min (min (iv.elapsedUs + n) 99999 + 1) 99999 = min (iv.elapsedUs + (n + 1)) 99999 := by omega
    simp only [Function.iterate_succ_apply', count, ih, Option.map_some, aimTick, elapsed]

theorem litUs_counts (s : State) {c : Counters} {side : Side} (h : c.litUs.get side ≤ s.lamps.duration.get side)
    (n : Nat) :
    ((count s)^[n] c).litUs.get side =
      if s.capture.progress.get side = .lit then min (c.litUs.get side + n) (s.lamps.duration.get side)
      else c.litUs.get side := by
  induction n with
  | zero =>
    simp only [Function.iterate_zero, id_eq]
    split <;> omega
  | succ n ih =>
    have counts (c : Counters) : (count s c).litUs.get side = countLit s c.litUs side := by cases side <;> rfl
    rw [Function.iterate_succ_apply', counts, countLit, ih]
    split <;> omega

theorem step_idle {s : State} (h : s.pending = []) : step s = .next (tick s) := by
  simp only [step, h]

/-- Settles O3, by induction on the number of steps, one counter at a time. -/
theorem idleStepsChargeTheReservoir : Obligations.IdleStepsChargeTheReservoir := by
  intro s n waits hreservoirUs hreservoir hidleUs l t held next
  have moved : t = withCounters s ((count s)^[n] (countersOf s)) := tick_iterate s n
  have hheld : idleHeld s = true ↔ held := by
    simp only [idleHeld, checkActive, Bool.or_eq_true, captureRuns_iff, checkHolds_iff, or_assoc]
    rfl
  have hnext : idleNext l = next := by
    unfold idleNext next
    cases l.idleStage <;> rfl
  have idle : t.pending = [] := moved ▸ waits
  refine ⟨?_, ?_, fun stands => ?_, fun free running => ?_, fun settles => ?_, ?_, ?_, fun dark => ?_,
    fun iv lit below => ?_, ?_, fun side below => ?_, ?_⟩
  · rw [Function.iterate_succ_apply']
    exact step_idle idle
  · split
    · next off => exact moved ▸ reservoir_off off (countersOf s) n
    · next on => exact moved ▸ (reservoir_charges on (c := countersOf s) hreservoirUs hreservoir n).1
  · exact moved ▸ idle_stands (stands.imp_left hheld.mpr) (countersOf s) n
  · have counts : ¬ (idleHeld s = true ∨ s.lamps.idleStage = .expired) := not_or.mpr ⟨mt hheld.mp free, running⟩
    rw [← hnext]
    exact moved ▸ idleElapsed_counts counts (c := countersOf s) hidleUs n
  · exact moved ▸ settleUs_counts s (c := countersOf s) settles n
  · rw [moved]; rfl
  · rw [moved]; rfl
  · exact moved ▸ aiming_none (c := countersOf s) dark n
  · exact moved ▸ aiming_counts (c := countersOf s) lit below n
  · rw [moved]; rfl
  · exact moved ▸ litUs_counts s (c := countersOf s) below n
  · exact ⟨moved ▸ rfl, moved ▸ rfl, moved ▸ rfl, moved ▸ rfl, moved ▸ rfl, moved ▸ rfl, moved ▸ rfl, moved ▸ rfl, idle⟩

end Sys2Proof.Machine
end

-- ==== Proofs: charges and settles ====
section
/-! ChargeIsExact and SettlesNeverRaise: the two face records and the volume total that a charge and a settle write,
and the doses at an actual duration or reading against the predicted ones. -/

namespace Sys2Proof.Machine

open Sys2Proof.Config

/-! ## Two face records written (R107) -/

@[simp] theorem dose_total_ofTotal (t : Nat) : (Dose.ofTotal t).total = t := by
  simp only [Dose.total, Dose.ofTotal]
  omega

theorem dose_add_rem_lt (d : Dose) (more : Nat) : (d.add more).rem < 1000 := Nat.mod_lt _ (by decide)

theorem dose_ofTotal_rem_lt (t : Nat) : (Dose.ofTotal t).rem < 1000 := Nat.mod_lt _ (by decide)

/-- The faces of an account written, its left one first: each reads what was written to it. -/
theorem facesGet_written {fs : List (Nat × FaceRec)} (wf : facesWf fs = true) {faces : Sides Nat}
    (distinct : faces.left ≠ faces.right) (records : Sides FaceRec) (side : Side) :
    facesGet (facesSet (facesSet fs faces.left records.left) faces.right records.right) (faces.get side)
      = records.get side := by
  rw [facesGet_set (facesSet_wf wf _ _), facesGet_set wf]
  cases side
  · simp [Sides.get, Ne.symm distinct]
  · simp [Sides.get]

theorem facesGet_unwritten {fs : List (Nat × FaceRec)} (wf : facesWf fs = true) {faces : Sides Nat}
    (records : Sides FaceRec) {f : Nat} (left : f ≠ faces.left) (right : f ≠ faces.right) :
    facesGet (facesSet (facesSet fs faces.left records.left) faces.right records.right) f = facesGet fs f := by
  rw [facesGet_set (facesSet_wf wf _ _), facesGet_set wf, if_neg right.symm, if_neg left.symm]

section

variable {v : Volume} (wf : facesWf v.faces = true) {faces : Sides Nat} (distinct : faces.left ≠ faces.right)
include wf distinct

/-- A face's record after a charge: its dose added, its exposure counted for the side whose strobe it is. -/
theorem chargeVolume_face (dose : Sides Nat) (own : Option Side) (side : Side) :
    facesGet (chargeVolume faces dose own v).faces (faces.get side) =
      { dose := (facesGet v.faces (faces.get side)).dose.add (dose.get side)
        exposures :=
          if own = some side then min ((facesGet v.faces (faces.get side)).exposures + 1) hold16
          else (facesGet v.faces (faces.get side)).exposures } := by
  cases side
  · exact facesGet_written wf distinct { left := _, right := _ } .left
  · exact facesGet_written wf distinct { left := _, right := _ } .right

/-- A face's record after a settle: its total rewritten, its count left. -/
theorem settleVolume_face (totals : Sides Nat) (volumeTotal : Nat) (side : Side) :
    facesGet (settleVolume faces totals volumeTotal v).faces (faces.get side) =
      { facesGet v.faces (faces.get side) with dose := Dose.ofTotal (totals.get side) } := by
  cases side
  · exact facesGet_written wf distinct { left := _, right := _ } .left
  · exact facesGet_written wf distinct { left := _, right := _ } .right

theorem settleVolume_rewritten (totals : Sides Nat) (volumeTotal : Nat) :
    Rewritten v (settleVolume faces totals volumeTotal v) faces totals volumeTotal := by
  refine ⟨settleVolume_wf wf _ _ _, fun side => ?_, dose_total_ofTotal _, dose_ofTotal_rem_lt _,
    fun f left right => facesGet_unwritten wf { left := _, right := _ } left right, rfl⟩
  rw [settleVolume_face wf distinct]
  exact ⟨dose_total_ofTotal _, dose_ofTotal_rem_lt _, rfl⟩

end

/-! ## A charge is one write to the OPEN volume (R30, R107) -/

theorem charge_none {s : State} (h : openSlot? s.store.slots = none) (faces dose : Sides Nat) (own : Option Side) :
    charge s faces dose own = s := by
  simp [charge, openVolume?, h]

theorem charge_store {s : State} {slot : SlotId} {v : Volume} (h : openSlot? s.store.slots = some (slot, v))
    (faces dose : Sides Nat) (own : Option Side) :
    (charge s faces dose own).store
      = { s.store with slots := s.store.slots.set slot (.opened (chargeVolume faces dose own v)) } := by
  rw [charge_eq h]
  simp only [warnOne_frame]
  rfl

/-- What the Dose Unit notes before its charge does not concern the store. -/
theorem charge_noted_store {s : State} {slot : SlotId} {v : Volume} (h : openSlot? s.store.slots = some (slot, v))
    (noted : DoseUnit) (faces dose : Sides Nat) (own : Option Side) :
    (charge { s with dose := noted } faces dose own).store
      = { s.store with slots := s.store.slots.set slot (.opened (chargeVolume faces dose own v)) } :=
  charge_store (s := { s with dose := noted }) h faces dose own

/-- A settle finds no OPEN volume in its slot, and the store takes nothing. -/
theorem onOpenSlot_not_opened {s : State} {i : SlotId} (h : (s.store.slots.get i).state ≠ .opened)
    (f : Volume → Volume) : onOpenSlot s i f = s := by
  unfold onOpenSlot
  split
  · next v hv => exact absurd (by rw [hv]; rfl) h
  · rfl

theorem onOpenSlot_opened {s : State} {i : SlotId} {v : Volume} (h : s.store.slots.get i = .opened v)
    (f : Volume → Volume) : onOpenSlot s i f = setSlot s i (.opened (f v)) := by
  simp only [onOpenSlot, h]

theorem chargePulse_eq {s : State} {bound : BoundFaces} {v : Volume}
    (h : openSlot? s.store.slots = some (bound.slot, v)) (b : Bank) :
    chargePulse s bound b =
      charge
        { s with dose := { s.dose with
            pulseSettle := some
              { bound := bound
                before :=
                  { left := (facesGet v.faces bound.faces.left).dose.total
                    right := (facesGet v.faces bound.faces.right).dose.total }
                volumeBefore := v.dose.total, bank := b, predicted := pulseDose s.lamps b ratedLux } } }
        bound.faces (pulseDose s.lamps b ratedLux) none := by
  simp only [chargePulse, openSlot?_get h, Slot.opened?]

theorem settleStrobe_eq {s : State} {q : CaptureSettle} (hq : s.dose.captureSettle = some q) (side : Side)
    (actual : Nat) :
    let q' : CaptureSettle :=
      { q with actual := q.actual.set side (some (strobeDose s.lamps s.lamps.fixedBanks side actual)) }
    settleStrobe s side actual =
      onOpenSlot { s with dose := { s.dose with captureSettle := some q' } } q.slot
        (settleVolume q.faces (addSides q.before (countedTotal q'))
          (q.volumeBefore + (countedTotal q').left + (countedTotal q').right)) := by
  simp only [settleStrobe, hq]

theorem settlePulse_eq {s : State} {p : PulseSettle} (hp : s.dose.pulseSettle = some p) (reading : Nat) :
    let actual := pulseDose s.lamps p.bank reading
    settlePulse s reading =
      onOpenSlot { s with dose := { s.dose with pulseSettle := none } } p.bound.slot
        (settleVolume p.bound.faces (addSides p.before actual) (p.volumeBefore + actual.left + actual.right)) := by
  simp only [settlePulse, hp]

/-- Settles O23: the records that a charge and a settle write, read back, and the one slot they are written to. -/
theorem chargeIsExact : Obligations.ChargeIsExact := by
  refine ⟨fun faces dose own v wf distinct => ?_, fun faces totals t v wf distinct => settleVolume_rewritten wf distinct
    totals t, fun s faces dose own => ⟨fun h => charge_none h _ _ _, fun slot v h => charge_store h _ _ _⟩,
    fun s slot v hopen => ?_, fun s => ⟨fun side actual gone => ?_, fun reading gone => ?_⟩⟩
  · refine ⟨chargeVolume_wf wf _ _ _, fun side => ?_, chargeVolume_total _ _ _ _, dose_add_rem_lt _ _,
      fun f left right => facesGet_unwritten wf { left := _, right := _ } left right, rfl⟩
    rw [chargeVolume_face wf distinct]
    exact ⟨dose_total_add _ _, dose_add_rem_lt _ _, rfl⟩
  · refine ⟨fun side n hn => ?_, fun bound b hslot => ?_, fun n hn => ?_⟩
    · rw [chargeStrobe_eq hopen hn]
      exact charge_noted_store hopen _ _ _ _
    · subst hslot
      rw [chargePulse_eq hopen]
      exact charge_noted_store hopen _ _ _ _
    · intro faces lux dose passes
      rw [aimStart_of_passes hopen hn rfl passes]
      exact charge_noted_store hopen _ _ _ _
  · rcases hr : s.dose.captureSettle with _ | r
    · simp only [settleStrobe, hr]
    · rw [settleStrobe_eq hr, onOpenSlot_not_opened (by exact gone r hr)]
  · rcases hp : s.dose.pulseSettle with _ | p
    · simp only [settlePulse, hp]
    · rw [settlePulse_eq hp, onOpenSlot_not_opened (by exact gone p hp)]

/-! ## Actual doses against predicted ones (R106, R114) -/

theorem onFaces_get (side : Side) (own other : Nat) (face : Side) :
    (onFaces side own other).get face = if face = side then own else other := by
  cases side <;> cases face <;> rfl

theorem ceilDiv_mono {a b : Nat} (h : a ≤ b) (d : Nat) : ceilDiv a d ≤ ceilDiv b d :=
  Nat.div_le_div_right (by omega)

/-- A flash that is no brighter and no longer gives neither face more. -/
theorem flashDose_mono (l : Lamps) (side : Side) {lux lux' t t' : Nat} (hlux : lux ≤ lux') (ht : t ≤ t')
    (face : Side) : (flashDose l side lux t).get face ≤ (flashDose l side lux' t').get face := by
  have spill : spillLux l lux ≤ spillLux l lux' := ceilDiv_mono (Nat.mul_le_mul_right _ hlux) _
  simp only [flashDose, onFaces_get]
  split
  · exact ceilDiv_mono (Nat.mul_le_mul hlux ht) _
  · exact ceilDiv_mono (Nat.mul_le_mul spill ht) _

theorem strobeDose_mono (l : Lamps) (banks : BankSet) (side : Side) {t t' : Nat} (h : t ≤ t') (face : Side) :
    (strobeDose l banks side t).get face ≤ (strobeDose l banks side t').get face :=
  flashDose_mono l side (le_refl _) h face

theorem pulseDose_mono (l : Lamps) (b : Bank) {r r' : Nat} (h : r ≤ r') (face : Side) :
    (pulseDose l b r).get face ≤ (pulseDose l b r').get face :=
  flashDose_mono l b.side h (le_refl _) face

/-! ## What a settle makes of the account and of its record (R112, R115) -/

theorem countedDose_eq (q : CaptureSettle) (side : Side) : countedDose q side = strobeCounts q side := by
  unfold countedDose strobeCounts
  cases q.actual.get side <;> cases q.predicted.get side <;> rfl

theorem countedTotal_get (q : CaptureSettle) (face : Side) :
    (countedTotal q).get face = (strobeCounts q .left).get face + (strobeCounts q .right).get face := by
  simp only [countedTotal, countedDose_eq]
  cases face <;> rfl

theorem mayStillStart_iff (c : Capture) (side : Side) :
    mayStillStart c side = true ↔
      c.voiding = false ∧ c.state = .exposing ∧ (c.progress.get side = .triggered ∨ c.progress.get side = .delay) := by
  simp [mayStillStart, and_assoc]

theorem strobesOutstanding_iff (c : Capture) :
    StrobesOutstanding c ↔
      (∃ side, c.progress.get side = .lit) ∨ ∃ side, mayStillStart c side = true := by
  have two (P : Side → Prop) : (∃ side, P side) ↔ P .left ∨ P .right :=
    ⟨fun ⟨side, h⟩ => match side, h with | .left, h => .inl h | .right, h => .inr h,
      fun h => h.elim (fun h => ⟨_, h⟩) fun h => ⟨_, h⟩⟩
  simp only [StrobesOutstanding, mayStillStart_iff, two, Sides.get]
  tauto

/-- The settle record stays while a strobe is lit or may start, and is handed over as the face doses otherwise. -/
theorem closeSettle_eq {s : State} {q : CaptureSettle} (hq : s.dose.captureSettle = some q) :
    closeSettle s =
      if StrobesOutstanding s.capture then s
      else
        { s with
          dose := { s.dose with captureSettle := none }
          capture := { s.capture with faceDoses := countedTotal q } } := by
  simp only [closeSettle, hq]
  refine if_congr ?_ rfl rfl
  rw [strobesOutstanding_iff]
  simp only [Bool.or_eq_true, decide_eq_true_eq]
  constructor
  · rintro (((h | h) | h) | h)
    · exact .inl ⟨.left, h⟩
    · exact .inl ⟨.right, h⟩
    · exact .inr ⟨.left, h⟩
    · exact .inr ⟨.right, h⟩
  · rintro (⟨_ | _, h⟩ | ⟨_ | _, h⟩)
    · exact .inl (.inl (.inl h))
    · exact .inl (.inl (.inr h))
    · exact .inl (.inr h)
    · exact .inr h

theorem endStrobe_eq {s : State} {q : CaptureSettle} {v : Volume} (hq : s.dose.captureSettle = some q)
    (hv : s.store.slots.get q.slot = .opened v) (side : Side) (actual : Nat) (next : Progress) :
    let q' : CaptureSettle :=
      { q with actual := q.actual.set side (some (strobeDose s.lamps s.lamps.fixedBanks side actual)) }
    endStrobe s side actual next =
      closeSettle
        { s with
          capture :=
            { s.capture with
              duration := s.capture.duration.set side actual
              progress := s.capture.progress.set side next, litUs := s.capture.litUs.set side 0 }
          dose := { s.dose with captureSettle := some q' }
          store := { s.store with slots := s.store.slots.set q.slot (.opened
            (settleVolume q.faces (addSides q.before (countedTotal q'))
              (q.volumeBefore + (countedTotal q').left + (countedTotal q').right) v)) } } := by
  intro q'
  have settled := (settleStrobe_eq (s := setCapture s
    { s.capture with
      duration := s.capture.duration.set side actual
      progress := s.capture.progress.set side next, litUs := s.capture.litUs.set side 0 }) hq side actual).trans
    (onOpenSlot_opened (by exact hv) _)
  exact congrArg closeSettle settled

/-- Settles O25: the doses of a shorter or darker flash, and each settle as the account it rewrites. -/
theorem settlesNeverRaise : Obligations.SettlesNeverRaise := by
  refine ⟨fun l banks side face b t t' r ht hr =>
      ⟨strobeDose_mono l banks side ht face, pulseDose_mono l b hr face, ?_⟩,
    fun s v bound b hopen => ?_, fun s p v r hp hv wf distinct => ?_, fun s q hq => ?_,
    fun s q v side actual next hq hv wf distinct => ?_⟩
  · rw [← ratedLux, pulseDose_rated, onFaces_get]
  · intro dose
    have rated : pulseDose s.lamps b ratedLux = dose := by
      rw [pulseDose_rated]
      cases b <;> rfl
    rw [chargePulse_eq hopen, rated]
    exact ⟨by simp, charge_noted_store hopen _ _ _ _⟩
  · intro own other
    have pulse : pulseDose s.lamps p.bank r = onFaces p.bank.side own other := rfl
    have totals : addSides p.before (onFaces p.bank.side own other)
        = { left := p.before.left + if p.bank.side = .left then own else other
            right := p.before.right + if p.bank.side = .right then own else other } := by
      cases p.bank.side <;> rfl
    have whole : p.volumeBefore + (onFaces p.bank.side own other).left + (onFaces p.bank.side own other).right
        = p.volumeBefore + own + other := by
      cases p.bank.side
      · rfl
      · exact Nat.add_right_comm _ _ _
    rw [← totals, ← whole, ← pulse]
    exact ⟨_, (settlePulse_eq hp r).trans (onOpenSlot_opened (by exact hv) _), settleVolume_rewritten wf distinct _ _⟩
  · rw [closeSettle_eq hq]
    simp only [countedTotal, countedDose_eq]
    rfl
  · intro q' sum
    have counted (face : Side) : sum face = (countedTotal q').get face := (countedTotal_get q' face).symm
    simp only [counted]
    exact ⟨_, endStrobe_eq hq hv side actual next, settleVolume_rewritten wf distinct _ _⟩

end Sys2Proof.Machine
end

-- ==== Proofs: the allowances, the law in parts ====
section
/-! StepsKeepTheAllowances, its law: what each block's records promise about the doses still to come, split into the
accounts, the checks, the capture and the tracker; and the writes that leave every account as it was. -/

namespace Sys2Proof.Machine

open Sys2Proof.Config

/-! ## The law in parts -/

/-- Every volume's account is in canonical form and within its allowances, and a strobe is set to last at least 1 µs,
the least that a cut one counts. -/
def AccountsSound (s : State) : Prop :=
  (∀ i v, (s.store.slots.get i).volume? = some v → facesWf v.faces = true ∧ WithinAllowances v)
    ∧ ∀ side, 1 ≤ s.lamps.duration.get side

/-- The law of R108 and what keeps it, apart from the tracker. -/
def ChargesCovered (s : State) : Prop :=
  AccountsSound s ∧ CheckCovered s ∧ PulseCovered s ∧ CaptureOrdered s.capture ∧ CaptureCovered s

/-- What the law needs of the tracker: at most one slot is OPEN, the tracker's slot is, and an opening has two faces. -/
def TrackerShows (s : State) : Prop :=
  (∀ i v j w, s.store.slots.get i = .opened v → s.store.slots.get j = .opened w → i = j)
    ∧ (∀ slot, s.tracker.slot = some slot → ∃ v, s.store.slots.get slot = .opened v)
    ∧ ∀ n, s.tracker.n = some n → 1 ≤ n

/-- The law that every operation keeps: a check that is granted binds the faces of an opening that the tracker gives. -/
def AllowanceLaw (s : State) : Prop := ChargesCovered s ∧ TrackerShows s

/-- The law while no strobe of the capture is to be settled, whatever the capture's state. -/
def RestingLaw (s : State) : Prop :=
  AccountsSound s ∧ CheckCovered s ∧ PulseCovered s ∧ s.dose.captureSettle = none ∧ TrackerShows s

theorem TrackerStands.shows {s : State} (h : TrackerStands s) : TrackerShows s := by
  obtain ⟨one, at', -, -, bound⟩ := h
  refine ⟨one, fun slot hs => ?_, fun n hn => (bound n hn).1⟩
  rw [hs] at at'
  obtain ⟨⟨i, v⟩, hv, rfl⟩ := Option.map_eq_some_iff.mp at'.symm
  exact ⟨v, openSlot?_get hv⟩

/-- The OPEN slots stand, and the tracker's slot and opening. -/
theorem TrackerShows.keep {s t : State} (h : TrackerShows s) (k : SameOpen s.store.slots t.store.slots)
    (slot : t.tracker.slot = s.tracker.slot) (n : t.tracker.n = s.tracker.n) : TrackerShows t := by
  obtain ⟨one, opened, low⟩ := h
  refine ⟨fun i v j w hi hj => ?_, fun i hi => ?_, n ▸ low⟩
  · obtain ⟨v', hi'⟩ := k.opened hi
    obtain ⟨w', hj'⟩ := k.opened hj
    exact one i v' j w' hi' hj'
  · obtain ⟨v, hv⟩ := opened i (slot ▸ hi)
    have same := k i
    rw [hv] at same
    cases ht : t.store.slots.get i <;> simp_all [Slot.opened?]

theorem AccountsSound.opened {s : State} (h : AccountsSound s) {i : SlotId} {v : Volume}
    (hi : s.store.slots.get i = .opened v) : facesWf v.faces = true ∧ WithinAllowances v :=
  h.1 i v (by rw [hi]; rfl)

theorem chargesCovered_of_sound {s : State} (store : StoreSound s) (lamps : LampsInRange s.lamps) (dose : DoseSound s) :
    ChargesCovered s := by
  obtain ⟨volumes, -⟩ := store
  obtain ⟨-, -, -, -, left, right, -⟩ := lamps
  obtain ⟨within, rest⟩ := dose
  refine ⟨⟨fun i v hv => ⟨(volumes i v hv).1, within i v hv⟩, fun side => ?_⟩, rest⟩
  cases side
  · exact le_trans (by decide) left.1
  · exact le_trans (by decide) right.1

theorem ChargesCovered.doseSound {s : State} (h : ChargesCovered s) : DoseSound s := by
  obtain ⟨⟨volumes, -⟩, rest⟩ := h
  exact ⟨fun i v hv => (volumes i v hv).2, rest⟩

/-! ## Exposing or not -/

theorem ChargesCovered.settle_none {s : State} (h : ChargesCovered s) (still : s.capture.state ≠ .exposing) :
    s.dose.captureSettle = none := by
  obtain ⟨-, -, -, -, -, record⟩ := h
  rcases hq : s.dose.captureSettle with _ | q
  · rfl
  · exact absurd (record q hq).1 still

theorem AllowanceLaw.resting {s : State} (h : AllowanceLaw s) (settled : s.dose.captureSettle = none) :
    RestingLaw s := by
  obtain ⟨⟨accounts, checks, pulse, -⟩, stands⟩ := h
  exact ⟨accounts, checks, pulse, settled, stands⟩

theorem RestingLaw.law {s : State} (h : RestingLaw s) (ordered : CaptureOrdered s.capture)
    (still : s.capture.state ≠ .exposing) : AllowanceLaw s := by
  obtain ⟨accounts, checks, pulse, settled, stands⟩ := h
  refine ⟨⟨accounts, checks, pulse, ordered, fun e => absurd e still, fun q hq => ?_⟩, stands⟩
  rw [settled] at hq
  contradiction

theorem AllowanceLaw.ordered {s : State} (h : AllowanceLaw s) : CaptureOrdered s.capture := h.1.2.2.2.1

theorem AllowanceLaw.stands {s : State} (h : AllowanceLaw s) : TrackerShows s := h.2

/-- Only an exposure or its claim before it holds the lighting without a check, so a check's holding says that no
strobe is under way. -/
theorem AllowanceLaw.not_exposing {s : State} (h : AllowanceLaw s) (held : s.lamps.holder ≠ .capture) :
    s.capture.state ≠ .exposing := by
  obtain ⟨⟨-, -, -, -, covered, -⟩, -⟩ := h
  exact fun e => held (covered e).1

/-- A capture neither ARMING nor EXPOSING, with no trigger outstanding. -/
theorem captureOrdered_of_idle {c : Capture} (arming : c.state ≠ .arming) (exposing : c.state ≠ .exposing)
    (off : ∀ side, c.trigger.get side = false) : CaptureOrdered c :=
  ⟨fun e => absurd e arming, fun e => absurd e exposing, fun side on => by simp [off side] at on⟩

/-- Outside EXPOSING no trigger is outstanding. -/
theorem CaptureOrdered.trigger_off {c : Capture} (h : CaptureOrdered c) (still : c.state ≠ .exposing) (side : Side) :
    c.trigger.get side = false := by
  obtain ⟨-, -, stands⟩ := h
  by_contra on
  exact still (stands side (by simpa using on)).1

/-! ## What the law reads -/

/-- Two volumes with the same account: the profile, the face records and the dose. -/
def SameAccount (v w : Volume) : Prop := w.profile = v.profile ∧ w.faces = v.faces ∧ w.dose = v.dose

theorem SameAccount.refl (v : Volume) : SameAccount v v := ⟨rfl, rfl, rfl⟩

theorem SameAccount.trans {u v w : Volume} (h : SameAccount u v) (k : SameAccount v w) : SameAccount u w :=
  ⟨k.1.trans h.1, k.2.1.trans h.2.1, k.2.2.trans h.2.2⟩

theorem SameAccount.predict_eq {v w : Volume} (h : SameAccount v w) (faces dose : Sides Nat) :
    predict w faces dose = predict v faces dose := by
  obtain ⟨hp, hf, hd⟩ := h
  simp only [predict, hp, hf, hd]

theorem SameAccount.cover {v w : Volume} (h : SameAccount v w) {faces totals : Sides Nat} {t : Nat}
    (k : TotalsCover v faces totals t) : TotalsCover w faces totals t := by
  obtain ⟨-, hf, hd⟩ := h
  unfold TotalsCover
  rwa [hf, hd]

theorem SameAccount.sound {v w : Volume} (h : SameAccount v w) (k : facesWf v.faces = true ∧ WithinAllowances v) :
    facesWf w.faces = true ∧ WithinAllowances w := by
  obtain ⟨hp, hf, hd⟩ := h
  unfold WithinAllowances
  rwa [hp, hf, hd]

/-- Every OPEN volume stays OPEN in its slot, with its account. -/
def OpenKept (q r : Slots) : Prop :=
  ∀ i v, q.get i = .opened v → ∃ w, r.get i = .opened w ∧ SameAccount v w

/-- Every volume's account is one that stood before. -/
def VolumesKept (q r : Slots) : Prop :=
  ∀ i w, (r.get i).volume? = some w → ∃ v, (q.get i).volume? = some v ∧ SameAccount v w

theorem VolumesKept.sound {s t : State} (k : VolumesKept s.store.slots t.store.slots) (h : AccountsSound s)
    (lamps : t.lamps = s.lamps) : AccountsSound t := by
  obtain ⟨volumes, durations⟩ := h
  refine ⟨fun i w hw => ?_, lamps ▸ durations⟩
  obtain ⟨v, hv, same⟩ := k i w hw
  exact same.sound (volumes i v hv)

theorem CheckCovered.store {s t : State} (h : CheckCovered s) (opens : OpenKept s.store.slots t.store.slots)
    (lamps : t.lamps = s.lamps) : CheckCovered t := by
  obtain ⟨held, waits⟩ := h
  refine ⟨fun c b hc hb => ?_, lamps ▸ waits⟩
  obtain ⟨distinct, v, hv, fits⟩ := held c b (lamps ▸ hc) hb
  obtain ⟨w, hw, same⟩ := opens _ v hv
  exact ⟨distinct, w, hw, by rw [same.predict_eq, lamps]; exact fits⟩

theorem PulseCovered.store {s t : State} (h : PulseCovered s) (opens : OpenKept s.store.slots t.store.slots)
    (lamps : t.lamps = s.lamps) (pulse : t.dose.pulseSettle = s.dose.pulseSettle) : PulseCovered t := by
  intro p hp
  obtain ⟨c, v, hc, lit, bound, hv, cover⟩ := h p (pulse ▸ hp)
  obtain ⟨w, hw, same⟩ := opens _ v hv
  exact ⟨c, w, lamps ▸ hc, lit, bound, hw, by rw [lamps]; exact same.cover cover⟩

theorem CaptureCovered.store {s t : State} (h : CaptureCovered s) (opens : OpenKept s.store.slots t.store.slots)
    (stands : TrackerShows t) (lamps : t.lamps = s.lamps)
    (strobes : t.dose.captureSettle = s.dose.captureSettle) (capture : t.capture = s.capture) : CaptureCovered t := by
  obtain ⟨exposing, record⟩ := h
  have ahead : strobesAhead t = strobesAhead s := by simp only [strobesAhead, lamps, capture]
  refine ⟨fun e => ?_, fun q hq => ?_⟩
  · obtain ⟨holds, ⟨n, slot, v, hn, low, hv, fits⟩, lit⟩ := exposing (capture ▸ e)
    obtain ⟨w, hw, same⟩ := opens _ v (openSlot?_get hv)
    refine ⟨lamps ▸ holds, ⟨n, slot, w, capture ▸ hn, low, openSlot?_of_get stands.1 hw, ?_⟩, capture ▸ strobes ▸ lit⟩
    rw [same.predict_eq, ahead]
    exact fits
  · obtain ⟨e, faces, ⟨v, hv, cover⟩, sides⟩ := record q (strobes ▸ hq)
    obtain ⟨w, hw, same⟩ := opens _ v hv
    exact ⟨capture ▸ e, capture ▸ faces, ⟨w, hw, same.cover cover⟩, by rw [lamps, capture]; exact sides⟩

/-- A change of the store that leaves the OPEN volumes' accounts keeps the law. -/
theorem AllowanceLaw.store {s t : State} (h : AllowanceLaw s) (stands : TrackerShows t) (accounts : AccountsSound t)
    (opens : OpenKept s.store.slots t.store.slots) (lamps : t.lamps = s.lamps)
    (strobes : t.dose.captureSettle = s.dose.captureSettle) (pulse : t.dose.pulseSettle = s.dose.pulseSettle)
    (capture : t.capture = s.capture) : AllowanceLaw t := by
  obtain ⟨⟨-, checks, pulses, ordered, covered⟩, -⟩ := h
  exact ⟨⟨accounts, checks.store opens lamps, pulses.store opens lamps pulse, capture ▸ ordered,
    covered.store opens stands lamps strobes capture⟩, stands⟩

/-! ## Reports and entries -/

/-- What the law reads stands: the accounts, what the tracker says of the slots, the lamps, the settle records and the
capture. -/
structure Noted (s t : State) : Prop where
  opens : OpenKept s.store.slots t.store.slots
  volumes : VolumesKept s.store.slots t.store.slots
  stands : TrackerShows s → TrackerShows t
  lamps : t.lamps = s.lamps
  strobes : t.dose.captureSettle = s.dose.captureSettle
  pulse : t.dose.pulseSettle = s.dose.pulseSettle
  capture : t.capture = s.capture

theorem Noted.trans {s t u : State} (h : Noted s t) (k : Noted t u) : Noted s u where
  opens i v hv := by
    obtain ⟨w, hw, same⟩ := h.opens i v hv
    obtain ⟨x, hx, same'⟩ := k.opens i w hw
    exact ⟨x, hx, same.trans same'⟩
  volumes i x hx := by
    obtain ⟨w, hw, same'⟩ := k.volumes i x hx
    obtain ⟨v, hv, same⟩ := h.volumes i w hw
    exact ⟨v, hv, same.trans same'⟩
  stands := k.stands ∘ h.stands
  lamps := k.lamps.trans h.lamps
  strobes := k.strobes.trans h.strobes
  pulse := k.pulse.trans h.pulse
  capture := k.capture.trans h.capture

theorem AllowanceLaw.noted {s t : State} (h : AllowanceLaw s) (k : Noted s t) : AllowanceLaw t :=
  h.store (k.stands h.2) (k.volumes.sound h.1.1 k.lamps) k.opens k.lamps k.strobes k.pulse k.capture

theorem RestingLaw.noted {s t : State} (h : RestingLaw s) (k : Noted s t) : RestingLaw t := by
  obtain ⟨accounts, checks, pulse, settled, stands⟩ := h
  exact ⟨k.volumes.sound accounts k.lamps, checks.store k.opens k.lamps, pulse.store k.opens k.lamps k.pulse,
    k.strobes.trans settled, k.stands stands⟩

/-- The blocks that the law reads are left whole. -/
theorem noted_of_eq {s t : State}
    (e : t.store = s.store ∧ t.tracker = s.tracker ∧ t.lamps = s.lamps ∧ t.dose = s.dose ∧ t.capture = s.capture) :
    Noted s t := by
  obtain ⟨store, tracker, lamps, dose, capture⟩ := e
  refine ⟨fun i v hv => ⟨v, store ▸ hv, .refl v⟩, fun i w hw => ⟨w, store ▸ hw, .refl w⟩, fun h => ?_, lamps,
    by rw [dose], by rw [dose], capture⟩
  exact h.keep (by rw [store]; exact fun _ => rfl) (by rw [tracker]) (by rw [tracker])

theorem AllowanceLaw.congr {s t : State} (h : AllowanceLaw s)
    (e : t.store = s.store ∧ t.tracker = s.tracker ∧ t.lamps = s.lamps ∧ t.dose = s.dose ∧ t.capture = s.capture) :
    AllowanceLaw t := h.noted (noted_of_eq e)

/-- A write to the OPEN volume's record that leaves its account. -/
theorem onOpen_noted (s : State) {f : Volume → Volume} (hf : ∀ v, SameAccount v (f v)) : Noted s (onOpen s f) := by
  rcases hopen : openSlot? s.store.slots with _ | ⟨i, v⟩
  · rw [onOpen_none hopen]
    exact noted_of_eq ⟨rfl, rfl, rfl, rfl, rfl⟩
  · have hi := openSlot?_get hopen
    have same := hf v
    rw [onOpen_eq hopen]
    refine ⟨fun j x hx => ?_, fun j w hw => ?_, fun h => h.keep (fun j => ?_) rfl rfl, rfl, rfl, rfl, rfl⟩
    · by_cases e : i = j
      · subst e
        rw [hi] at hx
        cases hx
        exact ⟨f v, by simp, same⟩
      · exact ⟨x, by simpa [e] using hx, .refl x⟩
    · by_cases e : i = j
      · subst e
        simp only [setSlot_slots, Slots.get_set_self, Slot.volume?, Option.some.injEq] at hw
        exact ⟨v, by rw [hi]; rfl, hw ▸ same⟩
      · exact ⟨w, by simpa [e] using hw, .refl w⟩
    · by_cases e : i = j
      · subst e
        simp [Slot.opened?, hi, same.1]
      · simp [e]

theorem latch_noted (s : State) (k : Condition) : Noted s (latch s k) := noted_of_eq (by simp)

theorem latchLow_noted (s : State) : Noted s (latchLow s) := by
  unfold latchLow
  split
  · exact latch_noted _ _
  · exact noted_of_eq ⟨rfl, rfl, rfl, rfl, rfl⟩

theorem Noted.onOpen {s t : State} (h : Noted s t) {f : Volume → Volume} (hf : ∀ v, SameAccount v (f v)) :
    Noted s (onOpen t f) := h.trans (onOpen_noted t hf)

theorem Noted.latchLow {s t : State} (h : Noted s t) : Noted s (latchLow t) := h.trans (latchLow_noted t)

theorem storeEntry_noted (s : State) (body : EntryBody) : Noted s (storeEntry s body) := by
  unfold storeEntry
  refine onOpen_noted s ?_
  exact fun v => ⟨rfl, rfl, rfl⟩

theorem loseEntry_noted (s : State) (code : Nat) : Noted s (loseEntry s code) := by
  unfold loseEntry
  refine Noted.trans (onOpen_noted s ?_) (latch_noted _ _)
  exact fun v => ⟨rfl, rfl, rfl⟩

theorem appendIncident_noted (s : State) (kind : IncidentKind) (detail second : Nat) :
    Noted s (appendIncident s kind detail second) := by
  unfold appendIncident
  split
  · exact noted_of_eq ⟨rfl, rfl, rfl, rfl, rfl⟩
  · split
    · exact loseEntry_noted s _
    · refine ((storeEntry_noted s _).onOpen ?_).latchLow
      exact fun v => ⟨rfl, rfl, rfl⟩

theorem appendCapture_noted (s : State) (take : Nat) (sides : CaptureSides) : Noted s (appendCapture s take sides) := by
  unfold appendCapture
  refine ((storeEntry_noted s _).onOpen ?_).latchLow
  exact fun v => ⟨rfl, rfl, rfl⟩

theorem onPendingEntry_noted (s : State) (f : CaptureEntry → CaptureEntry) : Noted s (onPendingEntry s f) := by
  unfold onPendingEntry
  exact onOpen_noted s fun _ => ⟨rfl, rfl, rfl⟩

theorem writeResults_noted (s : State) (status : EntryStatus) : Noted s (writeResults s status) :=
  onPendingEntry_noted s _

theorem logDoseLimit_noted (s : State) (cause named : Nat) : Noted s (logDoseLimit s cause named) := by
  have flagged (u : State) : Noted u { u with tracker := { u.tracker with doseLogged := true } } :=
    ⟨fun _ v hv => ⟨v, hv, .refl v⟩, fun _ v hv => ⟨v, hv, .refl v⟩, id, rfl, rfl, rfl, rfl⟩
  unfold logDoseLimit
  split
  · exact flagged s
  · exact (appendIncident_noted s _ _ _).trans (flagged _)

theorem doseRefused_noted (s : State) (named : Nat) : Noted s (doseRefused s named) := by
  have refused : Noted s { s with dose := { s.dose with lastRefusal := some named } } :=
    ⟨fun _ v hv => ⟨v, hv, .refl v⟩, fun _ v hv => ⟨v, hv, .refl v⟩, id, rfl, rfl, rfl, rfl⟩
  exact (refused.trans (logDoseLimit_noted _ _ _)).trans (latch_noted _ _)

section

variable {s : State} (h : AllowanceLaw s)
include h

theorem latch_allowance (k : Condition) : AllowanceLaw (latch s k) := h.noted (latch_noted s k)

theorem appendIncident_allowance (kind : IncidentKind) (detail second : Nat) :
    AllowanceLaw (appendIncident s kind detail second) := h.noted (appendIncident_noted s _ _ _)

theorem setPendingStatus_allowance (status : EntryStatus) : AllowanceLaw (setPendingStatus s status) :=
  h.noted (onPendingEntry_noted s _)

theorem doseRefused_allowance (named : Nat) : AllowanceLaw (doseRefused s named) :=
  h.noted (doseRefused_noted s named)

end

end Sys2Proof.Machine
end

-- ==== Proofs: the allowances, the lighting's holder ====
section
/-! StepsKeepTheAllowances, the lighting's holder: the checks and the capture that the arbiter grants it to, and the
ways in which they give it up. -/

namespace Sys2Proof.Machine

open Sys2Proof.Config

/-! ## Doses of a check's pulses (R108, R114) -/

theorem predict_mono {v : Volume} {faces less more : Sides Nat} (passes : predict v faces more = none)
    (left : less.left ≤ more.left) (right : less.right ≤ more.right) : predict v faces less = none := by
  rw [predict_eq_none] at passes ⊢
  omega

/-- Of the lamps' settings, a pulse's doses are made of the spill alone. -/
theorem pulseDose_of_spill {l m : Lamps} (h : l.spill = m.spill) (b : Bank) (lux : Nat) :
    pulseDose l b lux = pulseDose m b lux := by
  simp only [pulseDose, flashDose, spillLux, h]

theorem pulsesDose_of_spill {l m : Lamps} (h : l.spill = m.spill) (banks : List Bank) :
    pulsesDose l banks = pulsesDose m banks := by
  simp only [pulsesDose, pulseDose_of_spill h]

/-- A check's prediction counts the pulses that it then makes. -/
theorem pulsesDose_whole (l : Lamps) (banks : BankSet) :
    pulsesDose l (Bank.all.filter fun b => banks.get b) = checkDose l banks := by
  have adds (b : Bank) (sum : Sides Nat) :
      (if banks.get b = true then addSides (pulseDose l b ratedLux) sum else sum)
        = addSides (bankPulse l banks b) sum := by
    unfold bankPulse
    split
    · rw [pulseDose_rated]
    · simp [addSides, Sides.both]
  simp only [pulsesDose, List.foldr_filter, adds, checkDose_eq]
  simp only [Bank.all, List.foldr_cons, List.foldr_nil, addSides, Sides.both, Nat.add_assoc, Nat.add_zero]

/-! ## The faces that a check binds (R98) -/

theorem facesOf_distinct {n : Nat} (h : 1 ≤ n) : (facesOf n).left ≠ (facesOf n).right := by
  simp only [facesOf, leftFace, rightFace]
  omega

theorem TrackerShows.bound {s : State} (h : TrackerShows s) {b : BoundFaces} (hb : boundNow s = some b) :
    b.faces.left ≠ b.faces.right ∧ ∃ v, s.store.slots.get b.slot = .opened v := by
  unfold boundNow at hb
  split at hb
  · next slot n _ hs hn =>
    cases hb
    obtain ⟨-, opened, low⟩ := h
    exact ⟨facesOf_distinct (low n hn), opened slot hs⟩
  · contradiction

/-! ## Changes of the lamps -/

/-- No pulse is to be settled unless one is lit. -/
theorem PulseCovered.settled {s : State} (h : PulseCovered s) (dark : ∀ c, s.lamps.holder = .check c → c.lit = false) :
    s.dose.pulseSettle = none := by
  rcases hp : s.dose.pulseSettle with _ | p
  · rfl
  · obtain ⟨c, -, hc, lit, -⟩ := h p hp
    simp [dark c hc] at lit

theorem pulseCovered_of_settled {s : State} (h : s.dose.pulseSettle = none) : PulseCovered s := by
  intro p hp
  rw [h] at hp
  contradiction

/-- What the law reads beside the lamps and the capture stands. -/
def Aside (s t : State) : Prop :=
  t.store = s.store ∧ t.tracker = s.tracker ∧ t.dose.captureSettle = s.dose.captureSettle
    ∧ t.dose.pulseSettle = s.dose.pulseSettle ∧ t.lamps.duration = s.lamps.duration

/-- A waiting check goes on waiting, or leaves the list. -/
def WaitsOn (s t : State) : Prop :=
  t.lamps.waitingCheck = none ∨ t.lamps.waitingCheck = s.lamps.waitingCheck

theorem Aside.accounts {s t : State} (h : Aside s t) (k : AccountsSound s) : AccountsSound t := by
  obtain ⟨store, -, -, -, duration⟩ := h
  unfold AccountsSound
  rwa [store, duration]

theorem Aside.shows {s t : State} (h : Aside s t) (k : TrackerShows s) : TrackerShows t := by
  obtain ⟨store, tracker, -⟩ := h
  unfold TrackerShows
  rwa [store, tracker]

theorem WaitsOn.waits {s t : State} (h : WaitsOn s t) {P : Check → Prop}
    (k : ∀ c, s.lamps.waitingCheck = some c → P c) (c : Check) (hc : t.lamps.waitingCheck = some c) : P c := by
  obtain e | e := h
  · rw [e] at hc
    contradiction
  · exact k c (e ▸ hc)

/-- The lighting keeps its holder, with no strobe to be settled. -/
theorem RestingLaw.held {s t : State} (h : RestingLaw s) (aside : Aside s t) (waits : WaitsOn s t)
    (holder : t.lamps.holder = s.lamps.holder) (spill : t.lamps.spill = s.lamps.spill) : RestingLaw t := by
  obtain ⟨accounts, ⟨held, whole⟩, pulse, settled, shows⟩ := h
  have accounts' := aside.accounts accounts
  have shows' := aside.shows shows
  obtain ⟨store, -, strobes, pulses, -⟩ := aside
  refine ⟨accounts', ⟨fun c b hc hb => ?_, waits.waits whole⟩, fun p hp => ?_, strobes.trans settled, shows'⟩
  · rw [store, pulsesDose_of_spill spill]
    exact held c b (holder ▸ hc) hb
  · rw [holder, store, pulseDose_of_spill spill]
    exact pulse p (pulses ▸ hp)

/-- The lighting passes to a holder that is no check. -/
theorem RestingLaw.unchecked {s t : State} (h : RestingLaw s) (aside : Aside s t) (waits : WaitsOn s t)
    (settled : s.dose.pulseSettle = none) (holder : t.lamps.holder = .free ∨ t.lamps.holder = .capture) :
    RestingLaw t := by
  obtain ⟨accounts, ⟨-, whole⟩, -, rest, shows⟩ := h
  have accounts' := aside.accounts accounts
  have shows' := aside.shows shows
  obtain ⟨-, -, strobes, pulses, -⟩ := aside
  refine ⟨accounts', ⟨fun c b hc _ => ?_, waits.waits whole⟩,
    pulseCovered_of_settled (pulses.trans settled), strobes.trans rest, shows'⟩
  obtain e | e := holder <;> simp [e] at hc

/-- The lighting passes to a check none of whose banks has been pulsed, and whose prediction has passed. -/
theorem RestingLaw.granted {s t : State} (h : RestingLaw s) (aside : Aside s t) (waits : WaitsOn s t)
    (settled : s.dose.pulseSettle = none) {c : Check} (holder : t.lamps.holder = .check c)
    (bound : c.bound = boundNow s) (dark : c.lit = false)
    (whole : c.remaining = Bank.all.filter fun b => c.banks.get b) (spill : t.lamps.spill = s.lamps.spill)
    {more : Sides Nat} (passes : predictBound s c.banks (boundNow s) more = none) : RestingLaw t := by
  obtain ⟨accounts, ⟨-, full⟩, -, rest, shows⟩ := h
  have accounts' := aside.accounts accounts
  have shows' := aside.shows shows
  obtain ⟨store, -, strobes, pulses, -⟩ := aside
  refine ⟨accounts', ⟨fun c' b hc hb => ?_, waits.waits full⟩, pulseCovered_of_settled (pulses.trans settled),
    strobes.trans rest, shows'⟩
  rw [holder] at hc
  cases hc
  rw [bound] at hb
  obtain ⟨distinct, v, hv⟩ := shows.bound hb
  refine ⟨distinct, v, by rw [store, hv], ?_⟩
  simp only [predictBound, hb, hv] at passes
  simp only [dark, Bool.false_eq_true, if_false, whole, pulsesDose_whole]
  rw [← pulsesDose_whole, pulsesDose_of_spill spill, pulsesDose_whole]
  exact predict_mono passes (Nat.le_add_right _ _) (Nat.le_add_right _ _)

/-! ## Checks that end, and the capture's end (R98, R99, R125) -/

section

variable {s : State} (h : RestingLaw s)
include h

theorem idleReleased_resting : RestingLaw (idleReleased s) := by
  unfold idleReleased
  split
  · exact h
  · exact h

theorem finishCheck_resting (c : Check) (outcome : CheckOutcome) : RestingLaw (finishCheck s c outcome) := by
  have ended (record : CheckRecord) : RestingLaw (setLamps s
      { (if outcome = .complete then completeCheck s.lamps c else s.lamps) with lastCheck := some record }) := by
    split
    · exact h.held ⟨rfl, rfl, rfl, rfl, rfl⟩ (.inr rfl) rfl rfl
    · exact h.held ⟨rfl, rfl, rfl, rfl, rfl⟩ (.inr rfl) rfl rfl
  unfold finishCheck
  dsimp only
  split
  · exact idleReleased_resting ((ended _).noted (latch_noted _ _))
  · exact idleReleased_resting (ended _)

theorem deferCheck_resting : RestingLaw (deferCheck s) := h

theorem freeClaim_resting : RestingLaw (freeClaim s) := h.noted (noted_of_eq (by simp))

theorem captureToNone_resting (outcome : CaptureOutcome) : RestingLaw (captureToNone s outcome) := by
  rw [captureToNone_eq, freeClaim_eq]
  exact h.held ⟨rfl, rfl, rfl, rfl, rfl⟩ (.inr rfl) rfl rfl

/-! ## Grants (R93, R94, R98 to R100) -/

theorem grantCheck_resting (free : s.lamps.holder = .free) {c : Check} (waits : s.lamps.waitingCheck = some c) :
    RestingLaw (grantCheck s c) := by
  obtain ⟨-, ⟨-, whole⟩, pulse, -⟩ := id h
  obtain ⟨dark, remaining⟩ := whole c waits
  have settled : s.dose.pulseSettle = none := pulse.settled (by simp [free])
  have taken : RestingLaw (aimDark (setLamps s { s.lamps with waitingCheck := none })) :=
    h.held ⟨rfl, rfl, rfl, rfl, rfl⟩ (.inl rfl) rfl rfl
  rw [grantCheck_eq]
  unfold grantOutcome
  split
  · split
    · exact finishCheck_resting taken _ _
    · split
      · exact finishCheck_resting (taken.noted (doseRefused_noted _ _)) _ _
      · next passes =>
        exact h.granted ⟨rfl, rfl, rfl, rfl, rfl⟩ (.inl rfl) settled rfl rfl dark remaining rfl passes
  · dsimp only
    split
    · exact deferCheck_resting taken
    · next passes =>
      exact h.granted ⟨rfl, rfl, rfl, rfl, rfl⟩ (.inl rfl) settled rfl rfl dark remaining rfl passes

theorem grantCapture_resting (free : s.lamps.holder = .free) : RestingLaw (grantCapture s) := by
  obtain ⟨-, -, pulse, -⟩ := id h
  have settled : s.dose.pulseSettle = none := pulse.settled (by simp [free])
  unfold grantCapture
  dsimp only
  split
  · refine captureToNone_resting ?_ _
    exact h.held ⟨rfl, rfl, rfl, rfl, rfl⟩ (.inr rfl) rfl rfl
  · split
    · exact h.unchecked ⟨rfl, rfl, rfl, rfl, rfl⟩ (.inr rfl) settled (.inr rfl)
    · exact h.unchecked ⟨rfl, rfl, rfl, rfl, rfl⟩ (.inr rfl) settled (.inr rfl)

theorem grantNext_resting : RestingLaw (grantNext s) := by
  have captured {u : State} (hu : RestingLaw u) :
      RestingLaw (if grantable u && u.lamps.waitingCapture then grantCapture u else u) := by
    split
    · next grants =>
      simp only [Bool.and_eq_true, grantable_iff] at grants
      exact grantCapture_resting hu grants.1.1
    · exact hu
  unfold grantNext
  refine captured ?_
  split
  · next waits =>
    split
    · next grants => exact grantCheck_resting h ((grantable_iff s).mp grants).1 waits
    · exact h
  · exact h

/-- The holder, whose pulse if any has been settled, gives the lighting up. -/
theorem releaseLighting_resting (settled : s.dose.pulseSettle = none) : RestingLaw (releaseLighting s) :=
  grantNext_resting (h.unchecked ⟨rfl, rfl, rfl, rfl, rfl⟩ (.inr rfl) settled (.inl rfl))

theorem withdrawLighting_resting : RestingLaw (withdrawLighting s) := by
  have left {l : Lamps} (waits : l.waitingCheck = none ∨ l.waitingCheck = s.lamps.waitingCheck)
      (holder : l.holder = s.lamps.holder) (spill : l.spill = s.lamps.spill)
      (duration : l.duration = s.lamps.duration) :
      RestingLaw (if s.lamps.holder = .capture then releaseLighting { s with lamps := l }
        else { s with lamps := l }) := by
    have left : RestingLaw { s with lamps := l } := h.held ⟨rfl, rfl, rfl, rfl, duration⟩ waits holder spill
    split
    · next holds =>
      obtain ⟨-, -, pulse, -⟩ := id h
      exact releaseLighting_resting left (pulse.settled (by simp [holds]))
    · exact left
  rw [withdrawLighting_eq]
  refine left ?_ rfl rfl rfl
  dsimp only
  split
  · exact .inl rfl
  · exact .inr rfl

theorem serveCounter_resting (holds : s.lamps.holder = .capture) : RestingLaw (serveCounter s) := by
  obtain ⟨-, -, pulse, -⟩ := id h
  have settled : s.dose.pulseSettle = none := pulse.settled (by simp [holds])
  have counted : RestingLaw (setLamps s
      { s.lamps with counter := min (s.lamps.counter + 1) s.lamps.interval }) :=
    h.held ⟨rfl, rfl, rfl, rfl, rfl⟩ (.inr rfl) rfl rfl
  have due (l : Lamps) : (dueCheck l).lit = false
      ∧ (dueCheck l).remaining = Bank.all.filter fun b => (dueCheck l).banks.get b := by
    unfold dueCheck
    split <;> exact ⟨rfl, rfl⟩
  unfold serveCounter
  dsimp only
  split
  · exact releaseLighting_resting counted settled
  · split
    · exact releaseLighting_resting (deferCheck_resting counted) settled
    · next passes =>
      rw [predictCheck_eq] at passes
      exact counted.granted ⟨rfl, rfl, rfl, rfl, rfl⟩ (.inr rfl) settled rfl rfl (due _).1 (due _).2 rfl passes

end

/-! ## What a grant makes of the capture (R94) -/

/-- A capture that no grant has moved on: marked at most, or ended. -/
def CaptureStood (c d : Capture) : Prop :=
  (∃ flags, d = { c with flags := flags }) ∨ (d.state = .none ∧ ∀ side, d.trigger.get side = false)

theorem captureToNone_stood (s : State) (outcome : CaptureOutcome) :
    (captureToNone s outcome).capture.state = .none
      ∧ ∀ side, (captureToNone s outcome).capture.trigger.get side = false := by
  rw [captureToNone_eq]
  exact ⟨rfl, fun side => by cases side <;> rfl⟩

theorem grantNext_stood (s : State) : CaptureStood s.capture (grantNext s).capture := by
  have captured (u : State) : CaptureStood u.capture (grantCapture u).capture := by
    unfold grantCapture
    dsimp only
    split
    · exact .inr (captureToNone_stood _ _)
    · split
      · exact .inl ⟨_, rfl⟩
      · exact .inl ⟨_, rfl⟩
  have checked (u : State) (e : u.capture = s.capture) :
      CaptureStood s.capture (if grantable u && u.lamps.waitingCapture then grantCapture u else u).capture := by
    rw [← e]
    split
    · exact captured u
    · exact .inl ⟨_, rfl⟩
  unfold grantNext
  refine checked _ ?_
  (repeat' split) <;> simp

theorem CaptureStood.still {c d : Capture} (h : CaptureStood c d) (still : c.state ≠ .exposing) :
    d.state ≠ .exposing := by
  obtain ⟨flags, rfl⟩ | ⟨none', -⟩ := h
  · exact still
  · simp [none']

theorem CaptureStood.ordered {c d : Capture} (h : CaptureStood c d) (ordered : CaptureOrdered c) :
    CaptureOrdered d := by
  obtain ⟨flags, rfl⟩ | ⟨none', off⟩ := h
  · exact ordered
  · exact captureOrdered_of_idle (by simp [none']) (by simp [none']) off

theorem CaptureStood.trigger_off {c d : Capture} (h : CaptureStood c d) (off : ∀ side, c.trigger.get side = false)
    (side : Side) : d.trigger.get side = false := by
  obtain ⟨flags, rfl⟩ | ⟨-, off'⟩ := h
  · exact off side
  · exact off' side

theorem serveCounter_stood (s : State) : CaptureStood s.capture (serveCounter s).capture := by
  unfold serveCounter
  dsimp only
  split
  · exact grantNext_stood _
  · split
    · exact grantNext_stood _
    · exact .inl ⟨_, rfl⟩

/-! ## Back to the law -/

/-- A capture ended is in no state of which the law says anything. -/
theorem captureToNone_allowance {s : State} (h : RestingLaw s) (outcome : CaptureOutcome) :
    AllowanceLaw (captureToNone s outcome) := by
  obtain ⟨none', off⟩ := captureToNone_stood s outcome
  exact (captureToNone_resting h outcome).law
    (captureOrdered_of_idle (by simp [none']) (by simp [none']) off) (by simp [none'])

section

variable {s : State} (h : AllowanceLaw s)
include h

theorem AllowanceLaw.at_rest (still : s.capture.state ≠ .exposing) : RestingLaw s := h.resting (h.1.settle_none still)

theorem AllowanceLaw.free_still (free : s.lamps.holder = .free) : s.capture.state ≠ .exposing :=
  h.not_exposing (by simp [free])

theorem grantNext_allowance : AllowanceLaw (grantNext s) := by
  by_cases grants : grantable s = true
  · have still := h.free_still ((grantable_iff s).mp grants).1
    exact (grantNext_resting (h.at_rest still)).law ((grantNext_stood s).ordered h.ordered)
      ((grantNext_stood s).still still)
  · have stands : grantNext s = s := by
      unfold grantNext
      split <;> simp [grants]
    rwa [stands]

theorem captureEndArming_allowance (still : s.capture.state ≠ .exposing) (outcome : CaptureOutcome) :
    AllowanceLaw (captureEndArming s outcome) :=
  captureToNone_allowance (withdrawLighting_resting (h.at_rest still)) outcome

end

end Sys2Proof.Machine
end

-- ==== Proofs: the allowances, the aiming light ====
section
/-! StepsKeepTheAllowances, charges and settles of an account, the aiming light, and the changes of lamps and capture
that the law does not read. -/

namespace Sys2Proof.Machine

open Sys2Proof.Config

/-! ## Lamps and captures as the law reads them -/

/-- Two captures that the law reads alike. -/
def SameCapture (c d : Capture) : Prop :=
  d.state = c.state ∧ d.voiding = c.voiding ∧ d.sides = c.sides ∧ d.opening = c.opening ∧ d.progress = c.progress
    ∧ d.trigger = c.trigger

/-- The settings from which a strobe's doses are made. -/
def SameLight (l m : Lamps) : Prop :=
  m.holder = l.holder ∧ m.drive = l.drive ∧ m.fullScale = l.fullScale ∧ m.spill = l.spill ∧ m.fixedBanks = l.fixedBanks

theorem SameCapture.mayStillStart_eq {c d : Capture} (h : SameCapture c d) (side : Side) :
    mayStillStart d side = mayStillStart c side := by
  obtain ⟨state, voiding, -, -, progress, -⟩ := h
  simp only [mayStillStart, state, voiding, progress]

theorem SameCapture.ordered {c d : Capture} (h : SameCapture c d) (k : CaptureOrdered c) : CaptureOrdered d := by
  obtain ⟨state, voiding, sides, opening, progress, trigger⟩ := h
  unfold CaptureOrdered
  rwa [state, voiding, sides, opening, progress, trigger]

theorem SameLight.strobeDose_eq {l m : Lamps} (h : SameLight l m) (side : Side) (t : Nat) :
    strobeDose m m.fixedBanks side t = strobeDose l l.fixedBanks side t := by
  obtain ⟨-, drive, scale, spill, fixed⟩ := h
  simp only [strobeDose, flashDose, strobeLux, bankLux, spillLux, drive, scale, spill, fixed]

/-- A change of the lamps and the capture that the law does not read keeps it. -/
theorem AllowanceLaw.relit {s t : State} (h : AllowanceLaw s) (aside : Aside s t)
    (waits : ∀ c, t.lamps.waitingCheck = some c → c.lit = false ∧ c.remaining = Bank.all.filter fun b => c.banks.get b)
    (light : SameLight s.lamps t.lamps) (capture : SameCapture s.capture t.capture) : AllowanceLaw t := by
  obtain ⟨⟨accounts, ⟨held, -⟩, pulse, ordered, exposing, record⟩, shows⟩ := h
  have accounts' := aside.accounts accounts
  have shows' := aside.shows shows
  obtain ⟨store, -, strobes, pulses, duration⟩ := aside
  have starts := capture.mayStillStart_eq
  have doses := light.strobeDose_eq
  have ahead : strobesAhead t = strobesAhead s := by simp only [strobesAhead, starts, doses, duration]
  obtain ⟨holder, -, -, spill, -⟩ := light
  have ordered' := capture.ordered ordered
  obtain ⟨state, -, -, opening, progress, -⟩ := capture
  refine ⟨⟨accounts', ⟨fun c b hc hb => ?_, waits⟩, fun p hp => ?_, ordered', fun e => ?_, fun q hq => ?_⟩, shows'⟩
  · rw [store, pulsesDose_of_spill spill]
    exact held c b (holder ▸ hc) hb
  · rw [holder, store, pulseDose_of_spill spill]
    exact pulse p (pulses ▸ hp)
  · rw [holder, opening, store, ahead, progress, strobes]
    exact exposing (state ▸ e)
  · simp only [state, opening, store, progress, doses, duration, starts]
    exact record q (strobes ▸ hq)

theorem AllowanceLaw.waits {s : State} (h : AllowanceLaw s) :
    ∀ c, s.lamps.waitingCheck = some c → c.lit = false ∧ c.remaining = Bank.all.filter fun b => c.banks.get b :=
  h.1.2.1.2

section

variable {s : State} (h : AllowanceLaw s)
include h

theorem idleRestart_allowance : AllowanceLaw (idleRestart s) := h

theorem idleReleased_allowance : AllowanceLaw (idleReleased s) := by
  unfold idleReleased
  split
  · exact h
  · exact h

theorem idleDark_allowance : AllowanceLaw (idleDark s) := by
  unfold idleDark
  split
  · exact h
  · exact h

theorem supplyOff_allowance : AllowanceLaw (supplyOff s) := h

theorem supplyReady_allowance : AllowanceLaw (supplyReady s) := by
  unfold supplyReady
  refine latch_allowance ?_ _
  exact h

theorem supplyOn_allowance : AllowanceLaw (supplyOn s) := by
  unfold supplyOn
  split
  · dsimp only
    split
    · refine supplyReady_allowance ?_
      exact h
    · exact h
  · exact h

theorem covered_allowance (cost : Nat) : AllowanceLaw (covered s cost) := h

theorem aimDark_allowance : AllowanceLaw (aimDark s) := h

theorem idleExpires_allowance : AllowanceLaw (idleExpires s) := by
  unfold idleExpires
  dsimp only
  split
  · refine supplyOff_allowance ?_
    exact h
  · exact h

theorem freeClaim_allowance : AllowanceLaw (freeClaim s) := h.congr (by simp)

theorem aimCut_allowance (named : Nat) : AllowanceLaw (aimCut s named) := by
  unfold aimCut
  refine latch_allowance (AllowanceLaw.noted ?_ (logDoseLimit_noted _ _ _)) _
  exact h

theorem finishCheck_allowance (c : Check) (outcome : CheckOutcome) : AllowanceLaw (finishCheck s c outcome) := by
  have ended (record : CheckRecord) : AllowanceLaw (setLamps s
      { (if outcome = .complete then completeCheck s.lamps c else s.lamps) with lastCheck := some record }) := by
    split
    · exact h
    · exact h
  unfold finishCheck
  dsimp only
  split
  · exact idleReleased_allowance (latch_allowance (ended _) _)
  · exact idleReleased_allowance (ended _)

/-- A check none of whose banks has been pulsed joins the waiting list. -/
theorem AllowanceLaw.queued {t : State} (aside : Aside s t) {c : Check} (waits : t.lamps.waitingCheck = some c)
    (dark : c.lit = false) (whole : c.remaining = Bank.all.filter fun b => c.banks.get b)
    (light : SameLight s.lamps t.lamps) (capture : t.capture = s.capture) : AllowanceLaw t := by
  refine h.relit aside (fun d hd => ?_) light (by rw [capture]; exact ⟨rfl, rfl, rfl, rfl, rfl, rfl⟩)
  rw [waits] at hd
  cases hd
  exact ⟨dark, whole⟩

/-- The waiting check leaves the list. -/
theorem AllowanceLaw.unqueued {t : State} (aside : Aside s t) (gone : t.lamps.waitingCheck = none)
    (light : SameLight s.lamps t.lamps) (capture : t.capture = s.capture) : AllowanceLaw t := by
  refine h.relit aside (fun d hd => ?_) light (by rw [capture]; exact ⟨rfl, rfl, rfl, rfl, rfl, rfl⟩)
  rw [gone] at hd
  contradiction

theorem claimLighting_allowance : AllowanceLaw (claimLighting s) := by
  unfold claimLighting
  dsimp only
  split
  · exact h.queued ⟨rfl, rfl, rfl, rfl, rfl⟩ rfl rfl rfl ⟨rfl, rfl, rfl, rfl, rfl⟩ rfl
  · exact h

end

/-! ## Accounts written (R107) -/

theorem SameOpen.write {q : Slots} {i : SlotId} {v w : Volume} (hi : q.get i = .opened v)
    (profile : w.profile = v.profile) : SameOpen q (q.set i (.opened w)) := by
  intro j
  by_cases e : i = j
  · subst e
    simp [Slot.opened?, hi, profile]
  · rw [Slots.get_set, if_neg e]

/-- An account written to the OPEN volume's slot. -/
theorem AccountsSound.write {s t : State} (h : AccountsSound s) {i : SlotId} {w : Volume}
    (slots : t.store.slots = s.store.slots.set i (.opened w)) (sound : facesWf w.faces = true ∧ WithinAllowances w)
    (duration : t.lamps.duration = s.lamps.duration) : AccountsSound t := by
  obtain ⟨volumes, times⟩ := h
  refine ⟨fun j x hx => ?_, duration ▸ times⟩
  rw [slots, Slots.get_set] at hx
  split at hx
  · cases hx
    exact sound
  · exact volumes j x hx

theorem TrackerShows.write {s t : State} (h : TrackerShows s) {i : SlotId} {v w : Volume}
    (hi : s.store.slots.get i = .opened v) (slots : t.store.slots = s.store.slots.set i (.opened w))
    (profile : w.profile = v.profile) (tracker : t.tracker = s.tracker) : TrackerShows t :=
  h.keep (slots ▸ SameOpen.write hi profile) (by rw [tracker]) (by rw [tracker])

theorem chargeVolume_account {v : Volume} {faces dose : Sides Nat} (sound : facesWf v.faces = true ∧ WithinAllowances v)
    (passes : predict v faces dose = none) (own : Option Side) :
    facesWf (chargeVolume faces dose own v).faces = true ∧ WithinAllowances (chargeVolume faces dose own v) := by
  obtain ⟨wf, within, -⟩ := sound
  obtain ⟨face, whole⟩ := chargeVolume_within wf passes own
  exact ⟨chargeVolume_wf wf _ _ _, fun f => face f (within f), whole⟩

section

variable {v : Volume} {faces : Sides Nat} (wf : facesWf v.faces = true) (distinct : faces.left ≠ faces.right)
include wf distinct

theorem chargeVolume_totals (dose : Sides Nat) (own : Option Side) :
    (facesGet (chargeVolume faces dose own v).faces faces.left).dose.total
        = (facesGet v.faces faces.left).dose.total + dose.left
      ∧ (facesGet (chargeVolume faces dose own v).faces faces.right).dose.total
        = (facesGet v.faces faces.right).dose.total + dose.right := by
  rw [chargeVolume_face_total wf, chargeVolume_face_total wf]
  simp [distinct]

/-- What fits with a dose still fits after it is charged. -/
theorem predict_charged {dose more : Sides Nat} (passes : predict v faces (addSides dose more) = none)
    (own : Option Side) : predict (chargeVolume faces dose own v) faces more = none := by
  obtain ⟨left, right⟩ := chargeVolume_totals wf distinct dose own
  have whole := chargeVolume_total faces dose own v
  have profile : (chargeVolume faces dose own v).profile = v.profile := rfl
  rw [predict_eq_none] at passes ⊢
  rw [left, right, whole, profile]
  simp only [addSides] at passes
  omega

theorem settleVolume_totals (totals : Sides Nat) (t : Nat) :
    (facesGet (settleVolume faces totals t v).faces faces.left).dose.total = totals.left
      ∧ (facesGet (settleVolume faces totals t v).faces faces.right).dose.total = totals.right
      ∧ (settleVolume faces totals t v).dose.total = t := by
  obtain ⟨-, side, whole, -⟩ := settleVolume_rewritten wf distinct totals t
  exact ⟨(side .left).1, (side .right).1, whole⟩

/-- A settle to totals that the account covers raises none of them. -/
theorem settleVolume_account {totals : Sides Nat} {t : Nat} (cover : TotalsCover v faces totals t)
    (within : WithinAllowances v) :
    facesWf (settleVolume faces totals t v).faces = true ∧ WithinAllowances (settleVolume faces totals t v) := by
  obtain ⟨wf', -, -, -, other, -⟩ := settleVolume_rewritten wf distinct totals t
  obtain ⟨left, right, whole⟩ := settleVolume_totals wf distinct totals t
  obtain ⟨coverLeft, coverRight, coverWhole⟩ := cover
  obtain ⟨face, volume⟩ := within
  refine ⟨wf', fun f => ?_, whole.trans_le (coverWhole.trans volume)⟩
  by_cases hl : f = faces.left
  · subst hl
    exact left.trans_le (coverLeft.trans (face _))
  · by_cases hr : f = faces.right
    · subst hr
      exact right.trans_le (coverRight.trans (face _))
    · rw [other f hl hr]
      exact face f

theorem predict_settled {totals dose : Sides Nat} {t : Nat} (cover : TotalsCover v faces totals t)
    (passes : predict v faces dose = none) : predict (settleVolume faces totals t v) faces dose = none := by
  obtain ⟨left, right, whole⟩ := settleVolume_totals wf distinct totals t
  have profile : (settleVolume faces totals t v).profile = v.profile := rfl
  obtain ⟨coverLeft, coverRight, coverWhole⟩ := cover
  rw [predict_eq_none] at passes ⊢
  rw [left, right, whole, profile]
  omega

end

/-! ## The aiming light (R116 to R118) -/

section

variable {s : State} (h : AllowanceLaw s)
include h

/-- A dose of the free lighting that has passed its prediction is charged. -/
theorem AllowanceLaw.aimed (free : s.lamps.holder = .free) {slot : SlotId} {v : Volume}
    (hopen : openSlot? s.store.slots = some (slot, v)) {faces dose : Sides Nat} (passes : predict v faces dose = none)
    (aiming : Option AimInterval) :
    AllowanceLaw (charge { s with dose := { s.dose with aiming := aiming } } faces dose none) := by
  have hi := openSlot?_get hopen
  have still := h.free_still free
  obtain ⟨accounts, ⟨-, whole⟩, pulse, settled, shows⟩ := h.at_rest still
  have store := charge_noted_store hopen { s.dose with aiming := aiming } faces dose none
  have slots := congrArg Store.slots store
  have pulses : s.dose.pulseSettle = none := pulse.settled (by simp [free])
  refine RestingLaw.law ⟨?_, ⟨fun c b hc _ => ?_, ?_⟩, pulseCovered_of_settled ?_, ?_, ?_⟩ ?_ ?_
  · exact accounts.write slots (chargeVolume_account (accounts.opened hi) passes none) (by simp)
  · simp [free] at hc
  · simpa using whole
  · simpa using pulses
  · simpa using settled
  · exact shows.write hi slots rfl (by simp)
  · simpa using h.ordered
  · simpa using still

theorem aimStart_allowance (free : s.lamps.holder = .free) : AllowanceLaw (aimStart s) := by
  unfold aimStart
  split
  · next v n hv hn =>
    obtain ⟨⟨slot, w⟩, hopen, rfl⟩ := Option.map_eq_some_iff.mp hv
    dsimp only
    split
    · exact aimCut_allowance h _
    · next passes => exact h.aimed free hopen passes _
  · exact h

theorem aimRetest_allowance : AllowanceLaw (aimRetest s) := by
  unfold aimRetest
  split
  · next wanted =>
    obtain ⟨-, -, -, -, -, -, free⟩ := (aimWanted_iff s).mp wanted
    split
    · split
      · exact h
      · exact aimStart_allowance h free
    · exact aimStart_allowance h free
  · exact h

end

end Sys2Proof.Machine
end

-- ==== Proofs: the allowances, reference checks ====
section
/-! StepsKeepTheAllowances, reference checks: a pulse charged, settled and judged, and the ends of a check. -/

namespace Sys2Proof.Machine

open Sys2Proof.Config

/-! ## A pulse starts (R95, R115) -/

/-- The next pulse of the check that holds the lighting is charged on its bound faces. -/
theorem AllowanceLaw.pulsed {s u : State} (h : AllowanceLaw s) (aside : Aside s u) (waits : WaitsOn s u)
    (spill : u.lamps.spill = s.lamps.spill) (capture : u.capture = s.capture) {c : Check} {b : Bank} {rest : List Bank}
    (holds : s.lamps.holder = .check c) (dark : c.lit = false) (ahead : c.remaining = b :: rest)
    (lit : u.lamps.holder = .check { c with lit := true }) {bound : BoundFaces} (hb : c.bound = some bound) :
    AllowanceLaw (chargePulse u bound b) := by
  have still := h.not_exposing (by simp [holds])
  obtain ⟨accounts, ⟨held, whole⟩, -, settled, shows⟩ := h.at_rest still
  obtain ⟨distinct, v, hv, fits⟩ := held c bound holds hb
  simp only [dark, Bool.false_eq_true, if_false, ahead] at fits
  rw [← pulsesDose_of_spill spill] at fits
  have sound := accounts.opened hv
  replace accounts := aside.accounts accounts
  replace shows := aside.shows shows
  obtain ⟨store, tracker, strobes, pulses, duration⟩ := aside
  rw [← store] at hv
  have hopen := openSlot?_of_get shows.1 hv
  have fitsOne : predict v bound.faces (pulseDose u.lamps b ratedLux) = none :=
    predict_mono fits (Nat.le_add_right _ _) (Nat.le_add_right _ _)
  rw [chargePulse_eq hopen]
  generalize hq : (some _ : Option PulseSettle) = q
  have slots := congrArg Store.slots
    (charge_noted_store hopen { u.dose with pulseSettle := q } bound.faces (pulseDose u.lamps b ratedLux) none)
  refine RestingLaw.law ⟨?_, ⟨fun c' b' hc hb' => ?_, ?_⟩, fun p hp => ?_, ?_, ?_⟩ ?_ ?_
  · exact accounts.write slots (chargeVolume_account sound fitsOne none) (by simp)
  · simp only [charge_frame, lit] at hc
    cases hc
    obtain rfl := Option.some.inj (hb.symm.trans hb')
    refine ⟨distinct, chargeVolume bound.faces (pulseDose u.lamps b ratedLux) none v, by simp [slots], ?_⟩
    simp only [if_true, ahead, List.tail_cons, charge_frame]
    exact predict_charged sound.1 distinct fits none
  · simpa using waits.waits whole
  · simp only [charge_frame, ← hq, Option.some.injEq] at hp
    subst hp
    refine ⟨{ c with lit := true }, chargeVolume bound.faces (pulseDose u.lamps b ratedLux) none v,
      by simp only [charge_frame, lit], rfl, hb, by simp [slots], ?_⟩
    obtain ⟨left, right⟩ := chargeVolume_totals sound.1 distinct (pulseDose u.lamps b ratedLux) none
    simp only [charge_frame]
    exact ⟨left.ge, right.ge, (chargeVolume_total _ _ _ _).ge⟩
  · simpa using strobes.trans settled
  · exact shows.write hv slots rfl (by simp)
  · simpa [capture] using h.ordered
  · simpa [capture] using still

/-! ## The check that holds the lighting goes on (R95, R101) -/

/-- The same check holds the lighting, with the same pulses still to be charged. -/
theorem RestingLaw.rechecked {s t : State} (h : RestingLaw s) (aside : Aside s t) (waits : WaitsOn s t)
    (spill : t.lamps.spill = s.lamps.spill) {c d : Check} (holds : s.lamps.holder = .check c)
    (goes : t.lamps.holder = .check d) (bound : d.bound = c.bound)
    (ahead : (if d.lit = true then d.remaining.tail else d.remaining)
      = if c.lit = true then c.remaining.tail else c.remaining)
    (pulse : s.dose.pulseSettle = none ∨ d.lit = c.lit) : RestingLaw t := by
  obtain ⟨accounts, ⟨held, whole⟩, pulseCovered, settled, shows⟩ := h
  have accounts' := aside.accounts accounts
  have shows' := aside.shows shows
  obtain ⟨store, -, strobes, pulses, -⟩ := aside
  refine ⟨accounts', ⟨fun c' b hc hb => ?_, waits.waits whole⟩, fun p hp => ?_, strobes.trans settled, shows'⟩
  · rw [goes] at hc
    cases hc
    rw [ahead, store, pulsesDose_of_spill spill]
    exact held c b holds (bound ▸ hb)
  · rw [pulses] at hp
    obtain none' | lit := pulse
    · rw [none'] at hp
      contradiction
    · obtain ⟨c', v, hc, on, hb, hv, cover⟩ := pulseCovered p hp
      rw [holds] at hc
      cases hc
      exact ⟨d, v, goes, lit.trans on, bound.trans hb, store ▸ hv, by rw [pulseDose_of_spill spill]; exact cover⟩

/-! ## A check ends (R93, R98) -/

theorem endCheck_allowance {s : State} (h : RestingLaw s) (settled : s.dose.pulseSettle = none)
    (ordered : CaptureOrdered s.capture) (still : s.capture.state ≠ .exposing) (c : Check) (outcome : CheckOutcome) :
    AllowanceLaw (endCheck s c outcome) := by
  have free : RestingLaw (setLamps s { s.lamps with holder := .free }) :=
    h.unchecked ⟨rfl, rfl, rfl, rfl, rfl⟩ (.inr rfl) settled (.inl rfl)
  exact grantNext_allowance ((finishCheck_resting free c outcome).law (by simpa using ordered) (by simpa using still))

/-! ## A pulse ends (R95, R96, R115) -/

/-- What a pulse's end leaves to be done: the check holds the lighting, its pulse settled. -/
structure Pulsed (s : State) (c : Check) : Prop where
  resting : RestingLaw s
  settled : s.dose.pulseSettle = none
  holds : s.lamps.holder = .check c
  ordered : CaptureOrdered s.capture
  still : s.capture.state ≠ .exposing

/-- The settle of a reading within the rated maximum lowers the totals, if it changes them at all. -/
theorem settlePulse_pulsed {s : State} (h : AllowanceLaw s) {c : Check} (holds : s.lamps.holder = .check c) {r : Nat}
    (rated : r ≤ ratedLux) : Pulsed (settlePulse s r) c := by
  have still := h.not_exposing (by simp [holds])
  have resting := h.at_rest still
  rcases hp : s.dose.pulseSettle with _ | p
  · have none' : settlePulse s r = s := by simp only [settlePulse, hp]
    rw [none']
    exact ⟨resting, hp, holds, h.ordered, still⟩
  · obtain ⟨accounts, ⟨held, whole⟩, pulse, settled, shows⟩ := resting
    obtain ⟨c', v, hc, lit, hb, hv, coverLeft, coverRight, coverWhole⟩ := pulse p hp
    obtain rfl := Holder.check.inj (holds.symm.trans hc)
    obtain ⟨distinct, v', hv', fits⟩ := held c p.bound holds hb
    obtain rfl := Slot.opened.inj (hv.symm.trans hv')
    have sound := accounts.opened hv
    have lower (face : Side) := pulseDose_mono s.lamps p.bank rated face
    have lowerLeft := lower .left
    have lowerRight := lower .right
    simp only [Sides.get] at lowerLeft lowerRight
    have cover : TotalsCover v p.bound.faces (addSides p.before (pulseDose s.lamps p.bank r))
        (p.volumeBefore + (pulseDose s.lamps p.bank r).left + (pulseDose s.lamps p.bank r).right) := by
      simp only [TotalsCover, addSides] at *
      omega
    rw [settlePulse_eq hp, onOpenSlot_opened (by exact hv)]
    refine ⟨⟨?_, ⟨fun d b hd hb' => ?_, whole⟩, pulseCovered_of_settled rfl, settled, ?_⟩, rfl, holds, h.ordered, still⟩
    · exact accounts.write rfl (settleVolume_account sound.1 distinct cover sound.2) rfl
    · obtain rfl := Holder.check.inj (holds.symm.trans hd)
      obtain rfl := Option.some.inj (hb.symm.trans hb')
      exact ⟨distinct, _, Slots.get_set_self _ _ _, predict_settled sound.1 distinct cover fits⟩
    · exact shows.write hv rfl rfl rfl

theorem Pulsed.noted {s t : State} {c : Check} (h : Pulsed s c) (k : Noted s t) : Pulsed t c :=
  ⟨h.resting.noted k, k.pulse.trans h.settled, k.lamps ▸ h.holds, k.capture ▸ h.ordered, k.capture ▸ h.still⟩

theorem Pulsed.judged {s : State} {c : Check} (h : Pulsed s c) (b : Bank) (r : Nat) (v : Verdict) :
    Pulsed (setLamps s (judged s.lamps b r v)) c := by
  rw [judged_eq]
  exact ⟨h.resting.held ⟨rfl, rfl, rfl, rfl, rfl⟩ (.inr rfl) rfl rfl, h.settled, h.holds, h.ordered, h.still⟩

theorem verdictReport_noted (s : State) (b : Bank) (r : Nat) (v : Verdict) : Noted s (verdictReport s b r v) := by
  cases v
  · exact noted_of_eq ⟨rfl, rfl, rfl, rfl, rfl⟩
  · exact (appendIncident_noted s _ _ _).trans (latch_noted _ _)
  · exact (appendIncident_noted s _ _ _).trans (latch_noted _ _)

/-- A judged check, its lit pulse taken off its banks, goes on or ends. -/
theorem Pulsed.goesOn {s : State} {c d : Check} (h : Pulsed s c) (lit : c.lit = true) (dark : d.lit = false)
    (bound : d.bound = c.bound) (ahead : d.remaining = c.remaining.tail) : AllowanceLaw (checkGoesOn s d) := by
  unfold checkGoesOn
  split
  · exact endCheck_allowance h.resting h.settled h.ordered h.still _ _
  · split
    · exact endCheck_allowance h.resting h.settled h.ordered h.still _ _
    · have goes : RestingLaw (setLamps s { s.lamps with holder := .check d }) :=
        h.resting.rechecked ⟨rfl, rfl, rfl, rfl, rfl⟩ (.inr rfl) rfl h.holds rfl bound (by simp [lit, dark, ahead])
          (.inl h.settled)
      exact goes.law h.ordered h.still

section

variable {s : State} (h : AllowanceLaw s)
include h

theorem pulseEnd_allowance {c : Check} {b : Bank} {rest : List Bank} (holds : s.lamps.holder = .check c)
    (lit : c.lit = true) (ahead : c.remaining = b :: rest) {r : Nat} (rated : r ≤ ratedLux) :
    AllowanceLaw (pulseEnd s c b rest r) := by
  have read : AllowanceLaw (setLamps s { s.lamps with lastReading := s.lamps.lastReading.set b (some r) }) := h
  have settled := settlePulse_pulsed read holds rated
  unfold pulseEnd
  refine Pulsed.goesOn (c := c) ?_ lit rfl rfl (by simp [ahead])
  exact (settled.judged b r _).noted (verdictReport_noted _ _ _ _)

theorem pulseStart_allowance {c : Check} {b : Bank} {rest : List Bank} (holds : s.lamps.holder = .check c)
    (dark : c.lit = false) (ahead : c.remaining = b :: rest) : AllowanceLaw (pulseStart s c b) := by
  unfold pulseStart
  dsimp only [idleRestart, setLamps]
  generalize s.lamps.reservoir - pulseCost = units
  split
  · next bound hb =>
    refine h.pulsed ?_ ?_ ?_ ?_ holds dark ahead ?_ hb
    · exact ⟨rfl, rfl, rfl, rfl, rfl⟩
    · exact .inr rfl
    · rfl
    · rfl
    · rfl
  · next hb =>
    have still := h.not_exposing (by simp [holds])
    obtain ⟨accounts, ⟨-, whole⟩, pulse, settled, shows⟩ := h.at_rest still
    have pulses : s.dose.pulseSettle = none := pulse.settled (by rintro d hd; rw [holds] at hd; cases hd; exact dark)
    refine RestingLaw.law ⟨accounts, ⟨fun d b' hd hb' => ?_, whole⟩, pulseCovered_of_settled pulses, settled, shows⟩
      h.ordered still
    cases hd
    rw [show _ = none from hb] at hb'
    contradiction

/-! ## The hood, and the checks asked for (R97, R101) -/

/-- The hood's opening as the check that holds the lighting sees it. -/
theorem hoodSeen_allowance : AllowanceLaw (match s.lamps.holder with
    | .check c =>
      if c.lit then setLamps s { s.lamps with holder := .check { c with hoodEnded := true } }
      else endCheck s c .endedHood
    | _ => s) := by
  split
  · next c holds =>
    have still := h.not_exposing (by simp [holds])
    have resting := h.at_rest still
    split
    · have ends := resting.rechecked (t := setLamps s { s.lamps with holder := .check { c with hoodEnded := true } })
        ⟨rfl, rfl, rfl, rfl, rfl⟩ (.inr rfl) rfl holds rfl rfl rfl (.inr rfl)
      exact ends.law h.ordered still
    · next dark =>
      obtain ⟨-, -, pulse, -⟩ := id resting
      refine endCheck_allowance resting (pulse.settled fun d hd => ?_) h.ordered still _ _
      rw [holds] at hd
      cases hd
      simpa using dark
  · exact h

theorem hoodEndsCheck_allowance : AllowanceLaw (hoodEndsCheck s) := by
  unfold hoodEndsCheck
  refine hoodSeen_allowance ?_
  split
  · refine finishCheck_allowance ?_ _ _
    exact h.unqueued ⟨rfl, rfl, rfl, rfl, rfl⟩ rfl ⟨rfl, rfl, rfl, rfl, rfl⟩ rfl
  · exact h

theorem takeReferenceCheck_allowance (banks : Nat) : AllowanceLaw (takeReferenceCheck banks s).1 := by
  unfold takeReferenceCheck
  split
  · exact h
  · dsimp only
    (repeat' split) <;> try exact h
    · exact doseRefused_allowance h _
    · refine aimRetest_allowance (supplyOn_allowance ?_)
      exact h.queued ⟨rfl, rfl, rfl, rfl, rfl⟩ rfl rfl rfl ⟨rfl, rfl, rfl, rfl, rfl⟩ rfl

end

end Sys2Proof.Machine
end

-- ==== Proofs: the allowances, an exposure's states ====
section
/-! StepsKeepTheAllowances, the strobes: how an exposure begins, its strobes are charged and settled, and it ends. -/

namespace Sys2Proof.Machine

open Sys2Proof.Config

/-! ## The capture moved on -/

theorem captureOrdered_exposing {c : Capture} (h : CaptureOrdered c) (exposing : c.state = .exposing) {side : Side}
    (asked : (c.sides.getD .both).has side = false) : c.progress.get side = .notRequested := h.2.1 exposing side asked

/-- No side of the capture comes to wait or to be lit. -/
theorem AllowanceLaw.progressed {s : State} (h : AllowanceLaw s) {d : Capture} (state : d.state = s.capture.state)
    (opening : d.opening = s.capture.opening) (ordered : CaptureOrdered d)
    (starts : ∀ side, mayStillStart d side = true → mayStillStart s.capture side = true)
    (lit : ∀ side, d.progress.get side = .lit → s.capture.progress.get side = .lit) :
    AllowanceLaw (setCapture s d) := by
  obtain ⟨⟨accounts, checks, pulse, -, exposing, record⟩, shows⟩ := h
  have fewer (side : Side) (dose : Sides Nat) :
      (if mayStillStart d side = true then dose else Sides.both 0).left
          ≤ (if mayStillStart s.capture side = true then dose else Sides.both 0).left
        ∧ (if mayStillStart d side = true then dose else Sides.both 0).right
          ≤ (if mayStillStart s.capture side = true then dose else Sides.both 0).right := by
    have := starts side
    split <;> split <;> simp_all [Sides.both]
  refine ⟨⟨accounts, checks, pulse, ordered, fun e => ?_, fun q hq => ?_⟩, shows⟩
  · obtain ⟨holds, ⟨n, slot, v, hn, low, hv, fits⟩, settles⟩ := exposing (state ▸ e)
    refine ⟨holds, ⟨n, slot, v, opening.trans hn, low, hv, predict_mono fits ?_ ?_⟩,
      fun side e => settles side (lit side e)⟩
    · exact Nat.add_le_add (fewer .left _).1 (fewer .right _).1
    · exact Nat.add_le_add (fewer .left _).2 (fewer .right _).2
  · obtain ⟨e, faces, cover, sides⟩ := record q hq
    refine ⟨state.trans e, (congrArg (Option.map facesOf) opening).trans faces, cover,
      fun side => ⟨fun on => ?_, fun on => ?_⟩⟩
    · exact (sides side).1 (lit side on)
    · exact (sides side).2 (starts side on)

/-- A capture with no strobe to come or to be settled goes on to a state that knows none. -/
theorem RestingLaw.retired {s : State} (h : RestingLaw s) {d : Capture} (arming : d.state ≠ .arming)
    (exposing : d.state ≠ .exposing) (off : ∀ side, d.trigger.get side = false) : AllowanceLaw (setCapture s d) :=
  RestingLaw.law (s := setCapture s d) h (captureOrdered_of_idle arming exposing off) exposing

theorem AllowanceLaw.retired {s : State} (h : AllowanceLaw s) (still : s.capture.state ≠ .exposing) {d : Capture}
    (arming : d.state ≠ .arming) (exposing : d.state ≠ .exposing) (trigger : d.trigger = s.capture.trigger) :
    AllowanceLaw (setCapture s d) :=
  (h.at_rest still).retired arming exposing fun side => trigger ▸ h.ordered.trigger_off still side

/-! ## An exposure begins (R123, R126) -/

/-- A capture admitted: nothing is under way, and its requested sides wait. -/
theorem AllowanceLaw.armed {s : State} (h : AllowanceLaw s) (still : s.capture.state ≠ .exposing) (v : Volume) {n : Nat}
    (low : 1 ≤ n) (sides : CaptureSides) (manual : Bool) :
    AllowanceLaw (setCapture s (captureRecord s v n sides manual)) := by
  refine RestingLaw.law (s := setCapture s (captureRecord s v n sides manual)) (h.at_rest still) ?_ nofun
  refine ⟨fun _ => ⟨rfl, ?_, fun side => ?_⟩, nofun, fun side on => ?_⟩
  · rintro m ⟨⟩
    exact low
  · cases side <;> rfl
  · cases side <;> exact absurd on nofun

/-- An ARMING capture that holds the lighting and whose prediction is confirmed asserts its triggers. -/
theorem AllowanceLaw.exposed {s : State} (h : AllowanceLaw s) (arming : s.capture.state = .arming)
    (holds : s.lamps.holder = .capture) {slot : SlotId} {v : Volume} (hopen : openSlot? s.store.slots = some (slot, v))
    {n : Nat} (hn : s.capture.opening = some n) {sides : CaptureSides} (hsides : s.capture.sides = some sides)
    (passes : predict v (facesOf n) (captureDose s.lamps s.lamps.fixedBanks sides) = none) (entry : Option Nat) :
    AllowanceLaw (setCapture s
      { s.capture with
          state := .exposing, entry := entry, faceDoses := Sides.both 0
          trigger := { left := sides.has .left, right := sides.has .right } }) := by
  have settled := h.1.settle_none (by simp [arming])
  obtain ⟨⟨accounts, checks, pulse, ⟨waits, -, -⟩, -⟩, shows⟩ := h
  obtain ⟨going, low, progress⟩ := waits arming
  simp only [hsides, Option.getD_some] at progress
  refine ⟨⟨accounts, checks, pulse, ⟨nofun, fun _ side asked => ?_, fun side on => ?_⟩, fun _ => ?_,
    fun q hq => ?_⟩, shows⟩
  · simp only [setCapture, hsides, Option.getD_some] at asked
    simp [setCapture, progress side, asked]
  · refine ⟨rfl, going, ?_⟩
    have asked : sides.has side = true := by cases side <;> exact on
    simp [setCapture, progress side, asked]
  · refine ⟨holds, ⟨n, slot, v, hn, low n hn, hopen, ?_⟩, fun side lit => ?_⟩
    · have starts (side : Side) : mayStillStart { s.capture with
          state := .exposing, entry := entry, faceDoses := Sides.both 0
          trigger := { left := sides.has .left, right := sides.has .right } } side = sides.has side := by
        cases asked : sides.has side <;> simp [mayStillStart, going, progress side, asked]
      simp only [strobesAhead, setCapture, starts]
      exact passes
    · simp only [setCapture, progress side] at lit
      split at lit <;> contradiction
  · exact absurd (settled.symm.trans hq) nofun

theorem lightingReady_allowance {s : State} (h : AllowanceLaw s) (arming : s.capture.state = .arming)
    (holds : s.lamps.holder = .capture) : AllowanceLaw (lightingReady s) := by
  have ended {u : State} (hu : AllowanceLaw u) (e : u.capture = s.capture) (outcome : CaptureOutcome) :
      AllowanceLaw (captureEndArming u outcome) := captureEndArming_allowance hu (by simp [e, arming]) outcome
  unfold lightingReady
  split
  · next v n sides hv hn hsides =>
    obtain ⟨⟨slot, w⟩, hopen, rfl⟩ := Option.map_eq_some_iff.mp hv
    split
    · exact ended (doseRefused_allowance h _) (by simp) _
    · next passes =>
      split
      · have noted := appendCapture_noted s (s.capture.take.getD 0) sides
        obtain ⟨w', hw', same⟩ := noted.opens slot w (openSlot?_get hopen)
        have stored := h.noted noted
        refine stored.exposed (by rw [noted.capture, arming]) (by rw [noted.lamps, holds])
          (openSlot?_of_get stored.2.1 hw') (by rw [noted.capture, hn]) (by rw [noted.capture, hsides]) ?_ _
        rw [same.predict_eq, noted.lamps]
        exact passes
      · exact ended (h.noted (loseEntry_noted s 0)) (by simp) _
  · exact h

end Sys2Proof.Machine
end

-- ==== Proofs: the allowances, a strobe's charge ====
section
/-! StepsKeepTheAllowances, the strobes charged at their starts and settled at their ends. -/

namespace Sys2Proof.Machine

open Sys2Proof.Config

/-! ## One side taken first -/

/-- The side not given. -/
def otherSide : Side → Side
  | .left => .right
  | .right => .left

theorem otherSide_ne (side : Side) : side ≠ otherSide side := by
  cases side <;> decide

theorem addSides_comm (a b : Sides Nat) : addSides a b = addSides b a := by
  simp only [addSides, Nat.add_comm]

/-- What a side's strobe will add if it may still start. -/
def strobeAhead (s : State) (side : Side) : Sides Nat :=
  if mayStillStart s.capture side = true then strobeDose s.lamps s.lamps.fixedBanks side (s.lamps.duration.get side)
  else Sides.both 0

theorem strobesAhead_eq (s : State) (side : Side) :
    strobesAhead s = addSides (strobeAhead s side) (strobeAhead s (otherSide side)) := by
  cases side
  · rfl
  · exact addSides_comm _ _

theorem countedTotal_eq (q : CaptureSettle) (side : Side) :
    countedTotal q = addSides (strobeCounts q side) (strobeCounts q (otherSide side)) := by
  rw [countedTotal, countedDose_eq, countedDose_eq]
  cases side
  · rfl
  · exact addSides_comm _ _

theorem strobeCounts_congr {q r : CaptureSettle} {side : Side} (actual : r.actual.get side = q.actual.get side)
    (predicted : r.predicted.get side = q.predicted.get side) : strobeCounts r side = strobeCounts q side := by
  simp only [strobeCounts, actual, predicted]

/-! ## The record of an exposure's strobes (R111, R112) -/

/-- The totals cover those before the capture with what each side counts. -/
def RecordCovers (v : Volume) (q : CaptureSettle) : Prop :=
  TotalsCover v q.faces (addSides q.before (countedTotal q))
    (q.volumeBefore + (countedTotal q).left + (countedTotal q).right)

/-- A lit strobe counts its predicted doses, and no strobe still to come counts actual ones. -/
def SidesCounted (c : Capture) (l : Lamps) (q : CaptureSettle) : Prop :=
  ∀ side,
    (c.progress.get side = .lit →
        q.actual.get side = none
          ∧ q.predicted.get side = some (strobeDose l l.fixedBanks side (l.duration.get side)))
      ∧ (mayStillStart c side = true → q.actual.get side = none)

/-- The record once a strobe has started. -/
def startedRecord (q : CaptureSettle) (side : Side) (dose : Sides Nat) : CaptureSettle :=
  { q with predicted := q.predicted.set side (some dose) }

/-- The record once a strobe has ended. -/
def endedRecord (q : CaptureSettle) (side : Side) (actual : Sides Nat) : CaptureSettle :=
  { q with actual := q.actual.set side (some actual) }

/-- A strobe that starts counts its predicted doses. -/
theorem countedTotal_started {q : CaptureSettle} {side : Side} (unsettled : q.actual.get side = none)
    (dose : Sides Nat) :
    (countedTotal (startedRecord q side dose)).left ≤ (countedTotal q).left + dose.left
      ∧ (countedTotal (startedRecord q side dose)).right ≤ (countedTotal q).right + dose.right := by
  have other : strobeCounts (startedRecord q side dose) (otherSide side) = strobeCounts q (otherSide side) :=
    strobeCounts_congr rfl (by simp [startedRecord, otherSide_ne side])
  have own : strobeCounts (startedRecord q side dose) side = dose := by
    simp [strobeCounts, startedRecord, unsettled]
  rw [countedTotal_eq q side, countedTotal_eq _ side, other, own]
  simp only [addSides]
  omega

/-- A strobe that ends counts its actual doses, which are no more than its predicted ones. -/
theorem countedTotal_ended {q : CaptureSettle} {side : Side} (unsettled : q.actual.get side = none)
    {dose actual : Sides Nat} (predicted : q.predicted.get side = some dose) (left : actual.left ≤ dose.left)
    (right : actual.right ≤ dose.right) :
    (countedTotal (endedRecord q side actual)).left ≤ (countedTotal q).left
      ∧ (countedTotal (endedRecord q side actual)).right ≤ (countedTotal q).right := by
  have other : strobeCounts (endedRecord q side actual) (otherSide side) = strobeCounts q (otherSide side) :=
    strobeCounts_congr (by simp [endedRecord, otherSide_ne side]) rfl
  have own : strobeCounts (endedRecord q side actual) side = actual := by
    simp [strobeCounts, endedRecord]
  have before : strobeCounts q side = dose := by simp [strobeCounts, unsettled, predicted]
  rw [countedTotal_eq q side, countedTotal_eq _ side, other, own, before]
  simp only [addSides]
  omega

section

variable {v : Volume} {q : CaptureSettle} (cover : RecordCovers v q)
include cover

/-- The charge of a strobe raises the totals by what the record then counts more. -/
theorem RecordCovers.started (wf : facesWf v.faces = true) (distinct : q.faces.left ≠ q.faces.right) {side : Side}
    (unsettled : q.actual.get side = none) (dose : Sides Nat) (own : Option Side) :
    RecordCovers (chargeVolume q.faces dose own v) (startedRecord q side dose) := by
  obtain ⟨left, right⟩ := countedTotal_started unsettled dose
  obtain ⟨coverLeft, coverRight, coverWhole⟩ := cover
  obtain ⟨chargedLeft, chargedRight⟩ := chargeVolume_totals wf distinct dose own
  have chargedWhole := chargeVolume_total q.faces dose own v
  obtain ⟨faces, before, volume⟩ : (startedRecord q side dose).faces = q.faces
      ∧ (startedRecord q side dose).before = q.before
      ∧ (startedRecord q side dose).volumeBefore = q.volumeBefore := ⟨rfl, rfl, rfl⟩
  simp only [RecordCovers, TotalsCover, addSides, faces, before, volume, chargedLeft, chargedRight,
    chargedWhole] at *
  omega

/-- The record of a strobe that has ended counts no more than before. -/
theorem RecordCovers.ended {side : Side} (unsettled : q.actual.get side = none) {dose actual : Sides Nat}
    (predicted : q.predicted.get side = some dose) (left : actual.left ≤ dose.left)
    (right : actual.right ≤ dose.right) : RecordCovers v (endedRecord q side actual) := by
  obtain ⟨fewerLeft, fewerRight⟩ := countedTotal_ended unsettled predicted left right
  obtain ⟨coverLeft, coverRight, coverWhole⟩ := cover
  obtain ⟨faces, before, volume⟩ : (endedRecord q side actual).faces = q.faces
      ∧ (endedRecord q side actual).before = q.before
      ∧ (endedRecord q side actual).volumeBefore = q.volumeBefore := ⟨rfl, rfl, rfl⟩
  simp only [RecordCovers, TotalsCover, addSides, faces, before, volume] at *
  omega

end

/-- The volume settled to what its record counts. -/
def settledTo (v : Volume) (q : CaptureSettle) : Volume :=
  settleVolume q.faces (addSides q.before (countedTotal q))
    (q.volumeBefore + (countedTotal q).left + (countedTotal q).right) v

theorem settledTo_covers {v : Volume} {q : CaptureSettle} (wf : facesWf v.faces = true)
    (distinct : q.faces.left ≠ q.faces.right) : RecordCovers (settledTo v q) q := by
  obtain ⟨left, right, whole⟩ := settleVolume_totals wf distinct (addSides q.before (countedTotal q))
    (q.volumeBefore + (countedTotal q).left + (countedTotal q).right)
  exact ⟨left.ge, right.ge, whole.ge⟩

/-! ## A strobe goes on -/

/-- The record that a strobe's charge joins stands on the faces of the capture's opening, in the OPEN volume. -/
theorem AllowanceLaw.strobeRecord {s : State} (h : AllowanceLaw s) (exposing : s.capture.state = .exposing)
    {slot : SlotId} {v : Volume} (hopen : openSlot? s.store.slots = some (slot, v)) {n : Nat}
    (hn : s.capture.opening = some n) :
    let q := strobeRecord s slot v n
    q.slot = slot ∧ q.faces = facesOf n ∧ RecordCovers v q ∧ SidesCounted s.capture s.lamps q := by
  obtain ⟨⟨-, -, -, -, covered, record⟩, one, -⟩ := h
  obtain ⟨-, -, lit⟩ := covered exposing
  unfold Machine.strobeRecord
  rcases hq : s.dose.captureSettle with _ | q
  · refine ⟨rfl, rfl, ?_, fun side => ⟨fun on => ?_, fun _ => ?_⟩⟩
    · simp [RecordCovers, TotalsCover, countedTotal, countedDose, addSides, Sides.both, Sides.get, facesOf, leftFace,
        rightFace]
    · have := lit side on
      simp [hq] at this
    · cases side <;> rfl
  · obtain ⟨-, faces, ⟨w, hw, cover⟩, sides⟩ := record q hq
    obtain ⟨rfl, rfl⟩ : q.slot = slot ∧ w = v := by
      have := (openSlot?_of_get one hw).symm.trans hopen
      simpa using this
    rw [hn] at faces
    exact ⟨rfl, (Option.some.inj faces).symm, cover, sides⟩

/-- A side under way in EXPOSING moves on. -/
theorem CaptureOrdered.moved {c d : Capture} (h : CaptureOrdered c) (exposing : c.state = .exposing) {side : Side}
    {p : Progress} (began : c.progress.get side ≠ .notRequested) (state : d.state = c.state)
    (voiding : d.voiding = c.voiding) (asks : d.sides = c.sides) (progress : d.progress = c.progress.set side p)
    (trigger : ∀ x, d.trigger.get x = true → x ≠ side ∧ c.trigger.get x = true) : CaptureOrdered d := by
  obtain ⟨-, idle, waits⟩ := h
  refine ⟨fun e => ?_, fun _ x asked => ?_, fun x on => ?_⟩
  · simp [state, exposing] at e
  · rw [asks] at asked
    have none' := idle exposing x asked
    by_cases e : x = side
    · exact absurd (e ▸ none') began
    · simpa [progress, Ne.symm e] using none'
  · obtain ⟨other, on'⟩ := trigger x on
    obtain ⟨e, going, waiting⟩ := waits x on'
    exact ⟨state.trans e, voiding.trans going, by simpa [progress, Ne.symm other] using waiting⟩

/-- A side past its trigger has none outstanding. -/
theorem CaptureOrdered.trigger_elsewhere {c : Capture} (h : CaptureOrdered c) {side : Side}
    (past : c.progress.get side ≠ .triggered) (x : Side) (on : c.trigger.get x = true) :
    x ≠ side ∧ c.trigger.get x = true := by
  refine ⟨fun e => past ?_, on⟩
  subst e
  exact (h.2.2 x on).2.2

/-- One side's strobe is lit, or has ended; the rest of the capture stands. -/
structure StrobeMoved (c d : Capture) (side : Side) (p : Progress) : Prop where
  state : d.state = c.state
  voiding : d.voiding = c.voiding
  sides : d.sides = c.sides
  opening : d.opening = c.opening
  trigger : d.trigger = c.trigger
  progress : d.progress = c.progress.set side p

theorem StrobeMoved.ordered {c d : Capture} {side : Side} {p : Progress} (k : StrobeMoved c d side p)
    (h : CaptureOrdered c) (exposing : c.state = .exposing) (began : c.progress.get side ≠ .notRequested)
    (past : c.progress.get side ≠ .triggered) : CaptureOrdered d :=
  h.moved exposing began k.state k.voiding k.sides k.progress
    fun x on => h.trigger_elsewhere past x (k.trigger ▸ on)

/-- A side whose strobe is lit or has ended starts none; the other side stands. -/
theorem StrobeMoved.mayStillStart_eq {c d : Capture} {side : Side} {p : Progress} (k : StrobeMoved c d side p)
    (past : p = .lit ∨ p = .awaitFall ∨ p = .done) (x : Side) :
    mayStillStart d x = (mayStillStart c x && decide (x ≠ side)) := by
  by_cases e : x = side
  · subst e
    obtain rfl | rfl | rfl := past <;> simp [mayStillStart, k.progress]
  · simp [mayStillStart, k.progress, k.state, k.voiding, Ne.symm e, e]

/-- With one side past its start, only the other side's strobe may still come. -/
theorem StrobeMoved.strobesAhead_eq {s t : State} {side : Side} {p : Progress}
    (k : StrobeMoved s.capture t.capture side p) (past : p = .lit ∨ p = .awaitFall ∨ p = .done)
    (lamps : t.lamps = s.lamps) : strobesAhead t = strobeAhead s (otherSide side) := by
  rw [Machine.strobesAhead_eq t side]
  simp [strobeAhead, k.mayStillStart_eq past, lamps, addSides, Sides.both, (otherSide_ne side).symm]

/-- The OPEN volume's record and the record of the exposure's strobes are written; what else the law reads stands. -/
structure Recounted (s t : State) (v w : Volume) (q : CaptureSettle) : Prop where
  was : openSlot? s.store.slots = some (q.slot, v)
  slots : t.store.slots = s.store.slots.set q.slot (.opened w)
  profile : w.profile = v.profile
  tracker : t.tracker = s.tracker
  lamps : t.lamps = s.lamps
  pulse : t.dose.pulseSettle = s.dose.pulseSettle
  record : t.dose.captureSettle = some q

/-- An exposure's account rewritten keeps the law where the new record tells what the totals hold. -/
theorem AllowanceLaw.recounted {s t : State} (h : AllowanceLaw s) (exposing : s.capture.state = .exposing)
    {v w : Volume} {q : CaptureSettle} (k : Recounted s t v w q) {side : Side} {p : Progress}
    (moved : StrobeMoved s.capture t.capture side p) (ordered : CaptureOrdered t.capture)
    (faces : s.capture.opening.map facesOf = some q.faces) (sound : facesWf w.faces = true ∧ WithinAllowances w)
    (fits : predict w q.faces (strobesAhead t) = none) (cover : RecordCovers w q)
    (sides : SidesCounted t.capture t.lamps q) : AllowanceLaw t := by
  obtain ⟨⟨accounts, ⟨-, whole⟩, pulse, -, covered, -⟩, shows⟩ := h
  obtain ⟨holds, ⟨n, -, -, hn, low, -⟩, -⟩ := covered exposing
  have shows' := shows.write (openSlot?_get k.was) k.slots k.profile k.tracker
  have hw : t.store.slots.get q.slot = .opened w := by
    rw [k.slots]
    exact Slots.get_set_self _ _ _
  have pulses : t.dose.pulseSettle = none := k.pulse.trans (pulse.settled (by simp [holds]))
  have checks : CheckCovered t := by
    refine ⟨fun c b hc _ => ?_, k.lamps ▸ whole⟩
    rw [k.lamps, holds] at hc
    contradiction
  have on : facesOf n = q.faces := by
    rw [hn] at faces
    exact Option.some.inj faces
  refine ⟨⟨accounts.write k.slots sound (by rw [k.lamps]), checks, pulseCovered_of_settled pulses, ordered,
    fun _ => ⟨k.lamps ▸ holds, ⟨n, q.slot, w, moved.opening.trans hn, low, openSlot?_of_get shows'.1 hw, on ▸ fits⟩,
      fun _ _ => by rw [k.record]; rfl⟩, fun r hr => ?_⟩, shows'⟩
  obtain rfl := Option.some.inj (k.record.symm.trans hr)
  exact ⟨moved.state.trans exposing, moved.opening ▸ faces, ⟨w, hw, cover⟩, sides⟩

/-! ## A strobe starts (R111, R126) -/

/-- The side that starts counts its predicted doses, the other one what it counted. -/
theorem SidesCounted.started {c d : Capture} {l : Lamps} {q : CaptureSettle} (h : SidesCounted c l q) {side : Side}
    (k : StrobeMoved c d side .lit) (waits : mayStillStart c side = true) :
    SidesCounted d l (startedRecord q side (strobeDose l l.fixedBanks side (l.duration.get side))) := by
  intro x
  refine ⟨fun lit => ?_, fun start => ?_⟩
  · by_cases e : side = x
    · subst e
      exact ⟨(h side).2 waits, by simp [startedRecord]⟩
    · rw [k.progress] at lit
      simpa [startedRecord, e] using (h x).1 (by simpa [e] using lit)
  · rw [k.mayStillStart_eq (.inl rfl), Bool.and_eq_true] at start
    exact (h x).2 start.1

/-- A strobe whose delay has run is charged on the faces of the capture's opening. -/
theorem AllowanceLaw.strobeCharged {s : State} (h : AllowanceLaw s) (exposing : s.capture.state = .exposing)
    (going : s.capture.voiding = false) {side : Side} (delay : s.capture.progress.get side = .delay) {d : Capture}
    (k : StrobeMoved s.capture d side .lit) : AllowanceLaw (chargeStrobe (setCapture s d) side) := by
  obtain ⟨⟨accounts, -, -, ordered, covered, -⟩, -⟩ := id h
  obtain ⟨-, ⟨n, slot, v, hn, low, hopen, fits⟩, -⟩ := covered exposing
  obtain ⟨hslot, hfaces, cover, sides⟩ := h.strobeRecord exposing hopen hn
  have sound := accounts.opened (openSlot?_get hopen)
  have distinct := facesOf_distinct low
  have waits : mayStillStart s.capture side = true := by simp [mayStillStart, exposing, going, delay]
  have ordered' : CaptureOrdered d := k.ordered ordered exposing (by simp [delay]) (by simp [delay])
  have sides' := sides.started k waits
  have cover' := cover.started sound.1 (hfaces ▸ distinct) ((sides side).2 waits)
    (strobeDose s.lamps s.lamps.fixedBanks side (s.lamps.duration.get side)) (some side)
  rw [strobesAhead_eq s side, strobeAhead, if_pos waits] at fits
  rw [chargeStrobe_eq (s := setCapture s d) hopen (k.opening.trans hn) side]
  change AllowanceLaw (charge { setCapture s d with dose := { s.dose with
    captureSettle := some (startedRecord (Machine.strobeRecord s slot v n) side
      (strobeDose s.lamps s.lamps.fixedBanks side (s.lamps.duration.get side))) } } (facesOf n)
    (strobeDose s.lamps s.lamps.fixedBanks side (s.lamps.duration.get side)) (some side))
  generalize Machine.strobeRecord s slot v n = q at hslot hfaces cover' sides'
  generalize strobeDose s.lamps s.lamps.fixedBanks side (s.lamps.duration.get side) = dose at fits cover' sides'
  subst hslot
  rw [hfaces] at cover'
  have slots := congrArg Store.slots (charge_noted_store (s := setCapture s d) hopen
    { s.dose with captureSettle := some (startedRecord q side dose) } (facesOf n) dose (some side))
  have on : (startedRecord q side dose).faces = facesOf n := hfaces
  refine h.recounted exposing (v := v) (w := chargeVolume (facesOf n) dose (some side) v)
    (q := startedRecord q side dose) (side := side) (p := .lit) ⟨hopen, slots, rfl, ?_, ?_, ?_, ?_⟩ ?_ ?_ ?_ ?_ ?_
    cover' ?_
  · simp [setCapture]
  · simp [setCapture]
  · simp [setCapture]
  · simp
  · simpa [setCapture] using k
  · simpa [setCapture] using ordered'
  · rw [on, hn]
    rfl
  · refine chargeVolume_account sound (predict_mono fits ?_ ?_) _
    · exact Nat.le_add_right _ _
    · exact Nat.le_add_right _ _
  · rw [StrobeMoved.strobesAhead_eq (s := s) (side := side) (p := .lit) (by simpa [setCapture] using k) (.inl rfl)
      (by simp [setCapture]), on]
    exact predict_charged sound.1 distinct fits (some side)
  · simpa [setCapture] using sides'

end Sys2Proof.Machine
end

-- ==== Proofs: the allowances, a strobe's settle ====
section
/-! StepsKeepTheAllowances, how an exposure goes on and ends: its strobes settled, its voids and its completion. -/

namespace Sys2Proof.Machine

open Sys2Proof.Config

section

variable {s : State} (h : AllowanceLaw s)
include h

theorem startStrobe_allowance (exposing : s.capture.state = .exposing) (going : s.capture.voiding = false) {side : Side}
    (delay : s.capture.progress.get side = .delay) : AllowanceLaw (startStrobe s side) := by
  have drawn : AllowanceLaw { s with lamps := { s.lamps with
      reservoir := s.lamps.reservoir - strobeCost s.lamps s.lamps.fixedBanks side
      idleStage := .active, idleElapsed := 0, idleUs := 0 } } := h
  exact drawn.strobeCharged exposing going delay ⟨rfl, rfl, rfl, rfl, rfl, rfl⟩

/-- A rise ends a trigger's wait, and a delay of 0 at once. -/
theorem takeRise_allowance {side : Side} (on : s.capture.trigger.get side = true) : AllowanceLaw (takeRise s side) := by
  obtain ⟨exposing, going, waiting⟩ := h.ordered.2.2 side on
  have risen : AllowanceLaw (setCapture s
      { s.capture with
          frame := s.capture.frame.set side (some (s.capture.counter.get side))
          trigger := s.capture.trigger.set side false
          progress := s.capture.progress.set side .delay }) := by
    refine h.progressed rfl rfl (h.ordered.moved exposing (side := side) (by simp [waiting]) rfl rfl rfl rfl ?_) ?_ ?_
    · intro x on
      by_cases e : side = x
      · simp [e] at on
      · exact ⟨Ne.symm e, by simpa [e] using on⟩
    · intro x waits
      by_cases e : side = x
      · simp [mayStillStart, exposing, going, ← e, waiting]
      · simpa [mayStillStart, e] using waits
    · intro x lit
      by_cases e : side = x
      · simp [e] at lit
      · simpa [e] using lit
  unfold takeRise
  dsimp only
  split
  · exact startStrobe_allowance risen exposing going (by simp [setCapture])
  · exact risen

/-! ## Settles (R112) -/

omit h in
theorem closeSettle_capture (s : State) : ∃ doses, (closeSettle s).capture = { s.capture with faceDoses := doses } := by
  rcases hq : s.dose.captureSettle with _ | q
  · exact ⟨s.capture.faceDoses, by rw [closeSettle_of_none hq]⟩
  · rw [closeSettle_eq hq]
    split
    · exact ⟨_, rfl⟩
    · exact ⟨_, rfl⟩

theorem closeSettle_allowance : AllowanceLaw (closeSettle s) := by
  rcases hq : s.dose.captureSettle with _ | q
  · rwa [closeSettle_of_none hq]
  · rw [closeSettle_eq hq]
    split
    · exact h
    · next past =>
      obtain ⟨⟨accounts, checks, pulse, ordered, exposing, -⟩, shows⟩ := h
      refine ⟨⟨accounts, checks, pulse, ordered, fun e => ?_, fun r hr => absurd hr nofun⟩, shows⟩
      obtain ⟨holds, fits, -⟩ := exposing e
      refine ⟨holds, fits, fun side lit => absurd ?_ past⟩
      exact (strobesOutstanding_iff _).mpr (.inl ⟨side, lit⟩)

omit h in
theorem closeSettle_settled (past : ¬ StrobesOutstanding s.capture) : (closeSettle s).dose.captureSettle = none := by
  rcases hq : s.dose.captureSettle with _ | q
  · rw [closeSettle_of_none hq, hq]
  · rw [closeSettle_eq hq, if_neg past]

/-- The record while a strobe is lit. -/
theorem AllowanceLaw.lit_record (exposing : s.capture.state = .exposing) {side : Side}
    (lit : s.capture.progress.get side = .lit) :
    ∃ q v, s.dose.captureSettle = some q ∧ openSlot? s.store.slots = some (q.slot, v)
      ∧ s.capture.opening.map facesOf = some q.faces ∧ q.faces.left ≠ q.faces.right
      ∧ predict v q.faces (strobesAhead s) = none ∧ RecordCovers v q ∧ SidesCounted s.capture s.lamps q := by
  obtain ⟨⟨-, -, -, -, covered, record⟩, one, -⟩ := h
  obtain ⟨-, ⟨n, slot, v, hn, low, hopen, fits⟩, settles⟩ := covered exposing
  obtain ⟨q, hq⟩ := Option.isSome_iff_exists.mp (settles side lit)
  obtain ⟨-, faces, ⟨w, hw, cover⟩, sides⟩ := record q hq
  obtain ⟨rfl, rfl⟩ : q.slot = slot ∧ w = v := by
    have := (openSlot?_of_get one hw).symm.trans hopen
    simpa using this
  have on : facesOf n = q.faces := by
    rw [hn] at faces
    exact Option.some.inj faces
  exact ⟨q, w, hq, hopen, faces, on ▸ facesOf_distinct low, on ▸ fits, cover, sides⟩

omit h in
/-- A side that has ended is lit no more, and starts none; the other one counts what it counted. -/
theorem SidesCounted.ended {c d : Capture} {l : Lamps} {q : CaptureSettle} (counts : SidesCounted c l q) {side : Side}
    {p : Progress} (past : p = .awaitFall ∨ p = .done) (k : StrobeMoved c d side p) (actual : Sides Nat) :
    SidesCounted d l (endedRecord q side actual) := by
  intro x
  refine ⟨fun lit => ?_, fun start => ?_⟩
  · by_cases e : side = x
    · rw [k.progress, Sides.get_set, if_pos e] at lit
      obtain rfl | rfl := past <;> contradiction
    · rw [k.progress] at lit
      simpa [endedRecord, e] using (counts x).1 (by simpa [e] using lit)
  · rw [k.mayStillStart_eq (.inr past), Bool.and_eq_true, decide_eq_true_eq] at start
    obtain ⟨start, other⟩ := start
    simpa [endedRecord, other.symm] using (counts x).2 start

/-- The state in which a strobe's end leaves the settle record and the account. -/
def strobeEnded (s : State) (v : Volume) (q : CaptureSettle) (side : Side) (actual : Nat) (next : Progress) : State :=
  { s with
    capture :=
      { s.capture with
        duration := s.capture.duration.set side actual
        progress := s.capture.progress.set side next, litUs := s.capture.litUs.set side 0 }
    dose := { s.dose with captureSettle := some q }
    store := { s.store with slots := s.store.slots.set q.slot (.opened (settledTo v q)) } }

/-- A lit strobe is settled at no more than its set duration. -/
theorem endStrobe_allowance (exposing : s.capture.state = .exposing) {side : Side}
    (lit : s.capture.progress.get side = .lit) {actual : Nat} (short : actual ≤ s.lamps.duration.get side)
    {next : Progress} (past : next = .awaitFall ∨ next = .done) : AllowanceLaw (endStrobe s side actual next) := by
  obtain ⟨q, v, hq, hopen, faces, distinct, fits, cover, sides⟩ := h.lit_record exposing lit
  obtain ⟨unsettled, predicted⟩ := (sides side).1 lit
  have hv := openSlot?_get hopen
  obtain ⟨wf, within⟩ := h.1.1.opened hv
  have shorter (face : Side) := strobeDose_mono s.lamps s.lamps.fixedBanks side short face
  have settled : endStrobe s side actual next = closeSettle (strobeEnded s v
      (endedRecord q side (strobeDose s.lamps s.lamps.fixedBanks side actual)) side actual next) :=
    endStrobe_eq hq hv side actual next
  have cover' := cover.ended unsettled predicted (shorter .left) (shorter .right)
  generalize hr : endedRecord q side (strobeDose s.lamps s.lamps.fixedBanks side actual) = r at settled cover'
  have moved : StrobeMoved s.capture (strobeEnded s v r side actual next).capture side next :=
    ⟨rfl, rfl, rfl, rfl, rfl, rfl⟩
  obtain ⟨rslot, rfaces⟩ : r.slot = q.slot ∧ r.faces = q.faces := by
    subst hr
    exact ⟨rfl, rfl⟩
  rw [← rslot] at hopen
  rw [← rfaces] at faces distinct fits
  have ahead : predict v r.faces (strobesAhead (strobeEnded s v r side actual next)) = none := by
    rw [moved.strobesAhead_eq (.inr past) rfl]
    rw [strobesAhead_eq s side, addSides_comm] at fits
    exact predict_mono fits (Nat.le_add_right _ _) (Nat.le_add_right _ _)
  rw [settled]
  refine closeSettle_allowance (h.recounted exposing ⟨hopen, rfl, rfl, rfl, rfl, rfl, rfl⟩ moved ?_ faces ?_ ?_
    (settledTo_covers wf distinct) ?_)
  · exact moved.ordered h.ordered exposing (by simp [lit]) (by simp [lit])
  · exact settleVolume_account wf distinct cover' within
  · exact predict_settled wf distinct cover' ahead
  · exact hr ▸ sides.ended past (hr ▸ moved) _

end

end Sys2Proof.Machine
end

-- ==== Proofs: the allowances, the ends of an exposure ====
section
/-! StepsKeepTheAllowances, the ends of an exposure: cuts, voids, completion, and the press and its loss. -/

namespace Sys2Proof.Machine

open Sys2Proof.Config

/-! ## Strobes cut (R127, R128, R134) -/

theorem endStrobe_capture (s : State) (side : Side) (actual : Nat) (next : Progress) :
    (endStrobe s side actual next).capture.state = s.capture.state
      ∧ (endStrobe s side actual next).capture.voiding = s.capture.voiding
      ∧ (endStrobe s side actual next).capture.progress = s.capture.progress.set side next := by
  unfold endStrobe
  obtain ⟨doses, e⟩ := closeSettle_capture (settleStrobe (setCapture s
    { s.capture with
        duration := s.capture.duration.set side actual
        progress := s.capture.progress.set side next
        litUs := s.capture.litUs.set side 0 }) side actual)
  rw [e]
  simp [setCapture]

theorem cutStrobe_capture (s : State) (side : Side) :
    (cutStrobe s side).capture.state = s.capture.state ∧ (cutStrobe s side).capture.voiding = s.capture.voiding
      ∧ ∀ x, (cutStrobe s side).capture.progress.get x = .lit → x ≠ side ∧ s.capture.progress.get x = .lit := by
  unfold cutStrobe
  split
  · obtain ⟨state, voiding, progress⟩ := endStrobe_capture s side (cutDuration s side) .awaitFall
    refine ⟨state, voiding, fun x on => ?_⟩
    rw [progress] at on
    by_cases e : side = x
    · simp [e] at on
    · exact ⟨Ne.symm e, by simpa [e] using on⟩
  · next dark => exact ⟨rfl, rfl, fun x on => ⟨fun e => dark (e ▸ on), on⟩⟩

/-- A voiding capture with no strobe lit has none outstanding. -/
theorem not_strobesOutstanding {c : Capture} (voiding : c.voiding = true) (dark : ∀ side, c.progress.get side ≠ .lit) :
    ¬ StrobesOutstanding c := by
  rw [strobesOutstanding_iff]
  rintro (⟨side, lit⟩ | ⟨side, waits⟩)
  · exact dark side lit
  · simp [mayStillStart, voiding] at waits

theorem cutDuration_le {s : State} (h : AllowanceLaw s) (side : Side) :
    cutDuration s side ≤ s.lamps.duration.get side :=
  max_le (h.1.1.2 side) (min_le_right _ _)

section

variable {s : State} (h : AllowanceLaw s)
include h

theorem cutStrobe_allowance (exposing : s.capture.state = .exposing) (side : Side) :
    AllowanceLaw (cutStrobe s side) := by
  unfold cutStrobe
  split
  · next lit => exact endStrobe_allowance h exposing lit (cutDuration_le h side) (.inl rfl)
  · exact h

/-- A capture voided, its triggers withdrawn, can start no strobe. -/
theorem AllowanceLaw.voided (exposing : s.capture.state = .exposing) {d : Capture} (state : d.state = s.capture.state)
    (voiding : d.voiding = true) (asks : d.sides = s.capture.sides) (opening : d.opening = s.capture.opening)
    (progress : d.progress = s.capture.progress) (trigger : d.trigger = Sides.both false) :
    AllowanceLaw (setCapture s d) := by
  refine h.progressed state opening ⟨fun e => ?_, fun _ side asked => ?_, fun side on => ?_⟩ ?_ ?_
  · simp [state, exposing] at e
  · rw [asks] at asked
    rw [progress]
    exact captureOrdered_exposing h.ordered exposing asked
  · rw [trigger] at on
    cases side <;> exact absurd on nofun
  · intro side waits
    simp [mayStillStart, voiding] at waits
  · intro side lit
    rwa [progress] at lit

theorem markVoiding_allowance (exposing : s.capture.state = .exposing) : AllowanceLaw (markVoiding s) :=
  h.voided exposing rfl rfl rfl rfl rfl rfl

/-! ## The end of a void (R128, R134) -/

theorem finishVoid_allowance (exposing : s.capture.state = .exposing) (settled : s.dose.captureSettle = none)
    (outcome : CaptureOutcome) : AllowanceLaw (finishVoid s outcome) := by
  obtain ⟨-, -, pulse, -, covered, -⟩ := h.1
  have pulses : s.dose.pulseSettle = none := pulse.settled (by simp [(covered exposing).1])
  have written := (h.resting settled).noted (writeResults_noted s .void)
  unfold finishVoid
  exact captureToNone_allowance (releaseLighting_resting (freeClaim_resting written) (by simpa using pulses)) _

theorem voidExposing_allowance (exposing : s.capture.state = .exposing) (outcome : CaptureOutcome) :
    AllowanceLaw (voidExposing s outcome) := by
  obtain ⟨state, voiding, lit⟩ := cutStrobe_capture (markVoiding s) .left
  obtain ⟨state', voiding', lit'⟩ := cutStrobe_capture (cutStrobe (markVoiding s) .left) .right
  have exposing' := state'.trans (state.trans exposing)
  have left := cutStrobe_allowance (markVoiding_allowance h exposing) exposing .left
  have right := cutStrobe_allowance left (state.trans exposing) .right
  obtain ⟨doses, closed⟩ := closeSettle_capture (cutStrobe (cutStrobe (markVoiding s) .left) .right)
  unfold voidExposing
  refine finishVoid_allowance (closeSettle_allowance right) (by rw [closed]; exact exposing')
    (closeSettle_settled (not_strobesOutstanding (voiding'.trans voiding) fun side on => ?_)) _
  obtain ⟨notRight, on'⟩ := lit' side on
  obtain ⟨notLeft, -⟩ := lit side on'
  cases side
  · exact notLeft rfl
  · exact notRight rfl

theorem voidOrder_allowance : AllowanceLaw (voidOrder s) := by
  unfold voidOrder
  split
  · next e => exact captureEndArming_allowance h (by simp [e]) _
  · next e => exact voidExposing_allowance h e _
  · exact h

theorem pressLost_allowance : AllowanceLaw (pressLost s) := by
  have free := freeClaim_allowance h
  unfold pressLost
  dsimp only
  split
  · next e => exact latch_allowance (captureEndArming_allowance free (by simp [e]) _) _
  · next e => exact latch_allowance (voidExposing_allowance free (by simp [e]) _) _
  · exact free

/-! ## Completion and release (R129, R131 to R133) -/

theorem releaseDecision_allowance (still : s.capture.state ≠ .exposing) : AllowanceLaw (releaseDecision s) := by
  have accepted := setPendingStatus_allowance h .accepted
  unfold releaseDecision
  split
  · exact latch_allowance (accepted.retired (by simpa using still) (by simp) (by simp) (by rfl)) _
  · exact latch_allowance (h.retired still (by simp) (by simp) (by rfl)) _

theorem acceptCapture_allowance (still : s.capture.state ≠ .exposing) : AllowanceLaw (acceptCapture s) :=
  (setPendingStatus_allowance h .accepted).retired (by simpa using still) (by simp) (by simp) (by rfl)

theorem rejectCapture_allowance (still : s.capture.state ≠ .exposing) : AllowanceLaw (rejectCapture s) :=
  (setPendingStatus_allowance h .rejected).retired (by simpa using still) (by simp) (by simp) (by rfl)

/-- A completed exposure has no strobe outstanding and no trigger. -/
theorem AllowanceLaw.done (done : exposureDone s.capture = true) :
    s.capture.state = .exposing ∧ ¬ StrobesOutstanding s.capture ∧ ∀ side, s.capture.trigger.get side = false := by
  have exposing : s.capture.state = .exposing := by
    by_contra other
    simp [exposureDone, other] at done
  obtain ⟨-, idle, waits⟩ := h.ordered
  have ends (side : Side) : s.capture.progress.get side = .done ∨ s.capture.progress.get side = .notRequested := by
    by_cases asked : (s.capture.sides.getD .both).has side = true
    · left
      cases side <;> simp_all [exposureDone, Sides.get]
    · exact .inr (idle exposing side (by simpa using asked))
  refine ⟨exposing, ?_, fun side => ?_⟩
  · rw [strobesOutstanding_iff]
    rintro (⟨side, lit⟩ | ⟨side, waits⟩)
    · obtain e | e := ends side <;> simp [e] at lit
    · obtain e | e := ends side <;> simp [mayStillStart, e] at waits
  · by_contra on
    obtain ⟨-, -, waiting⟩ := waits side (by simpa using on)
    obtain e | e := ends side <;> simp [e] at waiting

theorem exposureComplete_allowance (done : exposureDone s.capture = true) : AllowanceLaw (exposureComplete s) := by
  obtain ⟨exposing, past, off⟩ := h.done done
  obtain ⟨-, -, -, -, covered, -⟩ := h.1
  have closed := closeSettle_allowance h
  obtain ⟨doses, capture⟩ := closeSettle_capture s
  have written := (closed.resting (closeSettle_settled past)).noted (writeResults_noted _ .pending)
  have served := freeClaim_resting (serveCounter_resting written
    (by simpa using (covered exposing).1))
  have stood := serveCounter_stood (writeResults (closeSettle s) .pending)
  have waiting : AllowanceLaw (setCapture (freeClaim (serveCounter (writeResults (closeSettle s) .pending)))
      { (freeClaim (serveCounter (writeResults (closeSettle s) .pending))).capture with state := .receiptWait }) := by
    refine served.retired (by simp) (by simp) fun side => ?_
    have e : (freeClaim (serveCounter (writeResults (closeSettle s) .pending))).capture
        = (serveCounter (writeResults (closeSettle s) .pending)).capture := by simp
    dsimp only
    rw [e]
    refine stood.trigger_off (fun x => ?_) side
    have e' : (writeResults (closeSettle s) .pending).capture = (closeSettle s).capture := by simp
    rw [e', capture]
    exact off x
  unfold exposureComplete
  dsimp only
  refine idleRestart_allowance ?_
  split
  · exact releaseDecision_allowance waiting (by simp [setCapture])
  · exact waiting

theorem exposurePump_allowance : AllowanceLaw (exposurePump s) := by
  unfold exposurePump
  split
  · next done => exact exposureComplete_allowance h done
  · split
    · next voids =>
      simp only [Bool.and_eq_true, decide_eq_true_eq, noneLit, bne_iff_ne] at voids
      obtain ⟨⟨exposing, voiding⟩, left, right⟩ := voids
      obtain ⟨doses, capture⟩ := closeSettle_capture s
      refine finishVoid_allowance (closeSettle_allowance h) (by rw [capture]; exact exposing)
        (closeSettle_settled (not_strobesOutstanding voiding fun side => ?_)) _
      cases side
      · exact left
      · exact right
    · exact h

/-! ## Falls and time-outs (R127, R128) -/

theorem sideDone_allowance (exposing : s.capture.state = .exposing) {side : Side}
    (began : s.capture.progress.get side ≠ .notRequested) (past : s.capture.progress.get side ≠ .triggered) :
    AllowanceLaw (sideDone s side) := by
  refine h.progressed rfl rfl (h.ordered.moved exposing began rfl rfl rfl rfl
    (h.ordered.trigger_elsewhere past)) (fun x waits => ?_) fun x lit => ?_
  · by_cases e : side = x
    · simp [mayStillStart, e] at waits
    · simpa [mayStillStart, e] using waits
  · by_cases e : side = x
    · simp [e] at lit
    · simpa [e] using lit

theorem takeFall_allowance (exposing : s.capture.state = .exposing) (side : Side) : AllowanceLaw (takeFall s side) := by
  have under : AllowanceLaw (markUnder s) := h
  unfold takeFall
  split
  · next e =>
    exact exposurePump_allowance (closeSettle_allowance (sideDone_allowance under exposing (side := side)
      (by simp [markUnder, setCapture, e]) (by simp [markUnder, setCapture, e])))
  · next e =>
    exact exposurePump_allowance (endStrobe_allowance under exposing e (cutDuration_le under side) (.inr rfl))
  · next e => exact exposurePump_allowance (sideDone_allowance h exposing (by simp [e]) (by simp [e]))
  · exact h

theorem cameraExpires_allowance (exposing : s.capture.state = .exposing) (side : Side) :
    AllowanceLaw (cameraExpires s side) := by
  have marked : AllowanceLaw { latch s (.captureTimeout side) with capture :=
      { s.capture with voiding := true, lastOutcome := .voidTimeout, trigger := Sides.both false } } :=
    (latch_allowance h (.captureTimeout side)).voided (by simp [exposing])
      (by simp) rfl (by simp) (by simp) (by simp) (by rfl)
  rw [cameraExpires_eq]
  refine exposurePump_allowance (closeSettle_allowance ?_)
  split
  · next lit =>
    refine endStrobe_allowance marked exposing lit ?_ (.inl rfl)
    simpa [cutDuration] using cutDuration_le h side
  · exact marked

/-! ## The press (R71, R72, R124, R125) -/

theorem armPump_allowance : AllowanceLaw (armPump s) := by
  unfold armPump
  split
  · exact claimLighting_allowance h
  · exact h

theorem setGlass_allowance (g : Glass) : AllowanceLaw (setGlass s g) := h

theorem pressFailed_allowance : AllowanceLaw (pressFailed s) := by
  have free := freeClaim_allowance (setGlass_allowance h { s.mech.glass with heldPress := false })
  unfold pressFailed
  dsimp only
  split
  · split
    · next arming => exact latch_allowance (captureEndArming_allowance free (by simp [setGlass, arming]) _) _
    · exact free
  · exact h

theorem startLowering_allowance : AllowanceLaw (startLowering s) := by
  unfold startLowering
  split
  · exact pressFailed_allowance h
  · exact h

theorem heldPressGo_allowance : AllowanceLaw (heldPressGo s) := by
  unfold heldPressGo
  split
  · split
    · exact setGlass_allowance h _
    · exact startLowering_allowance h
  · exact h

theorem mechPump_allowance : AllowanceLaw (mechPump s) := armPump_allowance (heldPressGo_allowance h)

theorem pressAnswered_allowance : AllowanceLaw (pressAnswered s) := by
  unfold pressAnswered
  split
  · exact h
  · exact h

theorem glassRaise_allowance : AllowanceLaw (glassRaise s) := h

theorem pressRequest_allowance : AllowanceLaw (pressRequest s) := by
  have claimed := setGlass_allowance h { s.mech.glass with claim := true }
  have held (g : Glass) := setGlass_allowance claimed g
  unfold pressRequest
  split
  · dsimp only
    split
    · split
      · exact startLowering_allowance claimed
      · exact held _
    · exact held _
    · exact claimed
    · exact pressAnswered_allowance claimed
    · split
      · exact glassRaise_allowance (held _)
      · exact startLowering_allowance claimed
  · exact h

/-! ## CAPTURE (R122, R123) -/

theorem startCapture_allowance (still : s.capture.state ≠ .exposing) (v : Volume) {n : Nat} (low : 1 ≤ n)
    (sides : CaptureSides) (manual : Bool) : AllowanceLaw (startCapture s v n sides manual).1 :=
  armPump_allowance (pressRequest_allowance (supplyOn_allowance (h.armed still v low sides manual)))

omit h in
/-- The checks of R122 that pass leave no exposure running. -/
theorem captureRefusal?_none {v : Volume} {code : Nat} {sides : CaptureSides} (hv : openVolume? s = some v)
    (hsides : captureSidesOf? code = some sides) (passes : captureRefusal? s code = none) :
    s.capture.state ≠ .exposing := by
  rw [captureRefusal?_of_open hv hsides] at passes
  split at passes
  · contradiction
  · split at passes
    · contradiction
    · split at passes
      · contradiction
      · split at passes
        · contradiction
        · next stands => exact fun e => stands (by simp [e])

theorem captureArrives_allowance (code : Nat) (manual : Bool) :
    AllowanceLaw (captureArrives code manual s).1 := by
  have restarted := idleRestart_allowance h
  unfold captureArrives
  dsimp only
  split
  · exact h
  · next passes =>
    split
    · next v n sides hv hn hsides =>
      split
      · exact doseRefused_allowance restarted _
      · split
        · exact h
        · split
          · unfold deferRequest
            split
            · exact h
            · exact h
          · exact startCapture_allowance restarted (captureRefusal?_none hv hsides passes) v (h.2.2.2 n hn) sides manual
    · exact h

end

end Sys2Proof.Machine
end

-- ==== Proofs: the allowances, visits and the turner ====
section
/-! StepsKeepTheAllowances, the visits and the turner: a change of opening ends the capture, and leaves every
account. -/

namespace Sys2Proof.Machine

open Sys2Proof.Config

/-! ## A change of opening (R15, R17, R135) -/

theorem captureEndArming_state (s : State) (outcome : CaptureOutcome) :
    (captureEndArming s outcome).capture.state = .none := (captureToNone_stood _ _).1

/-- A void order leaves no exposure. -/
theorem voidOrder_still (s : State) : (voidOrder s).capture.state ≠ .exposing := by
  unfold voidOrder
  split
  · simp [captureEndArming_state]
  · rw [voidExposing, finishVoid, (captureToNone_stood _ _).1]
    nofun
  · assumption

/-- The tracker moves within the OPEN volume that it stands at. -/
theorem AllowanceLaw.tracked {s : State} (h : AllowanceLaw s) {k : Tracker} (slot : k.slot = s.tracker.slot)
    (low : ∀ n, k.n = some n → 1 ≤ n) : AllowanceLaw (setTracker s k) := by
  obtain ⟨covered, one, opened, -⟩ := h
  exact ⟨covered, one, fun i hi => opened i (slot ▸ hi), low⟩

section

variable {s : State} (h : AllowanceLaw s)
include h

theorem AllowanceLaw.cleared (still : s.capture.state ≠ .exposing) {d : Capture} (state : d.state = .none)
    (trigger : d.trigger = Sides.both false) : AllowanceLaw (setCapture s d) := by
  refine (h.at_rest still).retired (by simp [state]) (by simp [state]) fun side => ?_
  rw [trigger]
  cases side <;> rfl

theorem captureChange_allowance : AllowanceLaw (captureChange s) := by
  have voided := setPendingStatus_allowance h .void
  have ended := voidOrder_allowance h
  unfold captureChange
  split
  · next e => exact voided.cleared (by simp [e]) rfl rfl
  · next e => exact voided.cleared (by simp [e]) rfl rfl
  · next e => exact h.cleared (by simp [e]) rfl rfl
  · next e => exact h.cleared (by simp [e]) rfl rfl
  · exact ended.cleared (voidOrder_still s) rfl rfl
  · exact ended.cleared (voidOrder_still s) rfl rfl

theorem endVisit_allowance : AllowanceLaw (endVisit s) := by
  have told : AllowanceLaw (captureChange { s with tracker := { s.tracker with doseLogged := false } }) :=
    captureChange_allowance h
  unfold endVisit
  refine aimDark_allowance ?_
  exact told

theorem withMech_allowance (m : Mechanics) : AllowanceLaw { s with mech := m } := h

theorem clearPlatenLogs_allowance : AllowanceLaw (clearPlatenLogs s) := h

theorem dropTargets_allowance : AllowanceLaw (dropTargets s) := h

theorem startMoves_allowance : AllowanceLaw (startMoves s) := h

theorem logPlaten_allowance (side : Side) : AllowanceLaw (logPlaten s side) := by
  unfold logPlaten
  split
  · exact h
  · split
    · exact appendIncident_allowance h _ _ _
    · exact h

theorem computeTargets_allowance (n : Nat) : AllowanceLaw (computeTargets s n) := by
  unfold computeTargets
  split
  · exact h
  · exact logPlaten_allowance (logPlaten_allowance (withMech_allowance h _) .left) .right

theorem visitStart_allowance {n : Nat} (low : 1 ≤ n) : AllowanceLaw (visitStart s n) := by
  have placed : AllowanceLaw (setTracker s { s.tracker with state := .placed, n := some n }) :=
    h.tracked rfl (by rintro m ⟨⟩; exact low)
  unfold visitStart
  exact computeTargets_allowance (clearPlatenLogs_allowance (endVisit_allowance placed)) n

theorem leavePlaced_allowance : AllowanceLaw (leavePlaced s) := by
  have told := endVisit_allowance h
  unfold leavePlaced
  exact dropTargets_allowance (told.tracked (by rfl) nofun)

theorem enterUncertain_allowance (why : Condition) : AllowanceLaw (enterUncertain s why) := by
  have left : AllowanceLaw (if s.tracker.state = .placed then leavePlaced s else s) := by
    split
    · exact leavePlaced_allowance h
    · exact h
  unfold enterUncertain
  refine latch_allowance (left.tracked ?_ ?_) _
  · rfl
  · exact left.2.2.2

theorem turnCompleted_allowance (fits : TurnFits s) : AllowanceLaw (turnCompleted s) := by
  obtain ⟨n, d, hn, hd, low, -⟩ := fits
  simp only [turnCompleted, hn, hd]
  exact visitStart_allowance h low

/-! ## The turner's phases (R48 to R55) -/

theorem setTurner_allowance (t : Turner) : AllowanceLaw (setTurner s t) := h

theorem enterLift_allowance : AllowanceLaw (enterLift s) := h

theorem enterReach_allowance : AllowanceLaw (enterReach s) := h.congr (by simp)

theorem startAttempt_allowance : AllowanceLaw (startAttempt s) := h.congr (by simp)

theorem enterCarry_allowance : AllowanceLaw (enterCarry s) := h.congr (by simp)

theorem enterLay_allowance : AllowanceLaw (enterLay s) := h.congr (by simp)

theorem openValve_allowance : AllowanceLaw (openValve s) := h

theorem turnerIdle_allowance (outcome : TurnOutcome) : AllowanceLaw (turnerIdle s outcome) := h

theorem turnerHalted_allowance (outcome : TurnOutcome) : AllowanceLaw (turnerHalted s outcome) :=
  h.congr (by simp)

theorem endReturn_allowance
    (fits : s.turner.purpose ≠ some .park → s.turner.purpose ≠ some .failureReturn → TurnFits s) :
    AllowanceLaw (endReturn s) := by
  have idle (outcome : TurnOutcome) := turnerIdle_allowance h outcome
  unfold endReturn
  split
  · exact latch_allowance (idle _) _
  · exact latch_allowance (appendIncident_allowance (idle _) _ _ _) _
  · next park failure =>
    exact latch_allowance (turnCompleted_allowance (idle _) ((fits park failure).keep (fun _ => rfl) rfl rfl)) _

theorem enterReturn_allowance (p : Purpose) (fits : p ≠ .park → TurnFits s) : AllowanceLaw (enterReturn s p) := by
  unfold enterReturn
  dsimp only
  split
  · refine endReturn_allowance (s := setTurner _ _) h fun park _ => ?_
    exact (fits fun e => park (by rw [e]; rfl)).keep (fun _ => rfl) rfl rfl
  · exact h

theorem attemptEnds_allowance (fits : TurnFits s) (kind : IncidentKind) (second : Nat) :
    AllowanceLaw (attemptEnds s kind second) := by
  have noted := appendIncident_allowance h kind (s.turner.attempt.getD 0) second
  unfold attemptEnds
  dsimp only
  split
  · exact startAttempt_allowance (setTurner_allowance noted _)
  · exact enterReturn_allowance noted _
      fun _ => fits.keep (appendIncident_inPlace (.refl s.store.slots) _ _ _).sameOpen (by simp) (by simp)

theorem restoreEnds_allowance (fits : TurnFits s) : AllowanceLaw (restoreEnds s) := by
  unfold restoreEnds
  refine attemptEnds_allowance (setTurner_allowance h _) ?_ _ _
  exact fits.keep (fun _ => rfl) rfl rfl

theorem layPump_allowance (sound : TrackerSound s) : AllowanceLaw (layPump s) := by
  unfold layPump
  split
  · next going =>
    simp only [Bool.and_eq_true, decide_eq_true_eq, and_assoc] at going
    obtain ⟨lay, -⟩ := going
    exact enterReturn_allowance h .turn fun _ => sound.fits (by simp [TurnRuns, lay])
  · exact h

theorem turnTimedOut_allowance : AllowanceLaw (turnTimedOut s) := by
  unfold turnTimedOut
  split
  · exact latch_allowance (setTurner_allowance h _) _
  · exact enterUncertain_allowance (appendIncident_allowance (turnerHalted_allowance h _) _ _ _) _

/-! ## The glass as the turner hears of it (R48, R59, R72, R73) -/

theorem turnerRaised_allowance : AllowanceLaw (turnerRaised s) := by
  unfold turnerRaised
  split
  · split
    · exact enterLift_allowance h
    · exact enterReach_allowance h
    · exact h
    · exact h
  · split
    · exact enterReturn_allowance (openValve_allowance (setTurner_allowance h _)) _ (absurd rfl)
    · exact h

theorem turnerRaiseFailed_allowance : AllowanceLaw (turnerRaiseFailed s) := by
  unfold turnerRaiseFailed
  split
  · exact latch_allowance (appendIncident_allowance (turnerIdle_allowance h _) _ _ _) _
  · split
    · exact latch_allowance (setTurner_allowance h _) _
    · exact h

theorem askRaise_allowance : AllowanceLaw (askRaise s) := h.congr (by simp)

theorem turnerAsksRaise_allowance (w : RaiseWaiter) : AllowanceLaw (turnerAsksRaise s w) := by
  unfold turnerAsksRaise
  split
  · exact turnerRaised_allowance h
  · exact h.congr (by simp)

theorem glassReached_allowance (sound : TrackerSound s) : AllowanceLaw (glassReached s) := by
  have up := setGlass_allowance h { s.mech.glass with state := .raised, waiters := [] }
  have upSound : TrackerSound (setGlass s { s.mech.glass with state := .raised, waiters := [] }) :=
    trackerSound_coreLaw s _ rfl rfl rfl sound
  unfold glassReached
  refine layPump_allowance (mechPump_allowance (startMoves_allowance ?_))
    (mechPump_sound (trackerSound_coreLaw _ _ rfl rfl rfl ?_))
  · split
    · exact up
    · exact turnerRaised_allowance up
  · split
    · exact upSound
    · exact turnerRaised_sound upSound

theorem glassFault_allowance (fault : GlassFault) : AllowanceLaw (glassFault s fault) :=
  appendIncident_allowance (setGlass_allowance h _) _ _ _

theorem raiseTimedOut_allowance : AllowanceLaw (raiseTimedOut s) := by
  have told {u : State} (hu : AllowanceLaw u) :
      AllowanceLaw (if u.mech.glass.heldPress then pressFailed u else u) := by
    split
    · exact pressFailed_allowance hu
    · exact hu
  have faulted := glassFault_allowance (setGlass_allowance h { s.mech.glass with state := .halted })
    (.timeout s.pins.force)
  unfold raiseTimedOut
  refine told ?_
  split
  · exact setGlass_allowance faulted _
  · exact turnerRaiseFailed_allowance (setGlass_allowance faulted _)

theorem lowerTimedOut_allowance : AllowanceLaw (lowerTimedOut s) :=
  glassRaise_allowance (pressFailed_allowance (glassFault_allowance h _))

theorem overforce_allowance (force : Nat) : AllowanceLaw (overforce s force) := by
  have faulted := glassFault_allowance (glassRaise_allowance h) (.overforce force)
  unfold overforce
  dsimp only
  split
  · exact pressLost_allowance faulted
  · exact faulted

theorem readForce_allowance (force : Nat) (p : PressTarget) : AllowanceLaw (readForce s force p) := by
  unfold readForce
  split
  · split
    · exact overforce_allowance h force
    · split
      · exact armPump_allowance (pressAnswered_allowance (setGlass_allowance h _))
      · exact h
  · split
    · exact overforce_allowance h force
    · exact h
  · exact h

/-! ## Turns and PLACE, taken and completed (R14, R16, R46, R47, R61) -/

theorem setPlatens_allowance (targets : Sides Nat) : AllowanceLaw (setPlatens s targets) := h.congr (by simp)

theorem setAngleTarget_allowance (angle : Nat) : AllowanceLaw (setAngleTarget s angle) := h.congr (by simp)

theorem manualCompletes_allowance (fits : TurnFits s) : AllowanceLaw (manualCompletes s) := by
  have noted (d m : Nat) := (appendIncident_inPlace (.refl s.store.slots) .manualTurn d m).sameOpen
  have moved := turnCompleted_allowance (turnerIdle_allowance
    (appendIncident_allowance h .manualTurn (s.turner.direction.getD .forward).code (s.turner.leaf.getD 0)) .done)
    (fits.keep (noted _ _) (by simp) (by simp))
  unfold manualCompletes
  refine latch_allowance ?_ _
  split
  · exact mechPump_allowance (setPlatens_allowance moved _)
  · exact moved

theorem startTurn_allowance (v : Volume) (d : Direction) (manualFlag : Bool) :
    AllowanceLaw (startTurn s v d manualFlag).1 := by
  unfold startTurn
  refine turnerAsksRaise_allowance (setTurner_allowance ?_ _) _
  split
  · exact appendIncident_allowance h _ _ _
  · exact h

omit h in
theorem deferRequest_allowance {s : State} (h : AllowanceLaw s) (d : Deferred) : AllowanceLaw (deferRequest s d).1 := by
  unfold deferRequest
  split
  · exact h
  · exact h

theorem turnArrives_allowance (direction flags : Nat) : AllowanceLaw (turnArrives direction flags s).1 := by
  have restarted := idleRestart_allowance h
  unfold turnArrives
  dsimp only
  split
  · exact h
  · split
    · exact deferRequest_allowance restarted _
    · split
      · exact startTurn_allowance restarted _ _ _
      · exact h

theorem placeAt_allowance {n : Nat} (low : 1 ≤ n) : AllowanceLaw (placeAt s n) := by
  have reseat : AllowanceLaw (logReseat s n) := by
    unfold logReseat
    split
    · split
      · exact appendIncident_allowance h _ _ _
      · exact h
    · exact h
  have noted : AllowanceLaw (onOpen (logReseat s n) fun v => { v with placedBefore := true }) := by
    refine reseat.noted (onOpen_noted _ ?_)
    exact fun v => ⟨rfl, rfl, rfl⟩
  have visiting := visitStart_allowance noted low
  unfold placeAt
  refine aimRetest_allowance (idleRestart_allowance ?_)
  split
  · exact mechPump_allowance (setAngleTarget_allowance (setPlatens_allowance visiting _) _)
  · exact visiting

/-! ## Stops, the hood and the pedal (R141, R145, R149) -/

theorem breakPause_allowance (cause : PauseCause) (phase : Nat) : AllowanceLaw (breakPause s cause phase) := by
  unfold breakPause
  split
  · exact h
  · exact enterUncertain_allowance (appendIncident_allowance h _ _ _) _

theorem setPause_allowance (p : Pause) : AllowanceLaw (setPause s p) := h

theorem stopTaken_allowance (cause : PauseCause) : AllowanceLaw (stopTaken s cause) := by
  have after {u : State} (hu : AllowanceLaw u) :
      AllowanceLaw (latch (idleDark (voidOrder (haltGlass u))) cause.condition) :=
    latch_allowance (idleDark_allowance (voidOrder_allowance (hu.congr (by simp)))) _
  unfold stopTaken
  split
  · exact h
  · dsimp only
    split
    · exact after (breakPause_allowance (setPause_allowance (turnerHalted_allowance h _) _) _ _)
    · exact after (setPause_allowance h _)

theorem judgeHood_allowance : AllowanceLaw (judgeHood s) := by
  unfold judgeHood
  dsimp only
  split
  · exact h
  · split
    · exact stopTaken_allowance (hoodEndsCheck_allowance (setPause_allowance h _)) _
    · exact h

theorem pedalCaptures_allowance : AllowanceLaw (pedalCaptures s) := by
  have out := captureArrives_allowance h 1 true
  unfold pedalCaptures
  dsimp only
  split
  · exact out
  · exact out

theorem pedalPress_allowance (sound : TrackerSound s) : AllowanceLaw (pedalPress s) := by
  have recorded (a : PedalAction) := setPause_allowance h { s.pause with lastPedal := a }
  unfold pedalPress
  split
  · next wait =>
    split
    · exact manualCompletes_allowance (recorded _) ((sound.fits (by simp [TurnRuns, wait])).keep (fun _ => rfl) rfl rfl)
    · exact recorded _
  · split
    · next e => exact acceptCapture_allowance (recorded _) (by simp [e])
    · split
      · exact pedalCaptures_allowance (recorded _)
      · exact recorded _

theorem edgeActs_allowance (sound : TrackerSound s) (line : AuxLine) (edge : EdgeKind) :
    AllowanceLaw (edgeActs s line edge) := by
  unfold edgeActs
  dsimp only
  split
  · exact stopTaken_allowance h _
  · exact pedalPress_allowance h sound
  · exact judgeHood_allowance h
  · split
    · exact latch_allowance (setPause_allowance h _) _
    · exact h
  · exact h

/-! ## RESUME (R148) -/

theorem startDeferred_allowance (d : Deferred) : AllowanceLaw (startDeferred s d).1 := by
  have out := setPause_allowance h { s.pause with deferred := none }
  unfold startDeferred
  cases d with
  | turn direction flags => exact turnArrives_allowance out direction flags
  | capture sides => exact captureArrives_allowance out sides false

theorem resumeTaken_allowance : AllowanceLaw (resumeTaken s) := by
  have running : AllowanceLaw (resumeRunning s) := h.congr (by simp)
  unfold resumeTaken
  split
  · next d _ =>
    have out := startDeferred_allowance running d
    unfold deferredResult
    split
    · exact latch_allowance (setPause_allowance out _) _
    · exact setPause_allowance out _
  · exact running

end

end Sys2Proof.Machine
end

-- ==== Proofs: the allowances, the store's requests ====
section
/-! StepsKeepTheAllowances, the store's requests and the restarts. -/

namespace Sys2Proof.Machine

open Sys2Proof.Config

/-! ## Slots that are not OPEN (R33 to R35) -/

/-- Every slot stands, or holds the account that it held frozen, or is freed. -/
def FrozenOnly (q r : Slots) : Prop :=
  ∀ i, r.get i = q.get i
    ∨ ((∀ v, q.get i ≠ .opened v) ∧ (∀ v, r.get i ≠ .opened v)
      ∧ ∀ v, (r.get i).volume? = some v → (q.get i).volume? = some v)

theorem FrozenOnly.sameOpen {q r : Slots} (h : FrozenOnly q r) : SameOpen q r := by
  intro i
  obtain e | ⟨old, new, -⟩ := h i
  · rw [e]
  · rw [Slot.opened?_eq_none.mpr old, Slot.opened?_eq_none.mpr new]

theorem AllowanceLaw.frozen {s : State} (h : AllowanceLaw s) {st : Store} (k : FrozenOnly s.store.slots st.slots) :
    AllowanceLaw { s with store := st } := by
  obtain ⟨⟨⟨volumes, times⟩, -⟩, shows⟩ := id h
  refine h.store (shows.keep k.sameOpen rfl rfl) ⟨fun i v hv => ?_, times⟩ (fun i v hi => ⟨v, ?_, .refl v⟩)
    rfl rfl rfl rfl
  · obtain e | ⟨-, -, same⟩ := k i
    · exact volumes i v (e ▸ hv)
    · exact volumes i v (same v hv)
  · obtain e | ⟨old, -⟩ := k i
    · exact e.trans hi
    · exact absurd hi (old v)

/-- One slot that is not OPEN is written. -/
theorem FrozenOnly.set {q : Slots} {i : SlotId} {x : Slot} (old : ∀ v, q.get i ≠ .opened v) (new : ∀ v, x ≠ .opened v)
    (same : ∀ v, x.volume? = some v → (q.get i).volume? = some v) : FrozenOnly q (q.set i x) := by
  intro j
  by_cases e : i = j
  · subst e
    rw [Slots.get_set_self]
    exact .inr ⟨old, new, same⟩
  · left
    rw [Slots.get_set, if_neg e]

theorem clearWrites_frozenOnly (q : Slots) (writes : Nat) : FrozenOnly q (clearWrites q writes SlotId.all) := by
  intro i
  rw [clearWrites_get q writes slotIds_sorted]
  split
  · next frees =>
    refine .inr ⟨fun v e => ?_, nofun, nofun⟩
    have frozen := frees.2.1
    simp [e, Slot.isFrozen] at frozen
  · exact .inl rfl

section

variable {s : State} (h : AllowanceLaw s)
include h

theorem endStream_allowance (t : Stream) : AllowanceLaw (endStream s t) := by
  unfold endStream
  dsimp only
  split
  · next v _ hv =>
    exact h.frozen (st := { slots := s.store.slots.set t.slot (.exported v), stream := none })
      (FrozenOnly.set (by simp [hv]) (by simp) (by simp [hv, Slot.volume?]))
  · exact h

theorem takeDiscardVolume_allowance (field : Nat) : AllowanceLaw (takeDiscardVolume field s).1 := by
  unfold takeDiscardVolume
  (repeat' split) <;> try exact h
  next slot _ _ _ _ e =>
    exact h.frozen (st := { s.store with slots := s.store.slots.set slot .free })
      (FrozenOnly.set (by simp [e]) (by simp) nofun)

theorem takeClearStore_allowance : AllowanceLaw (takeClearStore s).1 := by
  unfold takeClearStore
  (repeat' split) <;> try exact h
  exact h.frozen (clearWrites_frozenOnly _ 4)

theorem clearCut_allowance (writes : Nat) : AllowanceLaw (clearCut s writes) := by
  unfold clearCut
  split
  · exact h
  · exact h.frozen (clearWrites_frozenOnly _ writes)

/-! ## OPEN_VOLUME (R25) -/

/-- With no slot OPEN nothing is bound to one. -/
theorem AllowanceLaw.unopened (none' : openSlot? s.store.slots = none) :
    (∀ c b, s.lamps.holder = .check c → c.bound ≠ some b) ∧ s.dose.pulseSettle = none
      ∧ s.capture.state ≠ .exposing := by
  obtain ⟨⟨-, ⟨held, -⟩, pulse, -, covered, -⟩, -⟩ := h
  have closed := openSlot?_eq_none.mp none'
  refine ⟨fun c b hc hb => ?_, ?_, fun e => ?_⟩
  · obtain ⟨-, v, hv, -⟩ := held c b hc hb
    exact closed _ v hv
  · rcases hp : s.dose.pulseSettle with _ | p
    · rfl
    · obtain ⟨-, v, -, -, -, hv, -⟩ := pulse p hp
      exact absurd hv (closed _ v)
  · obtain ⟨-, ⟨n, slot, v, -, -, hopen, -⟩, -⟩ := covered e
    simp [none'] at hopen

omit h in
theorem newVolume_account (p : Profile) : facesWf (newVolume p).faces = true ∧ WithinAllowances (newVolume p) := by
  refine ⟨rfl, fun f => ?_, ?_⟩
  · simp [newVolume, facesGet, FaceRec.zero, Dose.total]
  · simp [newVolume, Dose.total]

theorem openVolumeAt_allowance (none' : openSlot? s.store.slots = none) (slot : SlotId) (p : Profile) :
    AllowanceLaw (openVolumeAt s slot p) := by
  obtain ⟨unbound, pulses, still⟩ := h.unopened none'
  obtain ⟨⟨accounts, ⟨-, whole⟩, -, ordered, -⟩, -⟩ := id h
  have closed := openSlot?_eq_none.mp none'
  have only (i : SlotId) (v : Volume)
      (hi : (s.store.slots.set slot (.opened (newVolume p))).get i = .opened v) : i = slot := by
    by_contra other
    rw [Slots.get_set, if_neg (Ne.symm other)] at hi
    exact closed i v hi
  refine RestingLaw.law ⟨accounts.write rfl (newVolume_account p) rfl,
    ⟨fun c b hc hb => absurd hb (unbound c b hc), whole⟩, pulseCovered_of_settled pulses, h.1.settle_none still,
    fun i v j w hi hj => (only i v hi).trans (only j w hj).symm, fun i hi => ?_, nofun⟩ ordered still
  cases hi
  exact ⟨_, Slots.get_set_self _ _ _⟩

theorem takeOpenVolume_allowance (raw : RawProfile) : AllowanceLaw (takeOpenVolume raw s).1 := by
  unfold takeOpenVolume
  (repeat' split) <;> try exact h
  next notOpen _ _ _ slot _ _ _ =>
    exact openVolumeAt_allowance h (Option.not_isSome_iff_eq_none.mp notOpen) slot _

/-! ## EXTEND_VOLUME (R26, R27) -/

omit h in
/-- The records renumbered are records that stood, or all zero. -/
theorem extendRecord_account {v : Volume} (sound : facesWf v.faces = true ∧ WithinAllowances v) (count : Nat) :
    facesWf (extendRecord count v).faces = true ∧ WithinAllowances (extendRecord count v) := by
  obtain ⟨wf, face, whole⟩ := sound
  refine ⟨facesRenumber_wf wf _ _, fun f => ?_, whole⟩
  simp only [extendRecord, facesRenumber]
  rw [facesGet_set (facesSet_wf wf _ _), facesGet_set wf]
  split
  · exact face _
  · split
    · exact Nat.zero_le _
    · exact face f

/-- While no check holds the lighting and no exposure runs, the OPEN volume's record may change its faces. -/
theorem AllowanceLaw.rewritten (still : s.capture.state ≠ .exposing) (unheld : ∀ c, s.lamps.holder ≠ .check c)
    {slot : SlotId} {v w : Volume} (hopen : openSlot? s.store.slots = some (slot, v))
    (account : facesWf w.faces = true ∧ WithinAllowances w) : AllowanceLaw (setSlot s slot (.opened w)) := by
  obtain ⟨accounts, ⟨-, whole⟩, pulse, settled, one, opened, low⟩ := h.at_rest still
  have hv := openSlot?_get hopen
  have was (i : SlotId) (x : Volume) (hi : (s.store.slots.set slot (.opened w)).get i = .opened x) :
      ∃ y, s.store.slots.get i = .opened y := by
    rw [Slots.get_set] at hi
    split at hi
    · next e => exact ⟨v, e ▸ hv⟩
    · exact ⟨x, hi⟩
  refine RestingLaw.law ⟨accounts.write rfl account rfl, ⟨fun c b hc _ => absurd hc (unheld c), whole⟩,
    pulseCovered_of_settled (pulse.settled fun c hc => absurd hc (unheld c)), settled,
    fun i x j y hi hj => ?_, fun i hi => ?_, low⟩ h.ordered still
  · obtain ⟨x', hx⟩ := was i x hi
    obtain ⟨y', hy⟩ := was j y hj
    exact one i x' j y' hx hy
  · obtain ⟨x, hx⟩ := opened i hi
    rw [setSlot_slots, Slots.get_set]
    split
    · exact ⟨w, rfl⟩
    · exact ⟨x, hx⟩

theorem extendVolume_allowance (still : s.capture.state ≠ .exposing) (unheld : ∀ c, s.lamps.holder ≠ .check c)
    {slot : SlotId} {v : Volume} (hopen : openSlot? s.store.slots = some (slot, v)) (leaves count : Nat) :
    AllowanceLaw (extendVolume s leaves count) := by
  have account := h.1.1.opened (openSlot?_get hopen)
  have extended : AllowanceLaw (onOpen s (extendRecord count)) := by
    rw [onOpen_eq hopen]
    exact h.rewritten still unheld hopen (extendRecord_account account count)
  have noted := appendIncident_allowance extended .extended leaves (leaves + count)
  have renumbered : AllowanceLaw (if s.tracker.n = some (leaves + 1) then
      aimDark (appendIncident (onOpen s (extendRecord count)) .extended leaves (leaves + count))
      else appendIncident (onOpen s (extendRecord count)) .extended leaves (leaves + count)) := by
    split
    · exact aimDark_allowance noted
    · exact noted
  unfold extendVolume
  dsimp only
  split
  · have computed (n : Nat) := computeTargets_allowance renumbered n
    split
    · exact aimRetest_allowance (mechPump_allowance (setPlatens_allowance (computed _) _))
    · exact aimRetest_allowance (computed _)
  · exact renumbered

theorem takeExtendVolume_allowance (count : Nat) : AllowanceLaw (takeExtendVolume count s).1 := by
  unfold takeExtendVolume
  split
  · exact h
  · next slot v hopen =>
    dsimp only
    split
    · exact h
    · split
      · exact h
      · next idle =>
        split
        · exact h
        · simp only [Bool.or_eq_true, not_or, captureRuns_iff, checkHolds_iff, not_exists] at idle
          obtain ⟨⟨⟨-, -, still⟩, unheld⟩, -⟩ := idle
          exact extendVolume_allowance h still unheld hopen _ _

/-! ## CLOSE_VOLUME (R28, R29) -/

omit h in
/-- Of the lamps, the settle records and the capture, a close changes what the law does not read. -/
theorem closeVolume_beside {slot : SlotId} {v : Volume}
    (done : s.capture.state = .none ∨ s.capture.state = .released) :
    ((closeVolume s slot v).lamps.holder = s.lamps.holder
        ∧ (closeVolume s slot v).lamps.waitingCheck = s.lamps.waitingCheck
        ∧ (closeVolume s slot v).lamps.duration = s.lamps.duration)
      ∧ ((closeVolume s slot v).dose.captureSettle = s.dose.captureSettle
        ∧ (closeVolume s slot v).dose.pulseSettle = s.dose.pulseSettle)
      ∧ CaptureStood s.capture (closeVolume s slot v).capture := by
  have cleared : (captureCleared s.capture).state = .none
      ∧ ∀ side, (captureCleared s.capture).trigger.get side = false := by
    refine ⟨rfl, fun side => ?_⟩
    cases side <;> rfl
  rw [closeVolume_eq]
  dsimp only
  split
  · rw [leavePlaced_eq (by obtain e | e := done <;> simp [e]) (by obtain e | e := done <;> simp [e])]
    simp [visitBlocks]
    exact .inr cleared
  · simp
    exact .inl ⟨_, rfl⟩

theorem closeVolume_allowance (done : s.capture.state = .none ∨ s.capture.state = .released)
    (unheld : ∀ c, s.lamps.holder ≠ .check c) {slot : SlotId} {v : Volume}
    (hopen : openSlot? s.store.slots = some (slot, v)) : AllowanceLaw (closeVolume s slot v) := by
  have still : s.capture.state ≠ .exposing := by obtain e | e := done <;> simp [e]
  obtain ⟨⟨volumes, times⟩, ⟨-, whole⟩, pulse, settled, one, -⟩ := h.at_rest still
  have hv := openSlot?_get hopen
  have slots := closeVolume_slots hopen done
  obtain ⟨⟨holder, waits, duration⟩, ⟨strobes, pulses⟩, stood⟩ := closeVolume_beside (slot := slot) (v := v) done
  have same : SameAccount v (notedRecord s v .closed (uncovered v).length v.captureCount) := by
    obtain ⟨w, hw, same⟩ := (appendIncident_noted s .closed (uncovered v).length v.captureCount).opens slot v hv
    rw [appendIncident_slots hopen, Slots.get_set_self] at hw
    cases hw
    exact same
  have shut (i : SlotId) (x : Volume) : (closeVolume s slot v).store.slots.get i ≠ .opened x := by
    rw [slots, Slots.get_set]
    split
    · simp
    · next other => exact fun hx => other (one slot v i x hv hx)
  have shows : TrackerShows (closeVolume s slot v) := by
    have gone : (closeVolume s slot v).tracker.slot = none ∧ (closeVolume s slot v).tracker.n = none := by
      rw [closeVolume_eq]
      exact ⟨rfl, rfl⟩
    exact ⟨fun i x _ _ hi => absurd hi (shut i x), by simp [gone.1], by simp [gone.2]⟩
  have accounts : AccountsSound (closeVolume s slot v) := by
    refine ⟨fun i x hx => ?_, duration ▸ times⟩
    rw [slots, Slots.get_set] at hx
    split at hx
    · cases hx
      exact SameAccount.sound ⟨same.1, same.2.1, same.2.2⟩ (volumes slot v (by rw [hv]; rfl))
    · exact volumes i x hx
  have checks : CheckCovered (closeVolume s slot v) :=
    ⟨fun c _ hc => absurd (holder ▸ hc) (unheld c), waits ▸ whole⟩
  have dark : s.dose.pulseSettle = none := pulse.settled fun c hc => absurd hc (unheld c)
  have rest : RestingLaw (closeVolume s slot v) :=
    ⟨accounts, checks, pulseCovered_of_settled (pulses.trans dark), strobes.trans settled, shows⟩
  exact rest.law (stood.ordered h.ordered) (stood.still still)

theorem takeCloseVolume_allowance : AllowanceLaw (takeCloseVolume s).1 := by
  unfold takeCloseVolume
  split
  · exact h
  · next slot v hopen =>
    (repeat' split) <;> try exact h
    next capture _ check =>
      refine closeVolume_allowance h ?_ ?_ hopen
      · simpa [imp_iff_or_not, or_comm] using capture
      · simpa [checkHolds_iff] using check

/-! ## Restarts (R43) -/

theorem blocksRestarted_allowance (cause : RestartCause) (rate : Nat) :
    AllowanceLaw (blocksRestarted s cause rate) := by
  obtain ⟨⟨⟨volumes, -⟩, -⟩, one, -⟩ := h
  have accounts : AccountsSound (blocksRestarted s cause rate) := by
    refine ⟨volumes, fun side => ?_⟩
    cases side <;> exact (by decide : 1 ≤ 4000)
  have unheld (c : Check) : (blocksRestarted s cause rate).lamps.holder ≠ .check c := by
    intro e
    have free : (blocksRestarted s cause rate).lamps.holder = .free := rfl
    rw [free] at e
    contradiction
  have checks : CheckCovered (blocksRestarted s cause rate) := by
    refine ⟨fun c _ hc => absurd hc (unheld c), fun c hc => ?_⟩
    have none' : (blocksRestarted s cause rate).lamps.waitingCheck = none := rfl
    rw [none'] at hc
    contradiction
  have shows : TrackerShows (blocksRestarted s cause rate) := by
    have slot : (blocksRestarted s cause rate).tracker.slot = none := rfl
    have n : (blocksRestarted s cause rate).tracker.n = none := rfl
    refine ⟨one, fun i hi => ?_, fun i hi => ?_⟩
    · rw [slot] at hi
      contradiction
    · rw [n] at hi
      contradiction
  have none' : (blocksRestarted s cause rate).capture.state = .none := rfl
  have off (side : Side) : (blocksRestarted s cause rate).capture.trigger.get side = false := by
    cases side <;> rfl
  have rest : RestingLaw (blocksRestarted s cause rate) :=
    ⟨accounts, checks, pulseCovered_of_settled rfl, rfl, shows⟩
  exact rest.law (captureOrdered_of_idle (by simp [none']) (by simp [none']) off) (by simp [none'])

/-- The tracker is given the slot of the OPEN volume. -/
theorem AllowanceLaw.resumed {slot : SlotId} {v : Volume} (hv : s.store.slots.get slot = .opened v) (k : TrackerState) :
    AllowanceLaw (setTracker s { s.tracker with state := k, slot := some slot }) := by
  obtain ⟨covered, one, -, low⟩ := h
  refine ⟨covered, one, fun i hi => ?_, low⟩
  cases hi
  exact ⟨v, hv⟩

/-- The OPEN volume resumes, its page unknown. -/
theorem restartVolume_allowance {slot : SlotId} {v : Volume} (hv : s.store.slots.get slot = .opened v)
    (cause : RestartCause) : AllowanceLaw (restartVolume s slot cause) := by
  unfold restartVolume
  have noted (count : Nat) : Noted s (appendIncident (onOpen s restartRecord) .restart cause.code count) := by
    refine Noted.trans (onOpen_noted s ?_) (appendIncident_noted _ _ _ _)
    exact fun _ => ⟨rfl, rfl, rfl⟩
  obtain ⟨w, hw, -⟩ := (noted _).opens slot v hv
  exact latch_allowance ((h.noted (noted _)).resumed hw _) _

theorem restart_allowance (cause : RestartCause) (rate : Nat) : AllowanceLaw (restart s cause rate) := by
  have up := blocksRestarted_allowance h cause rate
  have halted {u : State} (hu : AllowanceLaw u) : AllowanceLaw (transmit (restartHalt u)) := by
    refine AllowanceLaw.congr (s := restartHalt u) ?_ (by simp)
    unfold restartHalt
    split
    · exact latch_allowance hu _
    · exact hu
  unfold restart
  refine halted ?_
  split
  · next hopen => exact restartVolume_allowance up (openSlot?_get hopen) cause
  · exact up

end

end Sys2Proof.Machine
end

-- ==== Proofs: the allowances, requests ====
section
/-! StepsKeepTheAllowances, the requests: what each block does with the request that it takes keeps the law. -/

namespace Sys2Proof.Machine

open Sys2Proof.Config

section

variable {s : State} (h : AllowanceLaw s)
include h

/-! ## Store, page and turner -/

theorem takeSetMark_allowance (leaf kinds : Nat) : AllowanceLaw (takeSetMark leaf kinds s).1 := by
  unfold takeSetMark
  (repeat' split) <;> try exact h
  exact h.noted (onOpen_noted s fun _ => ⟨rfl, rfl, rfl⟩)

theorem takeClearMark_allowance (leaf : Nat) : AllowanceLaw (takeClearMark leaf s).1 := by
  unfold takeClearMark
  (repeat' split) <;> try exact h
  exact h.noted (onOpen_noted s fun _ => ⟨rfl, rfl, rfl⟩)

theorem takePlace_allowance (n : Nat) : AllowanceLaw (takePlace n s).1 := by
  unfold takePlace
  split
  · exact h
  · split
    · exact h
    · next inside =>
      split
      · exact h
      · exact placeAt_allowance h (by omega)

theorem takePark_allowance : AllowanceLaw (takePark s).1 := by
  unfold takePark
  (repeat' split) <;> try exact h
  exact turnerAsksRaise_allowance (setTurner_allowance h _) _

theorem takeManualDone_allowance (sound : TrackerSound s) (direction : Nat) :
    AllowanceLaw (takeManualDone direction s).1 := by
  unfold takeManualDone
  split
  · exact h
  · next waits =>
    split
    · exact h
    · simp only [Bool.or_eq_true, bne_iff_ne, not_or, Decidable.not_not] at waits
      obtain ⟨phase, -⟩ := waits
      have fits : TurnFits s := sound.fits ⟨by simp [phase], by simp [phase], by simp [phase]⟩
      exact aimRetest_allowance (manualCompletes_allowance h fits)

theorem takeCancelTurn_allowance : AllowanceLaw (takeCancelTurn s).1 := by
  unfold takeCancelTurn
  split
  · exact h
  · exact turnerIdle_allowance (h.congr (by simp)) _

theorem takeSetTurner_allowance (reach lift carry lay ret limit : Nat) :
    AllowanceLaw (takeSetTurner reach lift carry lay ret limit s).1 := by
  unfold takeSetTurner
  (repeat' split) <;> exact h

/-! ## Glass and cradle -/

theorem takeSetGlass_allowance (force : Nat) : AllowanceLaw (takeSetGlass force s).1 := by
  unfold takeSetGlass
  (repeat' split) <;> exact h

theorem takeRaiseGlass_allowance : AllowanceLaw (takeRaiseGlass s).1 := by
  unfold takeRaiseGlass
  split
  · exact h
  · exact askRaise_allowance h

theorem takeSetAngle_allowance (angle : Nat) : AllowanceLaw (takeSetAngle angle s).1 := by
  unfold takeSetAngle
  (repeat' split) <;> try exact h
  exact aimRetest_allowance (mechPump_allowance (setAngleTarget_allowance h _))

/-! ## Lamps -/

theorem takeLampsOn_allowance : AllowanceLaw (takeLampsOn s).1 := by
  have lit := aimRetest_allowance (supplyOn_allowance (idleRestart_allowance h))
  unfold takeLampsOn
  dsimp only
  split <;> exact lit

theorem takeLampsOff_allowance : AllowanceLaw (takeLampsOff s).1 := by
  unfold takeLampsOff
  split
  · exact h
  · dsimp only
    split
    · exact h
    · exact aimRetest_allowance (supplyOff_allowance h)

/-- With the lighting at rest no dose is to come that was predicted with the settings of before. -/
theorem lightingSet_allowance (still : s.capture.state ≠ .exposing) (free : s.lamps.holder = .free)
    (drives : Banks Nat) {times : Sides Nat} (lasts : ∀ side, 1 ≤ times.get side) (spill : Nat) :
    AllowanceLaw (setLamps s (lightingSettings s.lamps drives times spill)) := by
  obtain ⟨⟨volumes, -⟩, ⟨-, whole⟩, pulse, settled, shows⟩ := h.at_rest still
  have pulses : s.dose.pulseSettle = none := pulse.settled (by simp [free])
  have checks : CheckCovered (setLamps s (lightingSettings s.lamps drives times spill)) := by
    refine ⟨fun c _ hc => ?_, whole⟩
    rw [show (setLamps s (lightingSettings s.lamps drives times spill)).lamps.holder = .free from free] at hc
    contradiction
  have rest : RestingLaw (setLamps s (lightingSettings s.lamps drives times spill)) :=
    ⟨⟨volumes, lasts⟩, checks, pulseCovered_of_settled pulses, settled, shows⟩
  exact rest.law h.ordered still

theorem takeSetLighting_allowance (la lb ra rb tl tr spill : Nat) :
    AllowanceLaw (takeSetLighting { la := la, lb := lb, ra := ra, rb := rb } { left := tl, right := tr } spill
      s).1 := by
  rw [takeSetLighting_eq]
  iterate 4
    split
    · exact h
  split
  · exact h
  next left =>
  split
  · exact h
  next right =>
  split
  · exact h
  split
  · exact h
  next idle =>
  simp only [not_or, Decidable.not_not] at idle
  obtain ⟨free, -, -, -, still⟩ := idle
  have lasts (side : Side) : 1 ≤ ({ left := tl, right := tr } : Sides Nat).get side := by
    cases side <;> simp only [Sides.get] <;> omega
  have set := lightingSet_allowance h still free { la := la, lb := lb, ra := ra, rb := rb } lasts spill
  dsimp only
  split
  · exact set
  · exact aimRetest_allowance (aimDark_allowance set)

theorem takeSetAiming_allowance (level rest : Nat) : AllowanceLaw (takeSetAiming level rest s).1 := by
  have set : AllowanceLaw (setLamps s { s.lamps with aimingLevel := level, restLevel := rest, aimingCut := false }) := h
  unfold takeSetAiming
  (repeat' split) <;> try exact h
  exact aimRetest_allowance (idleRestart_allowance set)

theorem takeSetIdle_allowance (rest dark supply settle : Nat) :
    AllowanceLaw (takeSetIdle rest dark supply settle s).1 := by
  have set : AllowanceLaw (setLamps s
      { s.lamps with tRest := rest, tDark := dark, tSupply := supply, settle := settle }) := h
  unfold takeSetIdle
  split
  · exact h
  · exact aimRetest_allowance (idleRestart_allowance set)

theorem takeSetChecks_allowance (interval rotation tolerance failLimit : Nat) :
    AllowanceLaw (takeSetChecks interval rotation tolerance failLimit s).1 := by
  unfold takeSetChecks
  (repeat' split) <;> exact h

/-! ## Capture -/

/-- A receipt is noted, a setting changed: the exposure goes on as it was. -/
theorem AllowanceLaw.recapture {c : Capture} (same : SameCapture s.capture c) : AllowanceLaw (setCapture s c) :=
  h.relit ⟨rfl, rfl, rfl, rfl, rfl⟩ h.waits ⟨rfl, rfl, rfl, rfl, rfl⟩ same

theorem takeReceipt_allowance (side : Side) : AllowanceLaw (takeReceipt s side) := by
  have noted : AllowanceLaw (setCapture s { s.capture with receipt := s.capture.receipt.set side true }) :=
    h.recapture ⟨rfl, rfl, rfl, rfl, rfl, rfl⟩
  unfold takeReceipt
  dsimp only
  split
  · next waits =>
    simp only [Bool.and_eq_true, decide_eq_true_eq] at waits
    exact releaseDecision_allowance noted (by simp [setCapture, waits.1])
  · exact noted

theorem takeFrameReceived_allowance (camera number : Nat) : AllowanceLaw (takeFrameReceived camera number s).1 := by
  unfold takeFrameReceived
  dsimp only
  (repeat' split) <;> try exact h
  exact takeReceipt_allowance h _

theorem takeAccept_allowance : AllowanceLaw (takeAccept s).1 := by
  unfold takeAccept
  split
  · exact h
  · next waits =>
    have state : s.capture.state = .acceptWait := by simpa using waits
    exact acceptCapture_allowance h (by simp [state])

theorem takeReject_allowance : AllowanceLaw (takeReject s).1 := by
  unfold takeReject
  split
  · exact h
  · next waits =>
    refine rejectCapture_allowance h fun e => waits ?_
    simp [e]

theorem takeSetCapture_allowance (mode timeout delayL delayR pedal : Nat) :
    AllowanceLaw (takeSetCapture mode timeout delayL delayR pedal s).1 := by
  unfold takeSetCapture
  (repeat' split) <;> exact h

/-! ## Pause, lines and attention -/

theorem takeResume_allowance : AllowanceLaw (takeResume s).1 := by
  unfold takeResume
  (repeat' split) <;> try exact h
  exact aimRetest_allowance (resumeTaken_allowance h)

theorem takeSetAux_allowance (funcs edges : Lines Nat) : AllowanceLaw (takeSetAux funcs edges s).1 := by
  unfold takeSetAux
  (repeat' split) <;> try exact h
  exact aimRetest_allowance (judgeHood_allowance (setPause_allowance h _))

theorem takeSetAttention_allowance (mask elevated : Nat) : AllowanceLaw (takeSetAttention mask elevated s).1 :=
  h.congr (by simp)

end

/-- What the block that owns a request does with it keeps the law. -/
theorem take_allowance {i : Instr} {take : State → State × Answer} (hi : i.take? = some take) {s : State}
    (h : AllowanceLaw s) (sound : TrackerSound s) : AllowanceLaw (take s).1 := by
  unfold Instr.take? at hi
  split at hi <;> cases hi
  case h_1 => exact takeOpenVolume_allowance h _
  case h_2 => exact takeExtendVolume_allowance h _
  case h_3 => exact takeCloseVolume_allowance h
  case h_4 => unfold takeExportVolume; (repeat' split) <;> exact h
  case h_5 => exact takeDiscardVolume_allowance h _
  case h_6 => exact takeClearStore_allowance h
  case h_9 => exact takeSetMark_allowance h _ _
  case h_10 => exact takeClearMark_allowance h _
  case h_11 => exact takePlace_allowance h _
  case h_13 => exact aimRetest_allowance (turnArrives_allowance h _ _)
  case h_14 => exact takePark_allowance h
  case h_15 => exact takeManualDone_allowance h sound _
  case h_16 => exact takeCancelTurn_allowance h
  case h_17 => exact takeSetTurner_allowance h _ _ _ _ _ _
  case h_19 => exact takeSetGlass_allowance h _
  case h_20 => exact takeRaiseGlass_allowance h
  case h_21 => exact takeSetAngle_allowance h _
  case h_23 => exact takeLampsOn_allowance h
  case h_24 => exact takeLampsOff_allowance h
  case h_25 => exact takeSetLighting_allowance h _ _ _ _ _ _ _
  case h_26 => exact takeSetAiming_allowance h _ _
  case h_27 => exact takeSetIdle_allowance h _ _ _ _
  case h_28 => exact takeReferenceCheck_allowance h _
  case h_29 => exact takeSetChecks_allowance h _ _ _ _
  case h_31 => exact aimRetest_allowance (captureArrives_allowance h _ _)
  case h_32 => exact takeFrameReceived_allowance h _ _
  case h_33 => exact takeAccept_allowance h
  case h_34 => exact takeReject_allowance h
  case h_35 => exact takeSetCapture_allowance h _ _ _ _ _
  case h_37 => exact takeResume_allowance h
  case h_38 => exact takeSetAux_allowance h _ _
  case h_41 => exact takeSetAttention_allowance h _ _
  all_goals exact h.congr (by simp)

end Sys2Proof.Machine
end

-- ==== Proofs: the allowances, events and every step ====
section
/-! Settles StepsKeepTheAllowances: the events of the part, the Link Port's share of a command, and the law for every
step. -/

namespace Sys2Proof.Machine

open Sys2Proof.Config

/-- Lamps after some microseconds: a counter of the supply, the idle timer or the reservoir has moved. -/
def Ticked (l m : Lamps) : Prop := SameLight l m ∧ m.duration = l.duration ∧ m.waitingCheck = l.waitingCheck

theorem Ticked.refl (l : Lamps) : Ticked l l := ⟨⟨rfl, rfl, rfl, rfl, rfl⟩, rfl, rfl⟩

theorem Ticked.trans {l m k : Lamps} (a : Ticked l m) (b : Ticked m k) : Ticked l k := by
  obtain ⟨⟨holder, drive, scale, spill, fixed⟩, duration, waits⟩ := a
  obtain ⟨⟨holder', drive', scale', spill', fixed'⟩, duration', waits'⟩ := b
  exact ⟨⟨holder'.trans holder, drive'.trans drive, scale'.trans scale, spill'.trans spill, fixed'.trans fixed⟩,
    duration'.trans duration, waits'.trans waits⟩

theorem settleTick_ticked (l : Lamps) : Ticked l (settleTick l) := by
  unfold settleTick
  split <;> exact .refl l

theorem reservoirTick_ticked (l : Lamps) : Ticked l (reservoirTick l) := by
  unfold reservoirTick
  (repeat' split) <;> exact .refl l

theorem idleTick_ticked (l : Lamps) : Ticked l (idleTick l) := by
  unfold idleTick
  (repeat' split) <;> exact .refl l

theorem tick_ticked (s : State) : Ticked s.lamps (tick s).lamps := by
  have charged := (settleTick_ticked s.lamps).trans (reservoirTick_ticked _)
  unfold tick
  dsimp only
  split
  · exact charged
  · exact charged.trans (idleTick_ticked _)

section

variable {s : State} (h : AllowanceLaw s)
include h

/-! ## Time and the link -/

theorem transmit_allowance : AllowanceLaw (transmit s) := h.congr (by simp)

/-- The aiming light is tested again before the transmitter takes its next frame. -/
theorem sent_allowance : AllowanceLaw (transmit (aimRetest s)) := transmit_allowance (aimRetest_allowance h)

theorem withPins_allowance (pins : Pins) : AllowanceLaw { s with pins := pins } := h

theorem withLink_allowance (link : Link) : AllowanceLaw { s with link := link } := h

theorem tick_allowance : AllowanceLaw (tick s) := by
  obtain ⟨light, duration, waits⟩ := tick_ticked s
  exact h.relit ⟨rfl, rfl, rfl, rfl, duration⟩ (waits ▸ h.waits) light ⟨rfl, rfl, rfl, rfl, rfl, rfl⟩

/-! ## The turner's events -/

theorem homeSensor_allowance (sound : TrackerSound s) (on : Bool) {t : State}
    (hx : exec (.homeSensor on) s = .next t) : AllowanceLaw t := by
  have read := withPins_allowance h { s.pins with home := on }
  have readSound : TrackerSound { s with pins := { s.pins with home := on } } := sound
  obtain rfl := Host.Outcome.next.inj hx
  split
  · exact enterLay_allowance read
  · split
    · next returns =>
      simp only [inPhase, Bool.and_eq_true, decide_eq_true_eq] at returns
      refine sent_allowance (endReturn_allowance read fun park _ => readSound.fits ?_)
      exact ⟨by simp [returns.2.1], by simp [returns.2.1], fun p => park p.2⟩
    · exact read

theorem farEndSensor_allowance (on : Bool) {t : State} (hx : exec (.farEndSensor on) s = .next t) :
    AllowanceLaw t := by
  have read := withPins_allowance h { s.pins with farEnd := on }
  obtain rfl := Host.Outcome.next.inj hx
  split
  · exact enterLift_allowance read
  · split
    · exact enterLay_allowance read
    · exact read

theorem holdSensor_allowance (on : Bool) {t : State} (hx : exec (.holdSensor on) s = .next t) : AllowanceLaw t := by
  have read := withPins_allowance h { s.pins with hold := on }
  obtain rfl := Host.Outcome.next.inj hx
  split
  · exact setTurner_allowance read _
  · split
    · exact openValve_allowance read
    · exact read

theorem cupEmptySensor_allowance (sound : TrackerSound s) (on : Bool) {t : State}
    (hx : exec (.cupEmptySensor on) s = .next t) : AllowanceLaw t := by
  have read := withPins_allowance h { s.pins with cupEmpty := on }
  obtain rfl := Host.Outcome.next.inj hx
  split
  · refine sent_allowance (layPump_allowance (openValve_allowance (setTurner_allowance read _)) ?_)
    exact openValve_sound sound
  · exact read

theorem separationTime_allowance (sound : TrackerSound s) (count : Nat) {t : State}
    (hx : exec (.separationTime count) s = .next t) : AllowanceLaw t := by
  have sampled := setTurner_allowance h { s.turner with lastCount := some (min count 3) }
  obtain rfl := Host.Outcome.next.inj hx
  split
  · next separates =>
    have fits := sound.fits (inPhase_turnRuns separates nofun nofun nofun)
    split
    · refine sent_allowance (attemptEnds_allowance (openValve_allowance sampled) ?_ _ _)
      exact fits.keep (fun _ => rfl) rfl rfl
    · split
      · exact enterCarry_allowance sampled
      · exact setTurner_allowance sampled _
  · exact h

theorem restoreRelease_allowance : AllowanceLaw (restoreRelease s) := h

theorem liftTimeout_allowance (sound : TrackerSound s) {t : State} (hx : exec .liftTimeout s = .next t) :
    AllowanceLaw t := by
  obtain rfl := Host.Outcome.next.inj hx
  split
  · next lifts =>
    have fits := sound.fits (inPhase_turnRuns lifts nofun nofun nofun)
    refine sent_allowance (attemptEnds_allowance (openValve_allowance h) ?_ _ _)
    exact fits.keep (fun _ => rfl) rfl rfl
  · split
    · exact restoreRelease_allowance h
    · exact h

theorem restoreReleaseWait_allowance (sound : TrackerSound s) {t : State}
    (hx : exec .restoreReleaseWait s = .next t) : AllowanceLaw t := by
  obtain rfl := Host.Outcome.next.inj hx
  split
  · next restores =>
    simp only [Bool.and_eq_true] at restores
    exact sent_allowance (restoreEnds_allowance h (sound.fits (inPhase_turnRuns restores.1 nofun nofun nofun)))
  · exact h

/-! ## The lamps' events -/

theorem lightingReady_event {t : State} (hx : exec .lightingReady s = .next t) : AllowanceLaw t := by
  obtain rfl := Host.Outcome.next.inj hx
  split
  · next arms =>
    simp only [Bool.and_eq_true, captureHolds_iff, decide_eq_true_eq] at arms
    obtain ⟨holds, arming⟩ := arms
    exact sent_allowance (lightingReady_allowance (covered_allowance h _) arming holds)
  · exact h

theorem referencePulseStart_allowance {t : State} (hx : exec .referencePulseStart s = .next t) : AllowanceLaw t := by
  obtain rfl := Host.Outcome.next.inj hx
  split
  · next c holds =>
    split
    · next b rest ahead =>
      split
      · exact h
      · next dark =>
        refine transmit_allowance (pulseStart_allowance (covered_allowance h _) ?_ (by simpa using dark) ahead)
        exact holds
    · exact h
  · exact h

theorem referencePulseEnd_allowance (reading : Nat) {t : State} (hx : exec (.referencePulseEnd reading) s = .next t) :
    AllowanceLaw t := by
  obtain rfl := Host.Outcome.next.inj hx
  split
  · next c holds =>
    split
    · next b rest ahead =>
      split
      · next lit => exact sent_allowance (pulseEnd_allowance h holds lit ahead (min_le_right _ _))
      · exact h
    · exact h
  · exact h

theorem aimingInterval_allowance {t : State} (hx : exec .aimingInterval s = .next t) : AllowanceLaw t := by
  obtain rfl := Host.Outcome.next.inj hx
  split
  · next goes =>
    simp only [Bool.and_eq_true, aimWanted_iff] at goes
    obtain ⟨-, -, -, -, -, -, -, free⟩ := goes
    exact transmit_allowance (aimStart_allowance h free)
  · exact h

/-! ## The exposure's events -/

theorem countRise_allowance (side : Side) : AllowanceLaw (countRise s side) :=
  withPins_allowance (h.recapture (c :=
    { s.capture with counter := s.capture.counter.set side (s.capture.counter.get side + 1) })
    ⟨rfl, rfl, rfl, rfl, rfl, rfl⟩) _

theorem exposureActiveRise_allowance (side : Side) {t : State} (hx : exec (.exposureActiveRise side) s = .next t) :
    AllowanceLaw t := by
  have risen := countRise_allowance h side
  obtain rfl := Host.Outcome.next.inj hx
  refine transmit_allowance ?_
  split
  · next on => exact takeRise_allowance risen on
  · exact appendIncident_allowance risen _ _ _

theorem strobeDelayExpiry_allowance (side : Side) {t : State} (hx : exec (.strobeDelayExpiry side) s = .next t) :
    AllowanceLaw t := by
  obtain rfl := Host.Outcome.next.inj hx
  split
  · next starts =>
    simp only [Bool.and_eq_true, Bool.not_eq_true', decide_eq_true_eq] at starts
    obtain ⟨⟨exposing, going⟩, delay⟩ := starts
    exact transmit_allowance (startStrobe_allowance h exposing going delay)
  · exact h

theorem strobeEnd_allowance (side : Side) {t : State} (hx : exec (.strobeEnd side) s = .next t) : AllowanceLaw t := by
  obtain rfl := Host.Outcome.next.inj hx
  split
  · next ends =>
    simp only [Bool.and_eq_true, decide_eq_true_eq] at ends
    obtain ⟨exposing, lit⟩ := ends
    exact sent_allowance (exposurePump_allowance (endStrobe_allowance h exposing lit le_rfl (.inl rfl)))
  · exact h

theorem exposureActiveFall_allowance (side : Side) {t : State} (hx : exec (.exposureActiveFall side) s = .next t) :
    AllowanceLaw t := by
  have fallen := withPins_allowance h { s.pins with exposureActive := s.pins.exposureActive.set side false }
  obtain rfl := Host.Outcome.next.inj hx
  split
  · next exposing => exact sent_allowance (takeFall_allowance fallen exposing side)
  · exact fallen

theorem cameraTimeout_allowance (side : Side) {t : State} (hx : exec (.cameraTimeout side) s = .next t) :
    AllowanceLaw t := by
  obtain rfl := Host.Outcome.next.inj hx
  split
  · next runs => exact sent_allowance (cameraExpires_allowance h ((cameraTimerRuns_iff _ _).mp runs).1 side)
  · exact h

end

/-! ## Every event -/

theorem event_allowance {i : Instr} {s t : State} (hi : i.take? = none) (hclear : ∀ run, i ≠ .clearStore run)
    (hbyte : ∀ b, i ≠ .byteReceived b) (hsent : i ≠ .frameSent) (hx : exec i s = .next t) (h : AllowanceLaw s)
    (sound : TrackerSound s) : AllowanceLaw t := by
  cases i
  case clearStore run => exact absurd rfl (hclear run)
  case byteReceived b => exact absurd rfl (hbyte b)
  case frameSent => exact absurd rfl hsent
  case homeSensor on => exact homeSensor_allowance h sound on hx
  case farEndSensor on => exact farEndSensor_allowance h on hx
  case holdSensor on => exact holdSensor_allowance h on hx
  case cupEmptySensor on => exact cupEmptySensor_allowance h sound on hx
  case separationTime count => exact separationTime_allowance h sound count hx
  case restoreReleaseWait => exact restoreReleaseWait_allowance h sound hx
  case liftTimeout => exact liftTimeout_allowance h sound hx
  case lightingReady => exact lightingReady_event h hx
  case referencePulseStart => exact referencePulseStart_allowance h hx
  case referencePulseEnd reading => exact referencePulseEnd_allowance h reading hx
  case aimingInterval => exact aimingInterval_allowance h hx
  case exposureActiveRise side => exact exposureActiveRise_allowance h side hx
  case strobeDelayExpiry side => exact strobeDelayExpiry_allowance h side hx
  case strobeEnd side => exact strobeEnd_allowance h side hx
  case exposureActiveFall side => exact exposureActiveFall_allowance h side hx
  case cameraTimeout side => exact cameraTimeout_allowance h side hx
  case gap =>
    obtain rfl := Host.Outcome.next.inj hx
    split
    · exact h
    · exact h.congr (by simp)
  case powerOn pins =>
    obtain rfl := Host.Outcome.next.inj hx
    exact restart_allowance (withPins_allowance h pins) _ _
  case resetLine pins =>
    obtain rfl := Host.Outcome.next.inj hx
    exact restart_allowance (withPins_allowance h pins) _ _
  case restoreDescentEnd =>
    obtain rfl := Host.Outcome.next.inj hx
    split
    · exact restoreRelease_allowance h
    · exact h
  case turnTimeout =>
    obtain rfl := Host.Outcome.next.inj hx
    split
    · exact sent_allowance (turnTimedOut_allowance h)
    · exact h
  case platenSettled side position =>
    have settled := mechPump_allowance (withPins_allowance h
      { s.pins with position := s.pins.position.set side position })
    obtain rfl := Host.Outcome.next.inj hx
    exact sent_allowance (layPump_allowance settled (mechPump_sound (trackerSound_coreLaw s _ rfl rfl rfl sound)))
  case angleSettled angle =>
    obtain rfl := Host.Outcome.next.inj hx
    exact sent_allowance (mechPump_allowance (withPins_allowance h _))
  case glassForceReading force =>
    have read := withPins_allowance h { s.pins with force := force }
    obtain rfl := Host.Outcome.next.inj hx
    split
    · exact sent_allowance (readForce_allowance read _ _)
    · exact read
  case raisedStopSensor on =>
    have read := withPins_allowance h { s.pins with raisedStop := on }
    obtain rfl := Host.Outcome.next.inj hx
    split
    · exact sent_allowance (glassReached_allowance read (trackerSound_coreLaw s _ rfl rfl rfl sound))
    · exact read
  case glassMoveTimeout =>
    obtain rfl := Host.Outcome.next.inj hx
    split
    · exact sent_allowance (lowerTimedOut_allowance h)
    · exact sent_allowance (raiseTimedOut_allowance h)
    · exact h
  case supplySettled =>
    obtain rfl := Host.Outcome.next.inj hx
    split
    · exact sent_allowance (supplyReady_allowance h)
    · exact h
  case idleStageExpiry =>
    obtain rfl := Host.Outcome.next.inj hx
    split
    · exact h
    · exact sent_allowance (idleExpires_allowance h)
  case lightingGrant =>
    obtain rfl := Host.Outcome.next.inj hx
    exact sent_allowance (grantNext_allowance h)
  case auxLevelChange line high =>
    obtain rfl := Host.Outcome.next.inj hx
    exact setPause_allowance (withPins_allowance h _) _
  case auxEdge line =>
    obtain rfl := Host.Outcome.next.inj hx
    split
    · refine sent_allowance (edgeActs_allowance (setPause_allowance h _) ?_ _ _)
      exact trackerSound_coreLaw s _ rfl rfl rfl sound
    · exact h
  case volumeClockTick =>
    obtain rfl := Host.Outcome.next.inj hx
    exact h.noted (onOpen_noted s fun _ => ⟨rfl, rfl, rfl⟩)
  all_goals exact absurd hi nofun

/-! ## The Link Port's part of a command -/

/-- The arrival of a request keeps the law where what its block does with it does. -/
theorem arrive_allowance {s : State} (h : AllowanceLaw s) (sound : TrackerSound s) (kind tag : Nat)
    {take : State → State × Answer} (ht : ∀ u, AllowanceLaw u → TrackerSound u → AllowanceLaw (take u).1) :
    AllowanceLaw (arrive s kind tag take) := by
  have queued : AllowanceLaw (enqueue s kind tag) := withLink_allowance h _
  have queuedSound : TrackerSound (enqueue s kind tag) := trackerSound_coreLaw s _ rfl rfl rfl sound
  unfold arrive
  dsimp only
  split
  · exact h
  · split
    · exact (ht _ queued queuedSound).congr (by simp)
    · split
      · exact h.congr (by simp)
      · exact h

theorem takeFrame_allowance (kind : Nat) (p : List Byte) (u : State) (h : AllowanceLaw u) (sound : TrackerSound u) :
    AllowanceLaw (takeFrame kind p u).1 := by
  rcases takeFrame_cases kind p u with ⟨i, take, hi, e⟩ | ⟨reason, e⟩
  · rw [e]
    exact take_allowance hi h sound
  · rw [e]
    exact h

theorem receive_allowance {s : State} (h : AllowanceLaw s) (sound : TrackerSound s) (b : Byte) :
    AllowanceLaw (receive s b) := by
  have error (why : Condition) : AllowanceLaw (receiveError s why) := h.congr (by simp)
  have moved (f : Framer) : AllowanceLaw (setFramer s f) := withLink_allowance h _
  have movedSound (f : Framer) : TrackerSound (setFramer s f) := trackerSound_coreLaw s _ rfl rfl rfl sound
  unfold receive
  split
  case h_1 => split; exacts [moved _, h]
  case h_3 => split; exacts [error _, moved _]
  case h_6 => split <;> exact moved _
  case h_8 => -- the last check byte
    unfold frameReceived
    split
    · exact arrive_allowance (moved _) (movedSound _) _ _ (takeFrame_allowance _ _)
    · exact error _
  all_goals exact moved _

theorem replySent_allowance {s : State} (h : AllowanceLaw s) (r : Reply) (rest : List Reply) :
    AllowanceLaw (replySent s r rest) := by
  have left : AllowanceLaw (replyLeaves s r rest) := h.congr (by simp)
  unfold replySent
  dsimp only
  split
  · exact restart_allowance left _ _
  · split <;> exact left.congr (by simp)

theorem chunkSent_allowance {s : State} (h : AllowanceLaw s) : AllowanceLaw (chunkSent s) := by
  have free := withLink_allowance h { s.link with sending := none }
  unfold chunkSent
  dsimp only
  split
  · exact transmit_allowance free
  · next t _ =>
    split
    · exact transmit_allowance (endStream_allowance free t)
    · have goes := free.frozen (st := { s.store with stream := some { t with next := t.next + 1 } }) fun _ => .inl rfl
      exact goes.congr (by simp)

theorem frameSent_allowance {s t : State} (h : AllowanceLaw s) (hx : exec .frameSent s = .next t) :
    AllowanceLaw t := by
  have other := transmit_allowance (withLink_allowance h (otherSent s.link))
  obtain rfl := Host.Outcome.next.inj hx
  split
  · exact h
  · split
    · split
      · exact replySent_allowance h _ _
      · exact other
    · exact other
    · exact chunkSent_allowance h

theorem exec_allowance {i : Instr} {s t : State} (h : AllowanceLaw s) (sound : TrackerSound s)
    (hx : exec i s = .next t) : AllowanceLaw t := by
  rcases hi : i.take? with _ | take
  · obtain rfl | hsent := eq_or_ne i .frameSent
    · exact frameSent_allowance h hx
    obtain ⟨b, rfl⟩ | hbyte := em (∃ b, i = .byteReceived b)
    · obtain rfl := Host.Outcome.next.inj hx
      exact receive_allowance h sound b
    obtain ⟨run, rfl⟩ | hclear := em (∃ run, i = .clearStore run)
    · obtain rfl := Host.Outcome.next.inj hx
      split
      · exact arrive_allowance h sound _ _ fun u hu _ => takeClearStore_allowance hu
      · have cut := clearCut_allowance h
        split <;> exact restart_allowance (withPins_allowance (cut _) _) _ _
    exact event_allowance hi (not_exists.mp hclear) (not_exists.mp hbyte) hsent hx h sound
  · obtain ⟨kind, tag, e⟩ := exec_of_take hi
    obtain rfl := Host.Outcome.next.inj ((e s).symm.trans hx)
    exact arrive_allowance h sound kind tag fun _ hu soundU => take_allowance hi hu soundU

theorem step_allowance {s t : State} (h : AllowanceLaw s) (sound : TrackerSound s) (hx : step s = .next t) :
    AllowanceLaw t := by
  unfold step at hx
  split at hx
  · next rest _ => exact exec_allowance (s := { s with pending := rest }) h sound hx
  · obtain rfl := Host.Outcome.next.inj hx
    exact tick_allowance h

/-- A state in which every block's law holds keeps the law of R108 in parts. -/
theorem allowanceLaw_of_sound {s : State} (store : StoreSound s) (tracker : TrackerSound s)
    (lamps : LampsInRange s.lamps) (dose : DoseSound s) : AllowanceLaw s :=
  ⟨chargesCovered_of_sound store lamps dose, tracker.stands.shows⟩

/-- Settles O60, by the inversion of every command: each operation of the Dose Unit charges what a prediction has
passed or settles to less, and all the others leave the accounts and what may still be charged. -/
theorem stepsKeepTheAllowances : Obligations.StepsKeepTheAllowances := by
  intro s t store tracker lamps dose hx
  have law := step_allowance (allowanceLaw_of_sound store tracker lamps dose) tracker hx
  refine ⟨law.1.doseSound, fun i v hv => ?_⟩
  obtain ⟨face, whole⟩ := law.1.doseSound.1 i v hv
  exact ⟨face, whole⟩

end Sys2Proof.Machine
end

-- ==== Proofs: the pause's law ====
section
/-! StepsKeepThePause: what a stop, the hood and a deferred request make of the pause record, the commands that act on
it, and the law for every step. -/

namespace Sys2Proof.Machine

open Sys2Proof.Config

/-! ## The law in two parts -/

/-- What the law says of the pause state, its cause, its phase and the deferred slot: the part that a stop, a RESUME and
a deferral write, before the hood is judged (R139, R147). -/
def PauseOrdered (p : Pause) : Prop :=
  (p.state = .running ↔ p.cause = none)
    ∧ (p.state = .pausedBroken ↔ p.brokenPhase.isSome = true)
    ∧ (p.deferred.isSome = true → p.state = .paused)

theorem pauseSound_iff {p : Pause} : PauseSound p ↔ PauseOrdered p ∧ p.hoodOpen = hoodFrom p.lines := by
  simp only [PauseSound, PauseOrdered, and_assoc]

/-- The hood reads of each line only whether it is a HOOD line at HIGH. -/
theorem hoodFrom_congr {q r : Lines Aux}
    (h : ∀ l, (decide ((q.get l).func = .hood) && (q.get l).debounced)
      = (decide ((r.get l).func = .hood) && (r.get l).debounced)) : hoodFrom q = hoodFrom r := by
  simp only [hoodFrom, h]

/-- A line written with the same function, and the same debounced level or no HOOD function, leaves the hood. -/
theorem hoodFrom_set {q : Lines Aux} {l : AuxLine} {a : Aux} (func : a.func = (q.get l).func)
    (level : a.func = .hood → a.debounced = (q.get l).debounced) : hoodFrom (q.set l a) = hoodFrom q := by
  refine hoodFrom_congr fun m => ?_
  rw [Lines.get_set]
  split
  · next same =>
    subst same
    by_cases hood : a.func = .hood
    · rw [← func, level hood]
    · simp [hood, ← func]
  · rfl

/-! ## Stops and the hood (R141, R145, R146) -/

/-- What a stop makes of the pause record: in RUNNING a pause, broken where the turner moves; in a pause nothing. -/
def stoppedPause (p : Pause) (t : Turner) (cause : PauseCause) : Pause :=
  if p.state = .running then
    { p with
      state := if inMotion t = true then .pausedBroken else .paused
      cause := some cause
      brokenPhase := if inMotion t = true then some (brokenPhaseCode t) else none }
  else p

@[simp] theorem stopTaken_pause (s : State) (cause : PauseCause) :
    (stopTaken s cause).pause = stoppedPause s.pause s.turner cause := by
  unfold stopTaken stoppedPause
  by_cases running : s.pause.state = .running
  · by_cases moving : inMotion s.turner = true <;> simp [running, moving]
  · simp [running]

@[simp] theorem stoppedPause_hood (p : Pause) (t : Turner) (cause : PauseCause) :
    (stoppedPause p t cause).hoodOpen = p.hoodOpen ∧ (stoppedPause p t cause).lines = p.lines := by
  unfold stoppedPause
  split <;> exact ⟨rfl, rfl⟩

theorem PauseOrdered.stopped {p : Pause} (h : PauseOrdered p) (t : Turner) (cause : PauseCause) :
    PauseOrdered (stoppedPause p t cause) := by
  obtain ⟨running, broken, deferred⟩ := h
  unfold stoppedPause
  split
  · next runs =>
    have empty : p.deferred.isSome = false := by
      rw [← Bool.not_eq_true]
      intro holds
      simp [deferred holds] at runs
    by_cases moving : inMotion t = true <;> simp [PauseOrdered, moving, empty]
  · exact ⟨running, broken, deferred⟩

/-- The hood judged has the state that the debounced levels give. -/
theorem judgeHood_pause (s : State) :
    (judgeHood s).pause =
      if hoodFrom s.pause.lines = true ∧ s.pause.hoodOpen = false then
        stoppedPause { s.pause with hoodOpen := true } s.turner .hood
      else { s.pause with hoodOpen := hoodFrom s.pause.lines } := by
  rw [judgeHood_eq]
  cases lines : hoodFrom s.pause.lines
  · simp
  · cases stood : s.pause.hoodOpen
    · simp
    · simp [← stood]

theorem judgeHood_hoodOpen (s : State) : (judgeHood s).pause.hoodOpen = hoodFrom s.pause.lines := by
  rw [judgeHood_pause]
  split
  · next opens => simp [opens.1]
  · rfl

theorem judgeHood_stateCode (s : State) :
    (judgeHood s).pause.state.code =
      if hoodFrom s.pause.lines = true ∧ s.pause.hoodOpen = false ∧ s.pause.state = .running then
        if inMotion s.turner = true then 2 else 1
      else s.pause.state.code := by
  rw [judgeHood_pause]
  by_cases opens : hoodFrom s.pause.lines = true ∧ s.pause.hoodOpen = false
  · by_cases running : s.pause.state = .running
    · rw [if_pos opens, if_pos ⟨opens.1, opens.2, running⟩, stoppedPause, if_pos running]
      exact apply_ite PauseState.code _ _ _
    · rw [if_pos opens, if_neg fun h => running h.2.2, stoppedPause, if_neg running]
  · rw [if_neg opens, if_neg fun h => opens ⟨h.1, h.2.1⟩]

theorem judgeHood_pauseSound {s : State} (h : PauseOrdered s.pause) : PauseSound (judgeHood s).pause := by
  rw [pauseSound_iff, judgeHood_pause]
  split
  · next opens =>
    have told : PauseOrdered { s.pause with hoodOpen := true } := h
    exact ⟨told.stopped _ _, by simp [opens.1]⟩
  · exact ⟨h, rfl⟩

/-! ## Requests that may be deferred (R147) -/

/-- What a TURN or a CAPTURE may make of the pause record: nothing, or in PAUSED a full deferred slot. -/
def MayDefer (p q : Pause) : Prop := q = p ∨ p.state = .paused ∧ ∃ d, q = { p with deferred := some d }

theorem PauseSound.mayDefer {p q : Pause} (h : PauseSound p) (hq : MayDefer p q) : PauseSound q := by
  obtain rfl | ⟨paused, d, rfl⟩ := hq
  · exact h
  · obtain ⟨running, broken, -, hood⟩ := h
    exact ⟨running, broken, fun _ => paused, hood⟩

/-- A part that is not PAUSED defers nothing. -/
theorem MayDefer.eq_of_not_paused {p q : Pause} (hq : MayDefer p q) (h : p.state ≠ .paused) : q = p :=
  hq.resolve_right fun deferred => h deferred.1

theorem deferRequest_mayDefer {s : State} (paused : s.pause.state = .paused) (d : Deferred) :
    MayDefer s.pause (deferRequest s d).1.pause := by
  unfold deferRequest
  split
  · exact .inl rfl
  · exact .inr ⟨paused, d, rfl⟩

theorem turnArrives_mayDefer (direction flags : Nat) (s : State) :
    MayDefer s.pause (turnArrives direction flags s).1.pause := by
  unfold turnArrives
  dsimp only
  split
  · exact .inl rfl
  · split
    · next paused => exact deferRequest_mayDefer (s := idleRestart s) paused _
    · split
      · exact .inl (by simp)
      · exact .inl rfl

theorem captureArrives_mayDefer (code : Nat) (manual : Bool) (s : State) :
    MayDefer s.pause (captureArrives code manual s).1.pause := by
  unfold captureArrives
  dsimp only
  split
  · exact .inl rfl
  · split
    · split
      · exact .inl (by simp)
      · split
        · exact .inl rfl
        · split
          · next paused => exact deferRequest_mayDefer (s := idleRestart s) paused _
          · exact .inl (by simp)
    · exact .inl rfl

/-! ## RESUME (R148) -/

/-- RESUME leaves the pause RUNNING, with no cause, no phase and nothing deferred. -/
def resumedPause (p : Pause) : Pause :=
  { p with state := .running, cause := none, brokenPhase := none, deferred := none }

theorem resumedPause_sound {p : Pause} (h : PauseSound p) : PauseSound (resumedPause p) := by
  obtain ⟨-, -, -, hood⟩ := h
  exact ⟨by simp [resumedPause], by simp [resumedPause], by simp [resumedPause], hood⟩

theorem resumeRunning_pause (s : State) :
    (resumeRunning s).pause = { s.pause with state := .running, cause := none, brokenPhase := none } := by
  unfold resumeRunning
  dsimp only
  split <;> simp

/-- RESUME's first steps with the deferred slot emptied: the pause RUNNING, and a HALTED glass raised. -/
def resumedState (s : State) : State :=
  { s with
    pause := resumedPause s.pause
    mech :=
      if s.mech.glass.state = .halted then
        { s.mech with glass := { s.mech.glass with state := .raising, keptRaise := false } }
      else s.mech }

theorem resumeRunning_emptied (s : State) :
    setPause (resumeRunning s) { (resumeRunning s).pause with deferred := none } = resumedState s := by
  unfold resumeRunning resumedState
  dsimp only
  split <;> rfl

theorem resumeTaken_of_empty {s : State} (h : s.pause.deferred = none) : resumeTaken s = resumedState s := by
  have empty : (resumeRunning s).pause.deferred = none := by rw [resumeRunning_pause, h]
  simp only [resumeTaken, h]
  rw [← resumeRunning_emptied, ← empty]
  rfl

/-- A deferred request arrives at the resumed part. -/
theorem startDeferred_resumeRunning (s : State) (d : Deferred) :
    startDeferred (resumeRunning s) d =
      match d with
      | .turn direction flags => turnArrives direction flags (resumedState s)
      | .capture sides => captureArrives sides false (resumedState s) := by
  rw [← resumeRunning_emptied]
  rfl

theorem resumeTaken_of_deferred {s : State} {d : Deferred} (h : s.pause.deferred = some d) :
    resumeTaken s = deferredResult (startDeferred (resumeRunning s) d) := by
  simp only [resumeTaken, h]

/-- A deferred request starts in RUNNING, so that it is not deferred again. -/
theorem startDeferred_pause (s : State) (d : Deferred) :
    (startDeferred (resumeRunning s) d).1.pause = resumedPause s.pause := by
  have running : (resumedState s).pause.state ≠ .paused := nofun
  rw [startDeferred_resumeRunning]
  cases d with
  | turn direction flags => exact (turnArrives_mayDefer direction flags _).eq_of_not_paused running
  | capture sides => exact (captureArrives_mayDefer sides false _).eq_of_not_paused running

theorem resumeTaken_pauseSound {s : State} (h : PauseSound s.pause) : PauseSound (resumeTaken s).pause := by
  have resumed := resumedPause_sound h
  cases slot : s.pause.deferred with
  | none =>
    rw [resumeTaken_of_empty slot]
    exact resumed
  | some d =>
    rw [← startDeferred_pause s d] at resumed
    rw [resumeTaken_of_deferred slot, deferredResult]
    split
    · simp only [latch_frame]
      exact resumed
    · exact resumed

/-! ## The lines (R140 to R144) -/

theorem pedalPress_pauseSound {s : State} (h : PauseSound s.pause) : PauseSound (pedalPress s).pause := by
  have recorded (a : PedalAction) : PauseSound (recordPedal s a).pause := h
  unfold pedalPress
  split
  · split
    · simpa using recorded .manualDone
    · exact recorded .ignored
  · split
    · simpa using recorded .accept
    · split
      · have captured := (recorded .capture).mayDefer (captureArrives_mayDefer 1 true (recordPedal s .capture))
        unfold pedalCaptures
        dsimp only
        split <;> exact captured
      · exact recorded .ignored

theorem edgeActs_eq (s : State) (line : AuxLine) (edge : EdgeKind) :
    edgeActs s line edge =
      match (s.pause.lines.get line).func with
      | .stop => if edge = .falling then stopTaken s .stop else s
      | .pedal => if edge = .falling then pedalPress s else s
      | .hood => judgeHood s
      | .signal => if edgeSelected (s.pause.lines.get line).edge edge then signalEdge s line edge else s
      | .none => s := by
  unfold edgeActs
  cases func : (s.pause.lines.get line).func <;> cases edge <;> simp only [func] <;> rfl

/-- An edge of a line that has just taken its new debounced level. -/
theorem edgeActs_pauseSound {s : State} {line : AuxLine} (h : PauseOrdered s.pause)
    (hood : (s.pause.lines.get line).func ≠ .hood → s.pause.hoodOpen = hoodFrom s.pause.lines) (edge : EdgeKind) :
    PauseSound (edgeActs s line edge).pause := by
  have sound (other : (s.pause.lines.get line).func ≠ .hood) : PauseSound s.pause :=
    pauseSound_iff.mpr ⟨h, hood other⟩
  rw [edgeActs_eq]
  cases func : (s.pause.lines.get line).func with
  | stop =>
    dsimp only
    split
    · rw [stopTaken_pause, pauseSound_iff]
      exact ⟨h.stopped _ _, by simpa using hood (by simp [func])⟩
    · exact sound (by simp [func])
  | pedal =>
    dsimp only
    split
    · exact pedalPress_pauseSound (sound (by simp [func]))
    · exact sound (by simp [func])
  | hood => exact judgeHood_pauseSound h
  | signal =>
    dsimp only
    split
    · simp only [signalEdge, latch_frame]
      refine pauseSound_iff.mpr ⟨h, (hood (by simp [func])).trans (hoodFrom_set ?_ ?_).symm⟩
      · rfl
      · exact fun _ => rfl
    · exact sound (by simp [func])
  | none => exact sound (by simp [func])

theorem takeSetAux_pauseSound {s : State} (h : PauseSound s.pause) (funcs edges : Lines Nat) :
    PauseSound (takeSetAux funcs edges s).1.pause := by
  have ordered (lines : Lines Aux) : PauseOrdered { s.pause with lines := lines } := (pauseSound_iff.mp h).1
  unfold takeSetAux
  split
  · exact h
  · split
    · simp only [aimRetest_frame]
      exact judgeHood_pauseSound (ordered _)
    · exact h
    · exact h

theorem takeReadAux_pauseSound {s : State} (h : PauseSound s.pause) : PauseSound (takeReadAux s).1.pause := by
  obtain ⟨ordered, hood⟩ := pauseSound_iff.mp h
  refine pauseSound_iff.mpr ⟨ordered, hood.trans (hoodFrom_congr fun l => ?_)⟩
  cases l <;> rfl

theorem auxLevelChange_pauseSound {s t : State} {line : AuxLine} {high : Bool} (h : PauseSound s.pause)
    (hx : exec (.auxLevelChange line high) s = .next t) : PauseSound t.pause := by
  obtain rfl := Host.Outcome.next.inj hx
  obtain ⟨ordered, hood⟩ := pauseSound_iff.mp h
  refine pauseSound_iff.mpr ⟨ordered, hood.trans (hoodFrom_set ?_ ?_).symm⟩
  · rfl
  · exact fun _ => rfl

theorem auxEdge_pauseSound {s t : State} {line : AuxLine} (h : PauseSound s.pause)
    (hx : exec (.auxEdge line) s = .next t) : PauseSound t.pause := by
  obtain rfl := Host.Outcome.next.inj hx
  obtain ⟨ordered, hood⟩ := pauseSound_iff.mp h
  split
  · simp only [transmit_frame, aimRetest_frame]
    refine edgeActs_pauseSound (s := setAuxLine s line _) ordered (fun other => hood.trans (hoodFrom_set ?_ ?_).symm) _
    · rfl
    · intro isHood
      exact absurd isHood (by simpa [setAuxLine] using other)
  · exact h

/-! ## Every command -/

theorem pauseRestarted_sound (pins : Pins) : PauseSound (pauseRestarted pins) := by
  refine pauseSound_iff.mpr ⟨?_, rfl⟩
  rw [pauseRestarted_eq]
  cases lineCause pins <;> simp [PauseOrdered]

theorem take_pauseSound {i : Instr} {take : State → State × Answer} (hi : i.take? = some take) {s : State}
    (h : PauseSound s.pause) : PauseSound (take s).1.pause := by
  unfold Instr.take? at hi
  split at hi <;> cases hi
  case h_13 => simpa [takeTurn] using h.mayDefer (turnArrives_mayDefer _ _ s)
  case h_31 => simpa [takeCapture] using h.mayDefer (captureArrives_mayDefer _ false s)
  case h_37 => unfold takeResume; (repeat' split) <;> simp [h, resumeTaken_pauseSound]
  case h_38 => exact takeSetAux_pauseSound h _ _
  case h_39 => exact takeReadAux_pauseSound h
  all_goals simpa using h

/-- The events but those of the lines and of a restart leave the pause record. -/
theorem event_pauseSound {i : Instr} {s t : State} (hi : i.take? = none) (hclear : ∀ run, i ≠ .clearStore run)
    (hbyte : ∀ b, i ≠ .byteReceived b) (hsent : i ≠ .frameSent) (hx : exec i s = .next t)
    (h : PauseSound s.pause) : PauseSound t.pause := by
  cases i
  case clearStore run => exact absurd rfl (hclear run)
  case byteReceived b => exact absurd rfl (hbyte b)
  case frameSent => exact absurd rfl hsent
  case auxLevelChange line high => exact auxLevelChange_pauseSound h hx
  case auxEdge line => exact auxEdge_pauseSound h hx
  case powerOn | resetLine =>
    obtain rfl := Host.Outcome.next.inj hx
    simp [powerOn, resetLine, pauseRestarted_sound]
  case gap | homeSensor | farEndSensor | holdSensor | cupEmptySensor | separationTime | restoreDescentEnd
      | restoreReleaseWait | liftTimeout | turnTimeout | platenSettled | angleSettled | glassForceReading
      | raisedStopSensor | glassMoveTimeout | supplySettled | idleStageExpiry | lightingGrant | lightingReady
      | referencePulseStart | referencePulseEnd | aimingInterval | exposureActiveRise | strobeDelayExpiry | strobeEnd
      | exposureActiveFall | cameraTimeout | volumeClockTick =>
    obtain rfl := Host.Outcome.next.inj hx
    (repeat' split) <;> simp [h]
  all_goals exact absurd hi nofun

/-! ## The Link Port's part of a command -/

/-- The arrival of a request leaves the pause record, or does with it what its block does. -/
theorem arrive_pauseSound {s : State} (h : PauseSound s.pause) (kind tag : Nat) {take : State → State × Answer}
    (ht : ∀ u : State, PauseSound u.pause → PauseSound (take u).1.pause) :
    PauseSound (arrive s kind tag take).pause := by
  have queued := ht (enqueue s kind tag) h
  unfold arrive; dsimp only; (repeat' split) <;> simp [h, queued]

theorem takeFrame_pauseSound (kind : Nat) (p : List Byte) {s : State} (h : PauseSound s.pause) :
    PauseSound (takeFrame kind p s).1.pause := by
  rcases takeFrame_cases kind p s with ⟨i, take, hi, e⟩ | ⟨reason, e⟩
  · rw [e]; exact take_pauseSound hi h
  · rw [e]; exact h

theorem receive_pauseSound {s : State} (h : PauseSound s.pause) (b : Byte) : PauseSound (receive s b).pause := by
  unfold receive
  split
  case h_8 => -- the last check byte
    unfold frameReceived
    split
    · exact arrive_pauseSound (s := setFramer s .hunt) h _ _ fun _ => takeFrame_pauseSound _ _
    · simpa using h
  all_goals (repeat' split) <;> simp [h]

theorem frameSent_pauseSound {s t : State} (h : PauseSound s.pause) (hx : exec .frameSent s = .next t) :
    PauseSound t.pause := by
  obtain rfl := Host.Outcome.next.inj hx
  unfold replySent
  dsimp only
  (repeat' split) <;> simp [h, pauseRestarted_sound]

theorem exec_pauseSound {i : Instr} {s t : State} (h : PauseSound s.pause) (hx : exec i s = .next t) :
    PauseSound t.pause := by
  rcases hi : i.take? with _ | take
  · obtain rfl | hsent := eq_or_ne i .frameSent
    · exact frameSent_pauseSound h hx
    obtain ⟨b, rfl⟩ | hbyte := em (∃ b, i = .byteReceived b)
    · obtain rfl := Host.Outcome.next.inj hx
      exact receive_pauseSound h b
    obtain ⟨run, rfl⟩ | hclear := em (∃ run, i = .clearStore run)
    · obtain rfl := Host.Outcome.next.inj hx
      split
      · exact arrive_pauseSound h _ _ fun u hu => by simpa using hu
      · split <;> simp [powerOn, resetLine, pauseRestarted_sound]
    exact event_pauseSound hi (not_exists.mp hclear) (not_exists.mp hbyte) hsent hx h
  · obtain ⟨kind, tag, e⟩ := exec_of_take hi
    obtain rfl := Host.Outcome.next.inj ((e s).symm.trans hx)
    exact arrive_pauseSound h kind tag fun _ => take_pauseSound hi

/-- Settles O58, by the inversion of every command: it leaves the pause record, or it is a stop, a deferral, a RESUME,
a judgement of the hood, a change of the lines or a restart. -/
theorem stepsKeepThePause : Obligations.StepsKeepThePause := by
  intro s t h hx
  unfold step at hx
  split at hx
  · next rest _ => exact exec_pauseSound (s := { s with pending := rest }) h hx
  · obtain rfl := Host.Outcome.next.inj hx
    simpa using h

end Sys2Proof.Machine
end

-- ==== Proofs: the auxiliary lines ====
section
/-! AuxiliaryLines: the window that a sampled level opens or abandons, and the edge by the function of its line. -/

namespace Sys2Proof.Machine

open Sys2Proof.Config

/-! ## A line written (R140) -/

theorem Lines.set_set {α : Type} (q : Lines α) (l : AuxLine) (v w : α) : (q.set l v).set l w = q.set l w := by
  cases l <;> rfl

/-- A line at the end of its debounce window: the other level, and no window. -/
def windowEnds (a : Aux) : Aux := { a with debounced := !a.debounced, window := false }

/-- The edge that a line makes on leaving a debounced level. -/
def edgeFrom (high : Bool) : EdgeKind := if high then .falling else .rising

theorem execAuxEdge_of_window {line : AuxLine} {s : State} (h : (s.pause.lines.get line).window = true) :
    exec (.auxEdge line) s =
      .next (transmit (aimRetest (edgeActs (setAuxLine s line (windowEnds (s.pause.lines.get line))) line
        (edgeFrom (s.pause.lines.get line).debounced)))) := by
  change execAuxEdge line s = _
  simp only [execAuxEdge, h, if_true]
  rfl

theorem execAuxEdge_of_no_window {line : AuxLine} {s : State} (h : (s.pause.lines.get line).window = false) :
    exec (.auxEdge line) s = .next s := by
  change execAuxEdge line s = _
  simp [execAuxEdge, h]

/-! ## The edge (R141, R142) -/

theorem edgeFrom_eq_falling {high : Bool} : edgeFrom high = .falling ↔ high = true := by
  cases high <;> simp [edgeFrom]

theorem edgeSelected_edgeFrom {e : EdgeSelection} {high : Bool} :
    edgeSelected e (edgeFrom high) = true ↔ e = .both ∨ e = if high = true then .falling else .rising := by
  cases high <;> cases e <;> simp [edgeFrom, edgeSelected]

/-- A signal edge of a line that has just been written. -/
theorem signalEdge_setAuxLine (s : State) (line : AuxLine) (a : Aux) (edge : EdgeKind) :
    signalEdge (setAuxLine s line a) line edge =
      latch (setAuxLine s line { a with edges := { count := min (a.edges.count + 1) 65535, last := some edge } })
        (.auxSignal line edge) := by
  have written : (setAuxLine s line a).pause.lines.get line = a := by simp [setAuxLine]
  simp only [signalEdge, written]
  simp only [setAuxLine, setPause, Lines.set_set, hold16]

/-- The edge of a line whose window ends acts by the line's function. -/
theorem edgeActs_windowEnds (s : State) (line : AuxLine) :
    let a := s.pause.lines.get line
    let read := setAuxLine s line (windowEnds a)
    edgeActs read line (edgeFrom a.debounced) =
      match a.func with
      | .stop => if a.debounced = true then stopTaken read .stop else read
      | .pedal => if a.debounced = true then pedalPress read else read
      | .hood => judgeHood read
      | .signal =>
        if a.edge = .both ∨ a.edge = (if a.debounced = true then .falling else .rising) then
          latch
            (setAuxLine s line { windowEnds a with
              edges := { count := min (a.edges.count + 1) 65535, last := some (edgeFrom a.debounced) } })
            (.auxSignal line (edgeFrom a.debounced))
        else read
      | .none => read := by
  intro a read
  have written : read.pause.lines.get line = windowEnds a := by simp [read, setAuxLine]
  have func : (windowEnds a).func = a.func := rfl
  rw [edgeActs_eq, written, func]
  cases a.func with
  | stop => exact if_congr edgeFrom_eq_falling rfl rfl
  | pedal => exact if_congr edgeFrom_eq_falling rfl rfl
  | hood => rfl
  | signal => exact if_congr edgeSelected_edgeFrom (signalEdge_setAuxLine s line _ _) rfl
  | none => rfl

/-- Settles O50: the window by the sampled level, and its end by the function of the line. -/
theorem auxiliaryLines : Obligations.AuxiliaryLines := by
  intro line s a
  refine ⟨fun high => ?_, execAuxEdge_of_no_window, fun window => ?_⟩
  · have opens : (high != a.debounced) = decide (high ≠ a.debounced) := by
      cases high <;> cases a.debounced <;> rfl
    rw [← opens]
    rfl
  · have acts := does_aimRetest (execAuxEdge_of_window window) (by simp [LinkKept])
    rw [edgeActs_windowEnds] at acts
    exact acts

end Sys2Proof.Machine
end

-- ==== Proofs: RESUME, SET_AUX and READ_AUX ====
section
/-! PauseRequests: the pause ended and a deferred request started, the settings of the lines judged from the lowest
field on and replaced, and the items of READ_AUX. -/

namespace Sys2Proof.Machine

open Sys2Proof.Config

/-! ## READ_AUX (R139, R144) -/

theorem pauseCause_code_pred (c : PauseCause) : c.code - 1 = match c with | .stop => 0 | .hood => 1 := by
  cases c <;> rfl

theorem edgeKind_code_pred (e : EdgeKind) : e.code - 1 = match e with | .rising => 0 | .falling => 1 := by
  cases e <;> rfl

theorem lineItems_eq (a : Aux) :
    lineItems a =
      [ u 1 a.func.code, u 1 a.edge.code, u 1 (if a.debounced = true then 0 else 1), u 2 a.edges.count,
        ou 1 (a.edges.last.map fun e => match e with | .rising => 0 | .falling => 1) ] := by
  simp only [lineItems, bit_not_eq, edgeKind_code_pred]

/-! ## RESUME (R148) -/

theorem takeResume_eq (s : State) :
    takeResume s =
      if s.pause.state = .running then refuse s .wrongState 0
      else if s.pause.hoodOpen = true then refuse s .hoodOpen 0
      else
        (aimRetest (resumeTaken s),
          taken [ u 1 s.pause.state.code, ou 1 (s.pause.deferred.map Deferred.kind),
            .opt 2 (s.pause.deferred.map fun _ => (resumeTaken s).pause.lastDeferred.codes) ]) := rfl

/-- A RESUME that is not refused ends with what it makes of the part. -/
theorem resume_lastDeferred {s t : State} {tag : Nat} {rest : Answer} (h : Ready s)
    (eq : takeResume (enqueue s 0x38 tag) = (aimRetest (resumeTaken (enqueue s 0x38 tag)), rest))
    (hx : exec (.resume tag) s = .next t) :
    t.pause.lastDeferred = (resumeTaken (enqueue s 0x38 tag)).pause.lastDeferred := by
  obtain rfl := Host.Outcome.next.inj hx
  rw [arrive_ready h, eq]
  simp

/-! ## SET_AUX (R143) -/

/-- The function of a listed code. -/
def lineFunctionOf (code : Nat) : LineFunction :=
  match code with
  | 0 => .none
  | 1 => .stop
  | 2 => .pedal
  | 3 => .hood
  | _ => .signal

/-- The edge selection of a listed code. -/
def edgeSelectionOf (code : Nat) : EdgeSelection :=
  match code with
  | 0 => .rising
  | 1 => .falling
  | _ => .both

theorem lineFunctionOf?_eq (code : Nat) :
    lineFunctionOf? code = if 4 < code then none else some (lineFunctionOf code) := by
  match code with
  | 0 | 1 | 2 | 3 | 4 => rfl
  | n + 5 => rw [if_pos (by omega)]; rfl

theorem edgeSelectionOf?_eq (code : Nat) :
    edgeSelectionOf? code = if 2 < code then none else some (edgeSelectionOf code) := by
  match code with
  | 0 | 1 | 2 => rfl
  | n + 3 => rw [if_pos (by omega)]; rfl

theorem lineFunctionOf?_isSome_eq_false {code : Nat} : (lineFunctionOf? code).isSome = false ↔ 4 < code := by
  rw [lineFunctionOf?_eq]
  split <;> simp_all

theorem edgeSelectionOf?_isSome_eq_false {code : Nat} : (edgeSelectionOf? code).isSome = false ↔ 2 < code := by
  rw [edgeSelectionOf?_eq]
  split <;> simp_all

/-- The settings that the eight codes list. -/
def auxSettingsOf (funcs edges : Lines Nat) : Lines (LineFunction × EdgeSelection) :=
  { aux0 := (lineFunctionOf funcs.aux0, edgeSelectionOf edges.aux0)
    aux1 := (lineFunctionOf funcs.aux1, edgeSelectionOf edges.aux1)
    aux2 := (lineFunctionOf funcs.aux2, edgeSelectionOf edges.aux2)
    aux3 := (lineFunctionOf funcs.aux3, edgeSelectionOf edges.aux3) }

/-- The checks of SET_AUX, each a field index and whether its code is listed. -/
def auxChecks (funcs edges : Lines Nat) : List (Nat × Bool) :=
  [ (1, (lineFunctionOf? funcs.aux0).isSome), (2, (edgeSelectionOf? edges.aux0).isSome),
    (3, (lineFunctionOf? funcs.aux1).isSome), (4, (edgeSelectionOf? edges.aux1).isSome),
    (5, (lineFunctionOf? funcs.aux2).isSome), (6, (edgeSelectionOf? edges.aux2).isSome),
    (7, (lineFunctionOf? funcs.aux3).isSome), (8, (edgeSelectionOf? edges.aux3).isSome) ]

theorem auxBad?_eq (funcs edges : Lines Nat) : auxBad? funcs edges = firstBad (auxChecks funcs edges) := rfl

/-- With no field out of range every code is listed. -/
theorem auxSettings?_of_good {funcs edges : Lines Nat} (good : auxBad? funcs edges = none) :
    auxSettings? funcs edges = some (auxSettingsOf funcs edges) := by
  have each := firstBad_eq_none.mp good
  have func {i code : Nat} (h : (i, (lineFunctionOf? code).isSome) ∈ auxChecks funcs edges) :
      lineFunctionOf? code = some (lineFunctionOf code) := by
    have listed : ¬ 4 < code := fun bad => each i (by rwa [lineFunctionOf?_isSome_eq_false.mpr bad] at h)
    rw [lineFunctionOf?_eq, if_neg listed]
  have edge {i code : Nat} (h : (i, (edgeSelectionOf? code).isSome) ∈ auxChecks funcs edges) :
      edgeSelectionOf? code = some (edgeSelectionOf code) := by
    have listed : ¬ 2 < code := fun bad => each i (by rwa [edgeSelectionOf?_isSome_eq_false.mpr bad] at h)
    rw [edgeSelectionOf?_eq, if_neg listed]
  simp only [auxSettings?, func (i := 1) (code := funcs.aux0) (by simp [auxChecks]),
    edge (i := 2) (code := edges.aux0) (by simp [auxChecks]), func (i := 3) (code := funcs.aux1) (by simp [auxChecks]),
    edge (i := 4) (code := edges.aux1) (by simp [auxChecks]), func (i := 5) (code := funcs.aux2) (by simp [auxChecks]),
    edge (i := 6) (code := edges.aux2) (by simp [auxChecks]), func (i := 7) (code := funcs.aux3) (by simp [auxChecks]),
    edge (i := 8) (code := edges.aux3) (by simp [auxChecks])]
  rfl

/-- SET_AUX with every code listed: the settings replaced, then the hood judged. -/
def auxReplaced (funcs edges : Lines Nat) (s : State) : State :=
  judgeHood { s with pause := { s.pause with lines := setLines s.pause.lines (auxSettingsOf funcs edges) } }

theorem takeSetAux_eq (f0 e0 f1 e1 f2 e2 f3 e3 : Nat) (s : State) :
    let funcs : Lines Nat := { aux0 := f0, aux1 := f1, aux2 := f2, aux3 := f3 }
    let edges : Lines Nat := { aux0 := e0, aux1 := e1, aux2 := e2, aux3 := e3 }
    let replaced := auxReplaced funcs edges s
    takeSetAux funcs edges s =
      if s.pause.state = .pausedBroken then refuse s .wrongState 0
      else if 4 < f0 then refuse s .badValue 1
      else if 2 < e0 then refuse s .badValue 2
      else if 4 < f1 then refuse s .badValue 3
      else if 2 < e1 then refuse s .badValue 4
      else if 4 < f2 then refuse s .badValue 5
      else if 2 < e2 then refuse s .badValue 6
      else if 4 < f3 then refuse s .badValue 7
      else if 2 < e3 then refuse s .badValue 8
      else
        (aimRetest replaced,
          taken [ u 1 f0, u 1 e0, u 1 f1, u 1 e1, u 1 f2, u 1 e2, u 1 f3, u 1 e3,
            u 1 (bit replaced.pause.hoodOpen), u 1 replaced.pause.state.code ]) := by
  intro funcs edges replaced
  have judged (done : State × Answer) :
      (match auxBad? funcs edges with | some field => refuse s .badValue field | none => done) =
        if 4 < f0 then refuse s .badValue 1
        else if 2 < e0 then refuse s .badValue 2
        else if 4 < f1 then refuse s .badValue 3
        else if 2 < e1 then refuse s .badValue 4
        else if 4 < f2 then refuse s .badValue 5
        else if 2 < e2 then refuse s .badValue 6
        else if 4 < f3 then refuse s .badValue 7
        else if 2 < e3 then refuse s .badValue 8
        else done := by
    iterate 4
      refine (firstBad_cons ..).trans (if_congr lineFunctionOf?_isSome_eq_false rfl ?_)
      refine (firstBad_cons ..).trans (if_congr edgeSelectionOf?_isSome_eq_false rfl ?_)
    rfl
  rw [takeSetAux, ← judged]
  refine if_congr Iff.rfl rfl ?_
  cases bad : auxBad? funcs edges with
  | none =>
    rw [auxSettings?_of_good bad]
    rfl
  | some field => rfl

/-- Settles O53: RESUME by the pause and the deferred slot, SET_AUX field by field, and READ_AUX item by item. -/
theorem pauseRequests : Obligations.PauseRequests := by
  refine ⟨fun tag a b s h => ⟨?_, ?_⟩, fun p => ?_, rfl, fun r => rfl, fun tag s h => ⟨?_, ?_, ?_⟩⟩
  · exact takes_of_eq h rfl rfl (by simp [LinkKept])
  · exact takes_of_eq h rfl rfl (by simp [LinkKept])
  · intro line
    have items : lineItems = line := funext lineItems_eq
    simp only [auxItems, items, pauseCause_code_pred]
    rfl
  · refine ite_refuses h rfl (takeResume_eq (enqueue s 0x38 tag)) fun eq => ?_
    refine ite_refuses h rfl eq fun eq => ?_
    intro resumed was
    have lasts (t : State) := resume_lastDeferred (t := t) h eq
    cases slot : s.pause.deferred with
    | none =>
      have empty : (enqueue s 0x38 tag).pause.deferred = none := slot
      rw [resumeTaken_of_empty empty, empty] at eq
      exact takes_of_eq h rfl eq (by simp [LinkKept, resumed])
    | some d =>
      have holds : (enqueue s 0x38 tag).pause.deferred = some d := slot
      rw [holds] at eq
      refine ⟨_, lasts, takes_of_take h rfl (congrArg Prod.snd eq) ?_ (by simp)⟩
      rw [eq, resumeTaken_of_deferred holds, startDeferred_resumeRunning]
      rfl
  · intro f0 e0 f1 e1 f2 e2 f3 e3
    refine ite_refuses h rfl (takeSetAux_eq _ _ _ _ _ _ _ _ (enqueue s 0x39 tag)) fun eq => ?_
    iterate 8 refine ite_refuses h rfl eq fun eq => ?_
    rw [auxReplaced, judgeHood_hoodOpen, judgeHood_stateCode] at eq
    exact takes_of_eq h rfl eq (by simp [LinkKept])
  · exact takes_of_eq h rfl rfl ⟨rfl, rfl, rfl, rfl, rfl⟩

end Sys2Proof.Machine
end

-- ==== Proofs: the Condition Summary ====
section
/-! AttentionRaised: a report as one write of the summary, STATUS item by item, the checks of SET_ATTENTION, and the
attention-outstanding flag that the transmitter leaves. -/

namespace Sys2Proof.Machine

open Sys2Proof.Config

/-! ## Reports (R153, R154) -/

theorem latch_eq (s : State) (k : Condition) :
    let latches := s.summary.latches.set k.cls (some (latchedBy (s.summary.latches.get k.cls) k))
    latch s k =
      if s.summary.mask.getLsbD (k.cls.number - 1) = true ∧ s.summary.outstanding = false then
        { s with
            summary := { s.summary with latches := latches, outstanding := true }
            link := { s.link with attentionQueued := true } }
      else { s with summary := { s.summary with latches := latches } } :=
  if_congr (by simp [inMask]) rfl rfl

/-! ## The transmitter and the attention-outstanding flag (R155, R165) -/

/-- The transmitter moves the summary only when it drops a queued frame that would name no class. -/
theorem transmit_summary_cases (s : State) :
    (transmit s).summary = s.summary
      ∨ anyEnabledLatched s.summary = false ∧ (transmit s).summary = { s.summary with outstanding := false } := by
  unfold transmit
  split
  · exact .inl rfl
  · split
    · exact .inl (sendReply_summary s)
    · split
      · exact .inl (sendChunk_summary s)
      · split
        · cases enabled : anyEnabledLatched s.summary with
          | true =>
            obtain ⟨c, named⟩ := namedClass?_isSome enabled
            exact .inl (by rw [sendAttention_of_named enabled named])
          | false => exact .inr ⟨rfl, by rw [sendAttention_of_none enabled, sendReplyOrChunk_summary]⟩
        · exact .inl (sendReplyOrChunk_summary s)

theorem transmit_outstanding_eq_false {s : State} (h : s.summary.outstanding = false) :
    (transmit s).summary.outstanding = false := by
  rcases transmit_summary_cases s with kept | ⟨-, dropped⟩
  · rw [kept, h]
  · rw [dropped]

theorem transmit_outstanding_eq_true {s : State} (h : s.summary.outstanding = true)
    (enabled : anyEnabledLatched s.summary = true) : (transmit s).summary.outstanding = true := by
  rcases transmit_summary_cases s with kept | ⟨none', -⟩
  · rw [kept, h]
  · rw [enabled] at none'
    cases none'

/-! ## STATUS (R156) -/

theorem latchedCount_eq (l : Latches) :
    latchedCount l = bit l.halt.isSome + bit l.uncertain.isSome + bit l.dose.isSome + bit l.lamp.isSome
      + bit l.turn.isSome + bit l.capture.isSome + bit l.store.isSome + bit l.aux.isSome + bit l.link.isSome := by
  simp only [latchedCount, ← List.countP_eq_length_filter, CondClass.all, List.countP_cons, List.countP_nil,
    Latches.get, ← bit_eq]
  ring

/-- The record that a class with this number adds to a STATUS reply. -/
def recordIfLatched (number : Nat) (x : Option Latched) : List Byte :=
  match x with
  | some x => le 1 number ++ le 1 x.detail ++ le 2 x.arg ++ le 1 (bit x.repeated)
  | none => []

theorem statusRecords_eq (m : Summary) :
    statusRecords m =
      recordIfLatched 1 m.latches.halt ++ recordIfLatched 2 m.latches.uncertain ++ recordIfLatched 3 m.latches.dose
        ++ recordIfLatched 4 m.latches.lamp ++ recordIfLatched 5 m.latches.turn ++ recordIfLatched 6 m.latches.capture
        ++ recordIfLatched 7 m.latches.store ++ recordIfLatched 8 m.latches.aux
        ++ recordIfLatched 9 m.latches.link := by
  have each : statusRecords m = CondClass.all.flatMap fun c => recordIfLatched c.number (m.latches.get c) := rfl
  simp only [each, CondClass.all, List.flatMap_cons, List.flatMap_nil, List.append_nil, List.append_assoc]
  rfl

/-- The code of the elevated class, 0 for none. -/
theorem elevated_code_eq (e : Option CondClass) :
    (e.map CondClass.number).getD 0 =
      match e with
      | none => 0
      | some .halt => 1
      | some .uncertain => 2
      | some .dose => 3
      | some .lamp => 4
      | some .turn => 5
      | some .capture => 6
      | some .store => 7
      | some .aux => 8
      | some .link => 9 := by
  rcases e with - | c
  · rfl
  · cases c <;> rfl

/-! ## SET_ATTENTION (R157) -/

theorem inMask_ofNat (mask : Nat) (c : CondClass) :
    inMask (BitVec.ofNat 9 mask) c = mask.testBit (c.number - 1) := by
  have width : c.number - 1 < 9 := by cases c <;> decide
  rw [inMask, BitVec.getLsbD_ofNat, decide_eq_true width, Bool.true_and]

theorem ofNumber?_eq_none {code : Nat} (h : 9 < code) : CondClass.ofNumber? code = none := by
  obtain ⟨n, rfl⟩ := Nat.exists_eq_add_of_le' h
  rfl

theorem ofNumber?_number {code : Nat} (low : code ≠ 0) (high : code ≤ 9) :
    ∃ c, CondClass.ofNumber? code = some c ∧ c.number = code := by
  match code with
  | 0 => exact absurd rfl low
  | 1 | 2 | 3 | 4 | 5 | 6 | 7 | 8 | 9 => exact ⟨_, rfl, rfl⟩
  | n + 10 => omega

/-- The elevated class is none, or a class of the mask. -/
theorem elevatedOf?_ofNat (mask code : Nat) :
    elevatedOf? (BitVec.ofNat 9 mask) code =
      if code ≠ 0 ∧ (9 < code ∨ mask.testBit (code - 1) = false) then none else some (CondClass.ofNumber? code) := by
  unfold elevatedOf?
  split
  · next zero => simp [zero, CondClass.ofNumber?]
  · next low =>
    by_cases high : 9 < code
    · simp [ofNumber?_eq_none high, low, high]
    · obtain ⟨c, named, rfl⟩ := ofNumber?_number low (Nat.not_lt.mp high)
      cases listed : mask.testBit (c.number - 1) <;> simp [named, inMask_ofNat, listed, low, high]

theorem asksOnMask_setMask (s : State) (mask : Nat) (elevated : Option CondClass) :
    asksOnMask (setMask s (BitVec.ofNat 9 mask) elevated).summary = true ↔
      s.summary.outstanding = false
        ∧ ∃ c, mask.testBit (c.number - 1) = true ∧ (s.summary.latches.get c).isSome = true := by
  simp only [asksOnMask, Bool.and_eq_true, Bool.not_eq_true', anyEnabledLatched_iff, EnabledLatched, ← inMask_ofNat]
  rfl

/-- SET_ATTENTION past its checks: mask and elevated class replaced, and a frame asked for. -/
def maskReplaced (mask elevated : Nat) (s : State) : State :=
  let replaced := setMask s (BitVec.ofNat 9 mask) (CondClass.ofNumber? elevated)
  if asksOnMask replaced.summary = true then askAttention replaced else replaced

theorem takeSetAttention_eq (mask elevated : Nat) (s : State) :
    takeSetAttention mask elevated s =
      if 512 ≤ mask then refuse s .badValue 1
      else if elevated ≠ 0 ∧ (9 < elevated ∨ mask.testBit (elevated - 1) = false) then refuse s .badValue 2
      else
        (maskReplaced mask elevated s,
          taken [ u 2 mask, u 1 elevated,
            u 1 (bit (asksOnMask (setMask s (BitVec.ofNat 9 mask) (CondClass.ofNumber? elevated)).summary)) ]) := by
  rw [takeSetAttention, elevatedOf?_ofNat]
  refine if_congr Iff.rfl rfl ?_
  by_cases bad : elevated ≠ 0 ∧ (9 < elevated ∨ mask.testBit (elevated - 1) = false)
  · rw [if_pos bad, if_pos bad]
  · rw [if_neg bad, if_neg bad]
    rfl

theorem apart_maskReplaced (mask elevated : Nat) (s : State) :
    apart (maskReplaced mask elevated s) = apart (setMask s (BitVec.ofNat 9 mask) (CondClass.ofNumber? elevated)) := by
  unfold maskReplaced
  dsimp only
  split <;> simp

theorem maskReplaced_link (mask elevated : Nat) (s : State) :
    (maskReplaced mask elevated s).link.framer = s.link.framer
      ∧ (maskReplaced mask elevated s).link.queue = s.link.queue
      ∧ (maskReplaced mask elevated s).link.replies = s.link.replies
      ∧ (maskReplaced mask elevated s).link.rate = s.link.rate := by
  unfold maskReplaced
  dsimp only
  split <;> exact ⟨rfl, rfl, rfl, rfl⟩

/-- A frame asked for by SET_ATTENTION is still outstanding at the command's end: it names a class. -/
theorem setAttention_outstanding {s t : State} {tag mask elevated : Nat} {rest : Answer} (h : Ready s)
    (eq : takeSetAttention mask elevated (enqueue s 0x41 tag) = (maskReplaced mask elevated (enqueue s 0x41 tag), rest))
    (asks : asksOnMask (setMask s (BitVec.ofNat 9 mask) (CondClass.ofNumber? elevated)).summary = true)
    (hx : exec (.setAttention tag mask elevated) s = .next t) : t.summary.outstanding = true := by
  obtain rfl := Host.Outcome.next.inj hx
  have asked : maskReplaced mask elevated (enqueue s 0x41 tag) = askAttention _ := if_pos asks
  rw [arrive_ready h, eq, asked]
  exact transmit_outstanding_eq_true rfl (Bool.and_eq_true_iff.mp asks).2

/-- Settles O54: the table read off, a report as one write, STATUS item by item, and SET_ATTENTION by its checks. -/
theorem attentionRaised : Obligations.AttentionRaised := by
  refine ⟨?_, fun s k => ?_, fun s => ?_, fun tag s h => ⟨⟨?_, fun t hx => ?_⟩, fun mask elevated => ?_⟩⟩
  · intro row
    have same (k : Condition) : row k k.cls k.detail k.arg := ⟨rfl, rfl, rfl⟩
    refine ⟨rfl, same _, same _, fun _ => same _, fun _ => ⟨same _, same _⟩, fun _ => same _,
      fun _ => ⟨same _, same _, same _⟩, fun bank => ?_, same _, same _, same _, same _, same _, fun _ => same _,
      fun _ => ⟨same _, same _⟩, fun _ => same _, same _, same _, same _, fun _ => same _, fun _ => same _,
      fun line edge => ?_, fun _ => ⟨same _, same _, same _⟩⟩
    · cases bank <;> exact ⟨same _, same _⟩
    · cases line <;> cases edge <;> exact same _
  · exact latch_eq s k
  · rw [statusItems, latchedCount_eq, statusRecords_eq, elevated_code_eq]
    rfl
  · exact takes_of_take h rfl rfl rfl ⟨rfl, rfl, rfl, rfl⟩
  · obtain rfl := Host.Outcome.next.inj hx
    rw [arrive_ready h]
    exact transmit_outstanding_eq_false rfl
  · refine ite_refuses h rfl (takeSetAttention_eq mask elevated (enqueue s 0x41 tag)) fun eq => ?_
    refine ite_refuses h rfl eq fun eq => ?_
    have asksIff := asksOnMask_setMask s mask (CondClass.ofNumber? elevated)
    refine ⟨_, asksIff, takes_of_take h rfl (congrArg Prod.snd eq) ?_ ?_, fun asks t hx => ?_⟩
    · rw [eq, apart_maskReplaced]
      rfl
    · rw [eq]
      exact maskReplaced_link mask elevated _
    · exact setAttention_outstanding h eq (asksIff.mpr asks) hx

end Sys2Proof.Machine
end

-- ==== Proofs: the aging count of the waiting chunk ====
section
/-! The blocks' operations leave the aging count of the waiting chunk: the transmitter alone takes a chunk, and the
end of a frame alone ages it (R165, R166). -/

namespace Sys2Proof.Machine

open Sys2Proof.Config

section

variable (s : State)

/-! ## Reports and entries (R42, R153, R154) -/

@[simp] theorem askAttention_chunkAge : (askAttention s).link.chunkAge = s.link.chunkAge := rfl

@[simp] theorem latch_chunkAge (k : Condition) : (latch s k).link.chunkAge = s.link.chunkAge := by
  unfold latch; (repeat' split) <;> simp

@[simp] theorem latchLow_chunkAge : (latchLow s).link.chunkAge = s.link.chunkAge := by
  unfold latchLow; (repeat' split) <;> simp

@[simp] theorem loseEntry_chunkAge (code : Nat) : (loseEntry s code).link.chunkAge = s.link.chunkAge := by
  simp [loseEntry]

@[simp] theorem appendIncident_chunkAge (kind : IncidentKind) (detail second : Nat) :
    (appendIncident s kind detail second).link.chunkAge = s.link.chunkAge := by
  unfold appendIncident; (repeat' split) <;> simp

/-! ## Doses and the aiming light (R88, R107 to R119) -/

@[simp] theorem logDoseLimit_chunkAge (cause named : Nat) :
    (logDoseLimit s cause named).link.chunkAge = s.link.chunkAge := by
  unfold logDoseLimit; (repeat' split) <;> simp

@[simp] theorem doseRefused_chunkAge (named : Nat) : (doseRefused s named).link.chunkAge = s.link.chunkAge := by
  simp [doseRefused]

@[simp] theorem warnOne_chunkAge (level before after named : Nat) :
    (warnOne s level before after named).link.chunkAge = s.link.chunkAge := by
  unfold warnOne; (repeat' split) <;> simp

@[simp] theorem charge_chunkAge (faces dose : Sides Nat) (own : Option Side) :
    (charge s faces dose own).link.chunkAge = s.link.chunkAge := by
  unfold charge; (repeat' split) <;> simp

@[simp] theorem aimCut_chunkAge (named : Nat) : (aimCut s named).link.chunkAge = s.link.chunkAge := by
  simp [aimCut]

@[simp] theorem aimStart_chunkAge : (aimStart s).link.chunkAge = s.link.chunkAge := by
  unfold aimStart; dsimp only; (repeat' split) <;> simp

@[simp] theorem aimRetest_chunkAge : (aimRetest s).link.chunkAge = s.link.chunkAge := by
  unfold aimRetest; (repeat' split) <;> simp

/-! ## The lamps and the arbiter (R83, R93 to R101) -/

@[simp] theorem supplyReady_chunkAge : (supplyReady s).link.chunkAge = s.link.chunkAge := by
  simp [supplyReady]

@[simp] theorem supplyOn_chunkAge : (supplyOn s).link.chunkAge = s.link.chunkAge := by
  unfold supplyOn; (repeat' split) <;> simp

@[simp] theorem finishCheck_chunkAge (c : Check) (outcome : CheckOutcome) :
    (finishCheck s c outcome).link.chunkAge = s.link.chunkAge := by
  unfold finishCheck; (repeat' split) <;> simp

@[simp] theorem grantCheck_chunkAge (c : Check) : (grantCheck s c).link.chunkAge = s.link.chunkAge := by
  unfold grantCheck; dsimp only; (repeat' split) <;> simp

@[simp] theorem grantNext_chunkAge : (grantNext s).link.chunkAge = s.link.chunkAge := by
  unfold grantNext; dsimp only; (repeat' split) <;> simp

@[simp] theorem releaseLighting_chunkAge : (releaseLighting s).link.chunkAge = s.link.chunkAge := by
  simp [releaseLighting]

@[simp] theorem withdrawLighting_chunkAge : (withdrawLighting s).link.chunkAge = s.link.chunkAge := by
  unfold withdrawLighting; (repeat' split) <;> simp

@[simp] theorem serveCounter_chunkAge : (serveCounter s).link.chunkAge = s.link.chunkAge := by
  unfold serveCounter; dsimp only; (repeat' split) <;> simp

@[simp] theorem endCheck_chunkAge (c : Check) (outcome : CheckOutcome) :
    (endCheck s c outcome).link.chunkAge = s.link.chunkAge := by
  simp [endCheck]

/-! ## The press and the end of a capture (R71, R72, R124 to R129) -/

@[simp] theorem logPlaten_chunkAge (side : Side) : (logPlaten s side).link.chunkAge = s.link.chunkAge := by
  unfold logPlaten; (repeat' split) <;> simp

@[simp] theorem computeTargets_chunkAge (n : Nat) : (computeTargets s n).link.chunkAge = s.link.chunkAge := by
  unfold computeTargets; (repeat' split) <;> simp

@[simp] theorem glassFault_chunkAge (fault : GlassFault) : (glassFault s fault).link.chunkAge = s.link.chunkAge := by
  simp [glassFault]

@[simp] theorem captureEndArming_chunkAge (outcome : CaptureOutcome) :
    (captureEndArming s outcome).link.chunkAge = s.link.chunkAge := by
  simp [captureEndArming]

@[simp] theorem pressFailed_chunkAge : (pressFailed s).link.chunkAge = s.link.chunkAge := by
  unfold pressFailed; (repeat' split) <;> simp

@[simp] theorem startLowering_chunkAge : (startLowering s).link.chunkAge = s.link.chunkAge := by
  unfold startLowering; (repeat' split) <;> simp

@[simp] theorem heldPressGo_chunkAge : (heldPressGo s).link.chunkAge = s.link.chunkAge := by
  unfold heldPressGo; (repeat' split) <;> simp

@[simp] theorem mechPump_chunkAge : (mechPump s).link.chunkAge = s.link.chunkAge := by
  simp [mechPump]

@[simp] theorem finishVoid_chunkAge (outcome : CaptureOutcome) :
    (finishVoid s outcome).link.chunkAge = s.link.chunkAge := by
  simp [finishVoid]

@[simp] theorem voidExposing_chunkAge (outcome : CaptureOutcome) :
    (voidExposing s outcome).link.chunkAge = s.link.chunkAge := by
  simp [voidExposing]

@[simp] theorem voidOrder_chunkAge : (voidOrder s).link.chunkAge = s.link.chunkAge := by
  unfold voidOrder; (repeat' split) <;> simp

@[simp] theorem pressLost_chunkAge : (pressLost s).link.chunkAge = s.link.chunkAge := by
  unfold pressLost; (repeat' split) <;> simp

@[simp] theorem releaseDecision_chunkAge : (releaseDecision s).link.chunkAge = s.link.chunkAge := by
  unfold releaseDecision; (repeat' split) <;> simp

@[simp] theorem exposureComplete_chunkAge : (exposureComplete s).link.chunkAge = s.link.chunkAge := by
  unfold exposureComplete; dsimp only; (repeat' split) <;> simp

@[simp] theorem exposurePump_chunkAge : (exposurePump s).link.chunkAge = s.link.chunkAge := by
  unfold exposurePump; (repeat' split) <;> simp

/-! ## Visits and the turner (R15 to R17, R44 to R62) -/

@[simp] theorem captureChange_chunkAge : (captureChange s).link.chunkAge = s.link.chunkAge := by
  unfold captureChange; (repeat' split) <;> simp

@[simp] theorem endVisit_chunkAge : (endVisit s).link.chunkAge = s.link.chunkAge := by
  simp [endVisit]

@[simp] theorem visitStart_chunkAge (n : Nat) : (visitStart s n).link.chunkAge = s.link.chunkAge := by
  simp [visitStart]

@[simp] theorem leavePlaced_chunkAge : (leavePlaced s).link.chunkAge = s.link.chunkAge := by
  simp [leavePlaced]

@[simp] theorem enterUncertain_chunkAge (why : Condition) : (enterUncertain s why).link.chunkAge = s.link.chunkAge := by
  unfold enterUncertain; (repeat' split) <;> simp

@[simp] theorem turnCompleted_chunkAge : (turnCompleted s).link.chunkAge = s.link.chunkAge := by
  unfold turnCompleted; (repeat' split) <;> simp

@[simp] theorem endReturn_chunkAge : (endReturn s).link.chunkAge = s.link.chunkAge := by
  unfold endReturn; (repeat' split) <;> simp

@[simp] theorem enterReturn_chunkAge (purpose : Purpose) : (enterReturn s purpose).link.chunkAge = s.link.chunkAge := by
  unfold enterReturn; dsimp only; (repeat' split) <;> simp

@[simp] theorem layPump_chunkAge : (layPump s).link.chunkAge = s.link.chunkAge := by
  unfold layPump; (repeat' split) <;> simp

@[simp] theorem attemptEnds_chunkAge (kind : IncidentKind) (second : Nat) :
    (attemptEnds s kind second).link.chunkAge = s.link.chunkAge := by
  unfold attemptEnds; dsimp only; (repeat' split) <;> simp

@[simp] theorem restoreEnds_chunkAge : (restoreEnds s).link.chunkAge = s.link.chunkAge := by
  simp [restoreEnds]

@[simp] theorem turnerRaised_chunkAge : (turnerRaised s).link.chunkAge = s.link.chunkAge := by
  unfold turnerRaised; (repeat' split) <;> simp

@[simp] theorem turnerRaiseFailed_chunkAge : (turnerRaiseFailed s).link.chunkAge = s.link.chunkAge := by
  unfold turnerRaiseFailed; (repeat' split) <;> simp

@[simp] theorem turnerAsksRaise_chunkAge (w : RaiseWaiter) : (turnerAsksRaise s w).link.chunkAge = s.link.chunkAge := by
  unfold turnerAsksRaise; (repeat' split) <;> simp

@[simp] theorem glassReached_chunkAge : (glassReached s).link.chunkAge = s.link.chunkAge := by
  unfold glassReached; (repeat' split) <;> simp

@[simp] theorem raiseTimedOut_chunkAge : (raiseTimedOut s).link.chunkAge = s.link.chunkAge := by
  unfold raiseTimedOut; dsimp only; (repeat' split) <;> simp

@[simp] theorem lowerTimedOut_chunkAge : (lowerTimedOut s).link.chunkAge = s.link.chunkAge := by
  simp [lowerTimedOut]

@[simp] theorem manualCompletes_chunkAge : (manualCompletes s).link.chunkAge = s.link.chunkAge := by
  unfold manualCompletes; dsimp only; (repeat' split) <;> simp

@[simp] theorem turnTimedOut_chunkAge : (turnTimedOut s).link.chunkAge = s.link.chunkAge := by
  unfold turnTimedOut; (repeat' split) <;> simp

/-! ## Requests and events -/

@[simp] theorem extendVolume_chunkAge (leaves count : Nat) :
    (extendVolume s leaves count).link.chunkAge = s.link.chunkAge := by
  unfold extendVolume; dsimp only; (repeat' split) <;> simp

@[simp] theorem closeVolume_chunkAge (slot : SlotId) (v : Volume) :
    (closeVolume s slot v).link.chunkAge = s.link.chunkAge := by
  unfold closeVolume; dsimp only; (repeat' split) <;> simp

@[simp] theorem placeAt_chunkAge (n : Nat) : (placeAt s n).link.chunkAge = s.link.chunkAge := by
  unfold placeAt logReseat; dsimp only; (repeat' split) <;> simp

@[simp] theorem startTurn_chunkAge (v : Volume) (d : Direction) (manualFlag : Bool) :
    (startTurn s v d manualFlag).1.link.chunkAge = s.link.chunkAge := by
  unfold startTurn; (repeat' split) <;> simp

@[simp] theorem turnArrives_chunkAge (direction flags : Nat) :
    (turnArrives direction flags s).1.link.chunkAge = s.link.chunkAge := by
  unfold turnArrives; dsimp only; (repeat' split) <;> simp

@[simp] theorem overforce_chunkAge (force : Nat) : (overforce s force).link.chunkAge = s.link.chunkAge := by
  unfold overforce; dsimp only; (repeat' split) <;> simp

@[simp] theorem readForce_chunkAge (force : Nat) (p : PressTarget) :
    (readForce s force p).link.chunkAge = s.link.chunkAge := by
  unfold readForce; (repeat' split) <;> simp

@[simp] theorem lightingReady_chunkAge : (lightingReady s).link.chunkAge = s.link.chunkAge := by
  unfold lightingReady enterExposing appendCapture; (repeat' split) <;> simp

@[simp] theorem pulseStart_chunkAge (c : Check) (b : Bank) : (pulseStart s c b).link.chunkAge = s.link.chunkAge := by
  unfold pulseStart chargePulse; dsimp only; (repeat' split) <;> simp

@[simp] theorem pulseEnd_chunkAge (c : Check) (b : Bank) (rest : List Bank) (r : Nat) :
    (pulseEnd s c b rest r).link.chunkAge = s.link.chunkAge := by
  unfold pulseEnd checkGoesOn verdictReport; dsimp only; (repeat' split) <;> simp

@[simp] theorem startCapture_chunkAge (v : Volume) (n : Nat) (sides : CaptureSides) (manual : Bool) :
    (startCapture s v n sides manual).1.link.chunkAge = s.link.chunkAge := by
  unfold startCapture pressRequest; dsimp only; (repeat' split) <;> simp

@[simp] theorem captureArrives_chunkAge (code : Nat) (manual : Bool) :
    (captureArrives code manual s).1.link.chunkAge = s.link.chunkAge := by
  unfold captureArrives; dsimp only; (repeat' split) <;> simp

@[simp] theorem startStrobe_chunkAge (side : Side) : (startStrobe s side).link.chunkAge = s.link.chunkAge := by
  unfold startStrobe chargeStrobe; dsimp only; (repeat' split) <;> simp

@[simp] theorem takeRise_chunkAge (side : Side) : (takeRise s side).link.chunkAge = s.link.chunkAge := by
  unfold takeRise; (repeat' split) <;> simp

@[simp] theorem strayFrame_chunkAge (side : Side) : (strayFrame s side).link.chunkAge = s.link.chunkAge := by
  simp [strayFrame]

@[simp] theorem cameraExpires_chunkAge (side : Side) : (cameraExpires s side).link.chunkAge = s.link.chunkAge := by
  simp [cameraExpires]

@[simp] theorem takeFall_chunkAge (side : Side) : (takeFall s side).link.chunkAge = s.link.chunkAge := by
  unfold takeFall; (repeat' split) <;> simp

/-! ## Stops, the pedal and RESUME -/

@[simp] theorem breakPause_chunkAge (cause : PauseCause) (phase : Nat) :
    (breakPause s cause phase).link.chunkAge = s.link.chunkAge := by
  unfold breakPause; (repeat' split) <;> simp

@[simp] theorem stopTaken_chunkAge (cause : PauseCause) : (stopTaken s cause).link.chunkAge = s.link.chunkAge := by
  unfold stopTaken; dsimp only; (repeat' split) <;> simp

@[simp] theorem hoodEndsCheck_chunkAge : (hoodEndsCheck s).link.chunkAge = s.link.chunkAge := by
  unfold hoodEndsCheck; dsimp only; (repeat' split) <;> simp

@[simp] theorem judgeHood_chunkAge : (judgeHood s).link.chunkAge = s.link.chunkAge := by
  unfold judgeHood; dsimp only; (repeat' split) <;> simp

@[simp] theorem pedalPress_chunkAge : (pedalPress s).link.chunkAge = s.link.chunkAge := by
  unfold pedalPress pedalCaptures; dsimp only; (repeat' split) <;> simp

@[simp] theorem resumeTaken_chunkAge : (resumeTaken s).link.chunkAge = s.link.chunkAge := by
  unfold resumeTaken deferredResult startDeferred; (repeat' split) <;> simp

@[simp] theorem edgeActs_chunkAge (line : AuxLine) (edge : EdgeKind) :
    (edgeActs s line edge).link.chunkAge = s.link.chunkAge := by
  unfold edgeActs signalEdge; dsimp only; (repeat' split) <;> simp

end

end Sys2Proof.Machine
end

-- ==== Proofs: the link's law ====
section
/-! StepsKeepTheLink: the law as one of the queue with the reply list and one of the aging count, what each part of the
Link Port makes of them, and every command. -/

namespace Sys2Proof.Machine

open Sys2Proof.Config

/-! ## The law in parts (R163, R165) -/

/-- The aging count of a waiting chunk is at most 4. -/
def AgeBounded (age : Option Nat) : Prop := ∀ a, age = some a → a ≤ 4

/-- The request queue and the reply list agree, and both keep their bounds. -/
def QueuesSound (queue : List Queued) (replies : List Reply) : Prop :=
  queue = replies.filterMap Reply.request? ∧ queue.length ≤ queueDepth
    ∧ replies.countP Reply.queueFull ≤ queueDepth

theorem waitingRefusals_eq (l : Link) : waitingRefusals l = l.replies.countP Reply.queueFull :=
  List.countP_eq_length_filter.symm

/-- LinkSound (R163, R165), part by part: it reads the queue, the replies and the aging count alone. -/
theorem linkSound_iff {l : Link} : LinkSound l ↔ QueuesSound l.queue l.replies ∧ AgeBounded l.chunkAge := by
  simp only [LinkSound, QueuesSound, AgeBounded, waitingRefusals_eq, and_assoc]

theorem ageBounded_none : AgeBounded none := nofun

/-- Another frame sent whole ages the waiting chunk up to 4 (R165). -/
theorem ageBounded_aged (age : Option Nat) : AgeBounded (age.map fun a => min 4 (a + 1)) := by
  intro a h
  obtain ⟨b, -, rfl⟩ := Option.map_eq_some_iff.mp h
  exact Nat.min_le_left _ _

theorem queuesSound_nil : QueuesSound [] [] := ⟨rfl, Nat.zero_le _, Nat.zero_le _⟩

/-- A queued request and its reply join their lists together. -/
theorem QueuesSound.answered {queue : List Queued} {replies : List Reply} (h : QueuesSound queue replies)
    (room : queue.length < queueDepth) (kind tag : Nat) (a : Answer) :
    QueuesSound (queue ++ [{ kind := kind, tag := tag }])
      (replies ++ [{ kind := kind, tag := tag, answer := a, queueFull := false }]) := by
  obtain ⟨agree, -, refusals⟩ := h
  refine ⟨?_, ?_, ?_⟩
  · rw [List.filterMap_append, ← agree]; rfl
  · simpa using room
  · simpa using refusals

/-- A QUEUE_FULL refusal joins the reply list alone. -/
theorem QueuesSound.refused {queue : List Queued} {replies : List Reply} (h : QueuesSound queue replies)
    (room : replies.countP Reply.queueFull < queueDepth) (kind tag : Nat) (a : Answer) :
    QueuesSound queue (replies ++ [{ kind := kind, tag := tag, answer := a, queueFull := true }]) := by
  obtain ⟨agree, depth, -⟩ := h
  refine ⟨?_, depth, ?_⟩
  · rw [List.filterMap_append, ← agree]; exact (List.append_nil _).symm
  · simpa using room

/-- A reply that leaves its list takes its request, if it has one there, from the head of the queue. -/
theorem QueuesSound.left {queue : List Queued} {r : Reply} {rest : List Reply} (h : QueuesSound queue (r :: rest)) :
    QueuesSound (if r.queueFull then queue else queue.tail) rest := by
  obtain ⟨agree, depth, refusals⟩ := h
  have fewer : rest.countP Reply.queueFull ≤ queueDepth := by
    rw [List.countP_cons] at refusals; omega
  cases full : r.queueFull with
  | true => exact ⟨by simpa [Reply.request?, full] using agree, depth, fewer⟩
  | false =>
    have head : queue = { kind := r.kind, tag := r.tag } :: rest.filterMap Reply.request? := by
      simpa [Reply.request?, full] using agree
    subst head
    exact ⟨rfl, Nat.le_of_succ_le depth, fewer⟩

/-! ## The transmitter and restarts -/

theorem sendChunk_chunkAge (s : State) : (sendChunk s).link.chunkAge = none := by
  unfold sendChunk; split <;> rfl

@[simp] theorem sendReply_chunkAge (s : State) : (sendReply s).link.chunkAge = s.link.chunkAge := by
  unfold sendReply; split <;> rfl

theorem sendReplyOrChunk_chunkAge (s : State) :
    (sendReplyOrChunk s).link.chunkAge = s.link.chunkAge ∨ (sendReplyOrChunk s).link.chunkAge = none := by
  unfold sendReplyOrChunk; (repeat' split) <;> simp [sendChunk_chunkAge]

/-- The transmitter leaves the waiting chunk or takes it (R165). -/
theorem transmit_chunkAge (s : State) :
    (transmit s).link.chunkAge = s.link.chunkAge ∨ (transmit s).link.chunkAge = none := by
  unfold transmit sendAttention
  dsimp only
  (repeat' split) <;> simp [sendChunk_chunkAge, sendReplyOrChunk_chunkAge]

/-- Whatever the transmitter chooses, no chunk waits longer for it. -/
theorem transmit_ageBounded {s : State} (h : AgeBounded s.link.chunkAge) : AgeBounded (transmit s).link.chunkAge := by
  rcases transmit_chunkAge s with e | e <;> rw [e]
  exacts [h, ageBounded_none]

theorem transmit_linkSound {s : State} (h : LinkSound s.link) : LinkSound (transmit s).link := by
  obtain ⟨queues, age⟩ := linkSound_iff.mp h
  exact linkSound_iff.mpr ⟨by simpa using queues, transmit_ageBounded age⟩

/-- A restart leaves the queues empty and no chunk waiting (R169). -/
theorem restart_linkSound (s : State) (cause : RestartCause) (rate : Nat) :
    LinkSound (restart s cause rate).link := by
  refine linkSound_iff.mpr ⟨by simpa using queuesSound_nil, transmit_ageBounded ?_⟩
  unfold restartHalt restartVolume
  (repeat' split) <;> simp [blocksRestarted, Link.restarted, ageBounded_none]

/-! ## Requests -/

/-- The block that owns a request leaves the Link Port's receive side, its queues and its rate (R163). -/
theorem take_link {i : Instr} {take : State → State × Answer} (hi : i.take? = some take) (s : State) :
    (take s).1.link.framer = s.link.framer ∧ (take s).1.link.queue = s.link.queue
      ∧ (take s).1.link.replies = s.link.replies ∧ (take s).1.link.rate = s.link.rate := by
  unfold Instr.take? at hi
  split at hi <;> cases hi <;> simp

theorem take_chunkAge {i : Instr} {take : State → State × Answer} (hi : i.take? = some take) (s : State) :
    (take s).1.link.chunkAge = s.link.chunkAge := by
  unfold Instr.take? at hi
  split at hi <;> cases hi
  case h_2 => unfold takeExtendVolume; dsimp only; (repeat' split) <;> simp
  case h_3 => unfold takeCloseVolume; (repeat' split) <;> simp
  case h_11 => unfold takePlace; (repeat' split) <;> simp
  case h_13 => simp [takeTurn]
  case h_14 => unfold takePark; (repeat' split) <;> simp
  case h_15 => unfold takeManualDone; (repeat' split) <;> simp
  case h_21 => unfold takeSetAngle; (repeat' split) <;> simp
  case h_23 => unfold takeLampsOn; (repeat' split) <;> simp
  case h_24 => unfold takeLampsOff; (repeat' split) <;> simp
  case h_25 => unfold takeSetLighting; (repeat' split) <;> simp
  case h_26 => unfold takeSetAiming; (repeat' split) <;> simp
  case h_27 => unfold takeSetIdle; (repeat' split) <;> simp
  case h_28 => unfold takeReferenceCheck; dsimp only; (repeat' split) <;> simp
  case h_31 => simp [takeCapture]
  case h_32 => unfold takeFrameReceived takeReceipt; dsimp only; (repeat' split) <;> simp
  case h_37 => unfold takeResume; (repeat' split) <;> simp
  case h_38 => unfold takeSetAux; (repeat' split) <;> simp
  case h_41 => unfold takeSetAttention; dsimp only; (repeat' split) <;> simp
  case h_43 => rfl
  all_goals simp

/-- What a block must show for the arrival of its request to keep the law: it leaves the queues and the chunk. -/
def LeavesQueues (take : State → State × Answer) : Prop :=
  ∀ s, (take s).1.link.queue = s.link.queue ∧ (take s).1.link.replies = s.link.replies
    ∧ (take s).1.link.chunkAge = s.link.chunkAge

theorem leavesQueues_of_take {i : Instr} {take : State → State × Answer} (hi : i.take? = some take) :
    LeavesQueues take := by
  intro s
  obtain ⟨-, queue, replies, -⟩ := take_link hi s
  exact ⟨queue, replies, take_chunkAge hi s⟩

theorem leavesQueues_takeFrame (kind : Nat) (p : List Byte) : LeavesQueues (takeFrame kind p) := by
  intro s
  rcases takeFrame_cases kind p s with ⟨i, take, hi, e⟩ | ⟨reason, e⟩ <;> rw [e]
  exacts [leavesQueues_of_take hi s, ⟨rfl, rfl, rfl⟩]

/-- The arrival of a request: it is discarded, answered or refused QUEUE_FULL, and the transmitter moves on (R163). -/
theorem arrive_linkSound {s : State} (h : LinkSound s.link) (kind tag : Nat) {take : State → State × Answer}
    (leaves : LeavesQueues take) : LinkSound (arrive s kind tag take).link := by
  obtain ⟨queues, age⟩ := linkSound_iff.mp h
  obtain ⟨queue, replies, chunk⟩ := leaves (enqueue s kind tag)
  unfold arrive
  dsimp only
  split
  · exact h
  · split
    · next room =>
      refine transmit_linkSound (linkSound_iff.mpr ⟨?_, ?_⟩)
      · simpa [queue, replies] using queues.answered room kind tag _
      · exact chunk ▸ age
    · split
      · next room =>
        have refused := queues.refused (waitingRefusals_eq _ ▸ room) kind tag (.refused .queueFull 0)
        exact transmit_linkSound (linkSound_iff.mpr ⟨refused, age⟩)
      · exact h

/-! ## Events -/

/-- A receive error moves the framer, the latches and the transmitter alone (R162). -/
theorem receiveError_linkSound {s : State} (h : LinkSound s.link) (why : Condition) :
    LinkSound (receiveError s why).link := by
  obtain ⟨queues, age⟩ := linkSound_iff.mp h
  exact transmit_linkSound (linkSound_iff.mpr ⟨by simpa using queues, by rw [latch_chunkAge]; exact age⟩)

/-- The events leave the queues, and the waiting chunk but for the transmitter's choice. -/
theorem event_linkSound {i : Instr} {s t : State} (hi : i.take? = none) (hclear : ∀ run, i ≠ .clearStore run)
    (hbyte : ∀ b, i ≠ .byteReceived b) (hsent : i ≠ .frameSent) (hx : exec i s = .next t)
    (h : LinkSound s.link) : LinkSound t.link := by
  obtain ⟨queues, age⟩ := linkSound_iff.mp h
  cases i
  case clearStore run => exact absurd rfl (hclear run)
  case byteReceived b => exact absurd rfl (hbyte b)
  case frameSent => exact absurd rfl hsent
  case powerOn | resetLine =>
    obtain rfl := Host.Outcome.next.inj hx
    exact restart_linkSound _ _ _
  case gap =>
    obtain rfl := Host.Outcome.next.inj hx
    split
    exacts [h, receiveError_linkSound h _]
  case auxLevelChange | auxEdge | homeSensor | farEndSensor | holdSensor | cupEmptySensor
      | separationTime | restoreDescentEnd | restoreReleaseWait | liftTimeout | turnTimeout | platenSettled
      | angleSettled | glassForceReading | raisedStopSensor | glassMoveTimeout | supplySettled | idleStageExpiry
      | lightingGrant | lightingReady | referencePulseStart | referencePulseEnd | aimingInterval | exposureActiveRise
      | strobeDelayExpiry | strobeEnd | exposureActiveFall | cameraTimeout | volumeClockTick =>
    obtain rfl := Host.Outcome.next.inj hx
    refine linkSound_iff.mpr ⟨by (repeat' split) <;> simp [queues], ?_⟩
    (repeat' split) <;> simp [age, transmit_ageBounded]
  all_goals exact absurd hi nofun

/-! ## The Link Port's part of a command -/

theorem receive_linkSound {s : State} (h : LinkSound s.link) (b : Byte) : LinkSound (receive s b).link := by
  have moved (f : Framer) : LinkSound (setFramer s f).link := h
  unfold receive
  split
  case h_1 => split; exacts [moved _, h]
  case h_3 => split; exacts [receiveError_linkSound h _, moved _]
  case h_6 => split <;> exact moved _
  case h_8 => -- the last check byte
    unfold frameReceived
    split
    · exact arrive_linkSound (moved _) _ _ (leavesQueues_takeFrame _ _)
    · exact receiveError_linkSound h _
  all_goals exact moved _

/-- The end of a frame on the line: the reply and its request leave together, and the waiting chunk ages (R163,
R165). -/
theorem frameSent_linkSound {s t : State} (h : LinkSound s.link) (hx : exec .frameSent s = .next t) :
    LinkSound t.link := by
  obtain ⟨queues, -⟩ := linkSound_iff.mp h
  have aged : LinkSound (otherSent s.link) := linkSound_iff.mpr ⟨queues, ageBounded_aged _⟩
  obtain rfl := Host.Outcome.next.inj hx
  split
  · exact h
  · split
    · split
      · next r rest e =>
        have left : QueuesSound (replyLeaves s r rest).link.queue (replyLeaves s r rest).link.replies :=
          QueuesSound.left (e ▸ queues)
        unfold replySent
        dsimp only
        split
        · exact restart_linkSound _ _ _
        · split
          · exact transmit_linkSound (linkSound_iff.mpr ⟨left, by rintro a ⟨⟩; omega⟩)
          · exact transmit_linkSound (linkSound_iff.mpr ⟨left, ageBounded_aged _⟩)
      · exact transmit_linkSound aged
    · exact transmit_linkSound aged
    · unfold chunkSent
      dsimp only
      split
      · exact transmit_linkSound h
      · split
        · exact transmit_linkSound (by simp only [endStream_frame]; exact h)
        · exact transmit_linkSound (linkSound_iff.mpr ⟨queues, by rintro a ⟨⟩; omega⟩)

theorem exec_linkSound {i : Instr} {s t : State} (h : LinkSound s.link) (hx : exec i s = .next t) :
    LinkSound t.link := by
  rcases hi : i.take? with _ | take
  · obtain rfl | hsent := eq_or_ne i .frameSent
    · exact frameSent_linkSound h hx
    obtain ⟨b, rfl⟩ | hbyte := em (∃ b, i = .byteReceived b)
    · obtain rfl := Host.Outcome.next.inj hx
      exact receive_linkSound h b
    obtain ⟨run, rfl⟩ | hclear := em (∃ run, i = .clearStore run)
    · obtain rfl := Host.Outcome.next.inj hx
      split
      · exact arrive_linkSound h _ _ (leavesQueues_of_take (i := .clearStore ⟨0, none⟩) rfl)
      · split <;> exact restart_linkSound _ _ _
    exact event_linkSound hi (not_exists.mp hclear) (not_exists.mp hbyte) hsent hx h
  · obtain ⟨kind, tag, e⟩ := exec_of_take hi
    obtain rfl := Host.Outcome.next.inj ((e s).symm.trans hx)
    exact arrive_linkSound h kind tag (leavesQueues_of_take hi)

/-- Settles O59, by the inversion of every command: a request joins both lists or neither, the end of a reply takes it
from both, a restart empties them, and the waiting chunk only waits anew, ages up to 4 or is taken. -/
theorem stepsKeepTheLink : Obligations.StepsKeepTheLink := by
  intro s t h hx
  unfold step at hx
  split at hx
  · next rest _ => exact exec_linkSound (s := { s with pending := rest }) h hx
  · obtain rfl := Host.Outcome.next.inj hx
    exact h

end Sys2Proof.Machine
end

-- ==== Proofs: the receive framer ====
section
/-! FramerTakesBytes and the framer's way through a whole frame: one equation for each of the framer's moves, and the
bytes that its CRC covers. -/

namespace Sys2Proof.Machine

open Sys2Proof.Config

/-! ## Numbers as bytes (R170) -/

@[simp] theorem length_le (width v : Nat) : (le width v).length = width := by
  induction width generalizing v with
  | zero => rfl
  | succ width ih => simp [le, ih]

theorem ofLe_le {width v : Nat} (h : v < 256 ^ width) : ofLe (le width v) = v := by
  induction width generalizing v with
  | zero => simpa [le, ofLe, eq_comm] using h
  | succ width ih =>
    have high : v / 256 < 256 ^ width := Nat.div_lt_of_lt_mul (by rwa [pow_succ'] at h)
    simp only [le, ofLe, ih high, BitVec.toNat_ofNat]
    omega

/-! ## The CRC (R160) -/

theorem crcShift_eq (c : BitVec 16) :
    crcShift c = if c.getLsbD 15 = true then (c <<< 1) ^^^ 0x1021 else c <<< 1 := by
  rw [crcShift, BitVec.msb_eq_getLsbD_last]

theorem crc16_append (bs : List Byte) (b : Byte) : crc16 (bs ++ [b]) = crcByte (crc16 bs) b :=
  List.foldl_append

/-! ## The framer's moves (R161, R162) -/

section

variable {s : State}

@[simp] theorem setFramer_setFramer (f g : Framer) : setFramer (setFramer s f) g = setFramer s g := rfl

theorem setFramer_self {f : Framer} (h : s.link.framer = f) : setFramer s f = s := by
  subst h; rfl

theorem receive_hunt (h : s.link.framer = .hunt) (b : Byte) :
    receive s b = setFramer s (if b = 0xC3 then .length none else .hunt) := by
  simp only [receive, h]
  split
  exacts [rfl, (setFramer_self h).symm]

theorem receive_firstLength (h : s.link.framer = .length none) (b : Byte) :
    receive s b = setFramer s (.length (some b)) := by
  simp only [receive, h]

theorem receive_overlength {low : Byte} (h : s.link.framer = .length (some low)) {b : Byte}
    (long : maxPayload < ofLe [low, b]) : receive s b = receiveError s (.linkOverlength (ofLe [low, b])) := by
  simp only [receive, h, if_pos long]

theorem receive_length {low : Byte} (h : s.link.framer = .length (some low)) {b : Byte}
    (fits : ofLe [low, b] ≤ maxPayload) : receive s b = setFramer s (.header (ofLe [low, b]) none) := by
  simp only [receive, h, if_neg (Nat.not_lt.mpr fits)]

theorem receive_kind {n : Nat} (h : s.link.framer = .header n none) (b : Byte) :
    receive s b = setFramer s (.header n (some b)) := by
  simp only [receive, h]

theorem receive_tag {n : Nat} {kind : Byte} (h : s.link.framer = .header n (some kind)) (b : Byte) :
    receive s b = setFramer s (afterHeader n kind b) := by
  simp only [receive, h]

theorem receive_payload {n : Nat} {kind tag : Byte} {got : List Byte}
    (h : s.link.framer = .payload n kind tag got) (b : Byte) :
    receive s b =
      setFramer s (if got.length + 1 = n then .check n kind tag (got ++ [b]) none
        else .payload n kind tag (got ++ [b])) := by
  simp only [receive, h, List.length_append, List.length_singleton]
  split <;> rfl

theorem receive_firstCheck {n : Nat} {kind tag : Byte} {got : List Byte}
    (h : s.link.framer = .check n kind tag got none) (b : Byte) :
    receive s b = setFramer s (.check n kind tag got (some b)) := by
  simp only [receive, h]

section

variable {n : Nat} {kind tag low b : Byte} {got : List Byte}
  (h : s.link.framer = .check n kind tag got (some low))
include h

theorem receive_good (crc : ofLe [low, b] = (crc16 (receivedBody n kind tag got)).toNat) :
    receive s b = arrive (setFramer s .hunt) kind.toNat tag.toNat (takeFrame kind.toNat got) := by
  simp only [receive, h, frameReceived, if_pos crc]

theorem receive_badCrc (crc : ofLe [low, b] ≠ (crc16 (receivedBody n kind tag got)).toNat) :
    receive s b = receiveError s (.linkBadCrc n) := by
  simp only [receive, h, frameReceived, if_neg crc]

end

/-- A report does not read the framer. -/
theorem apart_latch_setFramer (s : State) (f : Framer) (k : Condition) :
    apart (latch (setFramer s f) k) = apart (latch s k) := by
  rw [latch_eq, latch_eq]
  simp only [setFramer_frame]
  split <;> rfl

/-- A receive error discards the frame in hand and latches its condition (R162). -/
theorem discards_of_receiveError {i : Instr} {k : Condition} (h : exec i s = .next (receiveError s k)) :
    Discards i s k := by
  refine ⟨_, h, ?_, ?_⟩
  · rw [receiveError, apart_transmit]
    exact apart_latch_setFramer s .hunt k
  · simp [receiveError]

theorem exec_gap_of_frame (h : s.link.framer ≠ .hunt) :
    exec .gap s = .next (receiveError s (.linkGap s.link.framer.shown)) :=
  congrArg _ (if_neg h)

end

/-- Settles O5, by the framer's moves one after another. -/
theorem framerTakesBytes : Obligations.FramerTakesBytes := by
  refine ⟨⟨rfl, fun bs b => ?_⟩, fun b s => ?_, fun b low s h long => ?_, fun b low kind tag n got s h crc => ?_,
    fun s => ?_⟩
  · simp only [← crcShift_eq]
    exact crc16_append bs b
  · split
    case h_1 h => exact congrArg _ (receive_hunt h b)
    case h_2 h => exact congrArg _ (receive_firstLength h b)
    case h_3 h => exact fun fits => congrArg _ (receive_length h fits)
    case h_4 h => exact congrArg _ (receive_kind h b)
    case h_5 h => exact congrArg _ (receive_tag h b)
    case h_6 h => exact congrArg _ (receive_payload h b)
    case h_7 h => exact congrArg _ (receive_firstCheck h b)
    case h_8 h => exact fun crc => congrArg _ (receive_good h crc)
  · exact discards_of_receiveError (congrArg _ (receive_overlength h long))
  · exact discards_of_receiveError (congrArg _ (receive_badCrc h crc))
  · split
    case h_1 h => exact congrArg _ (if_pos h)
    all_goals
      next h =>
        have cut := exec_gap_of_frame (s := s) (by rw [h]; exact nofun)
        rw [h] at cut
        exact discards_of_receiveError cut

end Sys2Proof.Machine
end

-- ==== Proofs: frames of requests ====
section
/-! RequestFramesReachTheirBlocks: the framer takes a whole frame from HUNT to the arrival of its request, and the
fields that a block reads from a payload are those that the encoder wrote. -/

namespace Sys2Proof.Machine

open Sys2Proof.Config

/-! ## The way of a frame through the framer (R160, R161) -/

theorem receiveAll_append (s : State) (bs cs : List Byte) :
    receiveAll s (bs ++ cs) = receiveAll (receiveAll s bs) cs := List.foldl_append

theorem receiveAll_le_two (s : State) (v : Nat) :
    receiveAll s (le 2 v) = receive (receive s (BitVec.ofNat 8 v)) (BitVec.ofNat 8 (v / 256)) := rfl

/-- The framer takes the rest of a payload. -/
theorem receiveAll_payload {n : Nat} {kind tag : Byte} {s : State} {got rest : List Byte}
    (h : s.link.framer = .payload n kind tag got) (some' : rest ≠ []) (length : got.length + rest.length = n) :
    receiveAll s rest = setFramer s (.check n kind tag (got ++ rest) none) := by
  induction rest generalizing s got with
  | nil => exact absurd rfl some'
  | cons b rest ih =>
    rw [List.length_cons] at length
    change receiveAll (receive s b) rest = _
    rw [receive_payload h]
    cases rest with
    | nil => rw [if_pos (by simpa using length)]; rfl
    | cons c rest =>
      rw [List.length_cons] at length
      rw [if_neg (by omega), ih rfl nofun (by simp; omega)]
      simp

/-- The framer takes a whole payload, which may be empty. -/
theorem receiveAll_afterHeader {kind tag : Byte} {s : State} {payload : List Byte}
    (h : s.link.framer = afterHeader payload.length kind tag) :
    receiveAll s payload = setFramer s (.check payload.length kind tag payload none) := by
  cases payload with
  | nil => exact (setFramer_self h).symm
  | cons b rest => exact receiveAll_payload h nofun (Nat.zero_add _)

/-- The framer takes the start byte, the length and the header of a frame. -/
theorem receiveAll_header {s : State} (h : s.link.framer = .hunt) {n : Nat} (short : n ≤ maxPayload)
    (kind tag : Byte) : receiveAll s (0xC3 :: (le 2 n ++ [kind, tag])) = setFramer s (afterHeader n kind tag) := by
  have length : ofLe [BitVec.ofNat 8 n, BitVec.ofNat 8 (n / 256)] = n :=
    ofLe_le (width := 2) (Nat.lt_of_le_of_lt short (by decide))
  have steps : receiveAll s (0xC3 :: (le 2 n ++ [kind, tag]))
      = receive (receive (receive (receive (receive s 0xC3) (BitVec.ofNat 8 n)) (BitVec.ofNat 8 (n / 256))) kind) tag :=
    rfl
  rw [steps, receive_hunt h, if_pos rfl, receive_firstLength (setFramer_framer ..),
    receive_length (setFramer_framer ..) (by rwa [length]), length, receive_kind (setFramer_framer ..),
    receive_tag (setFramer_framer ..)]
  rfl

/-- Decode and encode agree on a frame (R160, R161): its bytes are the arrival of its request. -/
theorem receiveAll_frameBytes {s : State} (h : s.link.framer = .hunt) {kind tag : Nat} (kindFits : kind < 256)
    (tagFits : tag < 256) {payload : List Byte} (short : payload.length ≤ maxPayload) :
    receiveAll s (frameBytes kind tag payload) = arrive s kind tag (takeFrame kind payload) := by
  have bytes : frameBytes kind tag payload
      = (0xC3 :: (le 2 payload.length ++ [BitVec.ofNat 8 kind, BitVec.ofNat 8 tag])) ++ payload
        ++ le 2 (crc16 (frameBody kind tag payload)).toNat := by
    simp [frameBytes, frameBody, le]
  have body : frameBody kind tag payload
      = receivedBody payload.length (BitVec.ofNat 8 kind) (BitVec.ofNat 8 tag) payload := rfl
  have crc (c : BitVec 16) : ofLe (le 2 c.toNat) = c.toNat := ofLe_le c.isLt
  rw [bytes, body, receiveAll_append, receiveAll_append, receiveAll_header h short,
    receiveAll_afterHeader (setFramer_framer ..), receiveAll_le_two, receive_firstCheck (setFramer_framer ..),
    receive_good (setFramer_framer ..) (crc _)]
  simp only [setFramer_setFramer, setFramer_self h, BitVec.toNat_ofNat, Nat.mod_eq_of_lt kindFits,
    Nat.mod_eq_of_lt tagFits]

/-! ## Fields read back (R170) -/

/-- A field that starts behind the first bytes is read from the rest. -/
theorem fieldAt_append {xs : List Byte} {offset : Nat} (h : xs.length ≤ offset) (ys : List Byte) (width : Nat) :
    fieldAt (xs ++ ys) offset width = fieldAt ys (offset - xs.length) width := by
  rw [fieldAt, List.drop_append, List.drop_eq_nil_of_le h, List.nil_append]
  rfl

theorem fieldAt_le_append {width v : Nat} (h : fits width v = true) (ys : List Byte) :
    fieldAt (le width v ++ ys) 0 width = v := by
  rw [fieldAt, List.drop_zero, List.take_left' (length_le width v), ofLe_le (of_decide_eq_true h)]

theorem fieldAt_le {width v : Nat} (h : fits width v = true) : fieldAt (le width v) 0 width = v := by
  simpa using fieldAt_le_append h []

/-- OPEN_VOLUME's payload, read back field by field (section 11.4). -/
theorem profileOfBytes_profileToBytes {p : RawProfile} (h : p.wf = true) :
    profileOfBytes (profileToBytes p) = p := by
  simp only [RawProfile.wf, Bool.and_eq_true, beq_iff_eq] at h
  have mark : padTo 40 p.shelfMark = p.shelfMark := by simp [padTo, h]
  simp [profileOfBytes, profileToBytes, mark, fieldAt_append, fieldAt_le_append, fieldAt_le, h]

/-! ## Requests as frames (R164, R172) -/

/-- A request command is the arrival of its parts. -/
theorem exec_of_requestParts {i : Instr} {kind tag : Nat} {payload : List Byte}
    (h : requestParts i = some (kind, tag, payload)) :
    ∃ take, i.take? = some take ∧ ∀ s, exec i s = .next (arrive s kind tag take) := by
  unfold requestParts at h
  split at h
  case h_6 run => -- CLEAR_STORE
    obtain ⟨tag, cut⟩ := run
    cases cut <;> cases h
    exact ⟨_, rfl, fun _ => rfl⟩
  all_goals cases h
  all_goals exact ⟨_, rfl, fun _ => rfl⟩

theorem takeKind_of_requestParts {i : Instr} (wf : i.wf = true) {kind tag : Nat} {payload : List Byte}
    (h : requestParts i = some (kind, tag, payload)) {take : State → State × Answer} (hi : i.take? = some take) :
    takeKind kind payload = take := by
  funext s
  unfold requestParts at h
  split at h
  case h_6 run => -- CLEAR_STORE
    obtain ⟨tag, cut⟩ := run
    cases cut <;> cases h
    cases hi
    rfl
  all_goals cases h
  all_goals
    simp only [Instr.wf, Bool.and_eq_true] at wf
    cases hi
    simp [takeKind, fieldAt_append, fieldAt_le_append, fieldAt_le, profileOfBytes_profileToBytes, wf]

/-- The payload of a well-formed request has the length of its kind (R172). -/
theorem requestLength?_of_requestParts {i : Instr} (wf : i.wf = true) {kind tag : Nat} {payload : List Byte}
    (h : requestParts i = some (kind, tag, payload)) : requestLength? kind = some payload.length := by
  unfold requestParts at h
  split at h
  case h_1 => -- OPEN_VOLUME
    cases h
    simp only [Instr.wf, RawProfile.wf, Bool.and_eq_true, beq_iff_eq] at wf
    simp [requestLength?, profileToBytes, padTo, wf]
  case h_6 run => -- CLEAR_STORE
    obtain ⟨tag, cut⟩ := run
    cases cut <;> cases h
    rfl
  all_goals
    cases h
  all_goals rfl

theorem tagFits_of_requestParts {i : Instr} (wf : i.wf = true) {kind tag : Nat} {payload : List Byte}
    (h : requestParts i = some (kind, tag, payload)) : tag < 256 := by
  suffices fits 1 tag = true from of_decide_eq_true this
  unfold requestParts at h
  split at h
  case h_6 run => -- CLEAR_STORE
    obtain ⟨tag, cut⟩ := run
    cases cut <;> cases h
    simpa [Instr.wf] using wf
  all_goals cases h
  all_goals
    simp only [Instr.wf, Bool.and_eq_true] at wf
    simp only [wf]

/-- Only one byte wide are the kinds of requests, and their payloads are short (R172). -/
theorem requestLength?_bounds {kind n : Nat} (h : requestLength? kind = some n) : kind < 256 ∧ n ≤ maxPayload := by
  unfold requestLength? at h
  split at h <;> cases h <;> decide

/-- Settles O4: the framer takes the frame to the arrival of its request, whose block reads the fields that the encoder
wrote. -/
theorem requestFramesReachTheirBlocks : Obligations.RequestFramesReachTheirBlocks := by
  intro i s bytes wf hb hunt
  obtain ⟨⟨kind, tag, payload⟩, parts, rfl⟩ := Option.map_eq_some_iff.mp hb
  obtain ⟨take, hi, arrives⟩ := exec_of_requestParts parts
  have length := requestLength?_of_requestParts wf parts
  obtain ⟨kindFits, short⟩ := requestLength?_bounds length
  have reads : takeFrame kind payload = take := by
    funext u
    rw [takeFrame, length, ← takeKind_of_requestParts wf parts hi]
    exact if_pos rfl
  rw [arrives, ← reads, receiveAll_frameBytes hunt kindFits (tagFits_of_requestParts wf parts) short]

end Sys2Proof.Machine
end

-- ==== Proofs: requests answered ====
section
/-! StepRunsTheFrontCommand, RequestsAreAnsweredOnce and ResetRestartsAfterItsReply: a request refused, discarded or
answered, the bytes of its reply, and the restart that RESET awaits. -/

namespace Sys2Proof.Machine

open Sys2Proof.Config

/-- Settles O1: the queue's rest is the state's own queue. -/
theorem stepRunsTheFrontCommand : Obligations.StepRunsTheFrontCommand := fun _ _ => rfl

/-! ## The bytes of a reply (R164, R170, R171) -/

theorem Item.body_eq (i : Item) :
    i.body =
      match i with
      | .bytes bs => bs
      | .opt _ (some bs) => bs
      | .opt width none => List.replicate width 0 := by
  rcases i with bs | ⟨width, - | bs⟩ <;> rfl

/-- Which of the items that may be absent are there, in their order. -/
def presentItems (items : List Item) : List Bool :=
  items.filterMap fun i =>
    match i with
    | .bytes _ => none
    | .opt _ v => some v.isSome

theorem anyOptional_iff (items : List Item) : anyOptional items = true ↔ presentItems items ≠ [] := by
  induction items with
  | nil => decide
  | cons i rest ih =>
    cases i with
    | bytes bs => exact ih
    | opt width v => simp [anyOptional, presentItems]

theorem presenceBits_eq (items : List Item) :
    presenceBits items
      = (presentItems items).foldr (fun there rest => (if there = true then 1 else 0) + 2 * rest) 0 := by
  induction items with
  | nil => rfl
  | cons i rest ih =>
    cases i with
    | bytes bs => exact ih
    | opt width v => rw [presenceBits, ih]; rfl

theorem payload_own (kind presence : Nat) (outcome : OwnOutcome) (items : List Item) :
    (Answer.own outcome presence items).payload kind
      = le 1 outcome.code
        ++ (if presentItems items = [] then []
          else
            le presence
              ((presentItems items).foldr (fun there rest => (if there = true then 1 else 0) + 2 * rest) 0))
        ++ items.flatMap Item.body := by
  rw [Answer.payload, presenceBits_eq]
  simp only [anyOptional_iff, ite_not]

/-! ## A request answered, refused or discarded (R163, R164, R168) -/

/-- The block that owns a request answers it, and its reply joins the list. -/
theorem arrive_replied {s : State} (h : Ready s) (kind tag : Nat) {i : Instr} {take : State → State × Answer}
    (hi : i.take? = some take) :
    Replied s (arrive s kind tag take) kind tag (take (enqueue s kind tag)).2 := by
  obtain ⟨framer, queue, replies, rate⟩ := take_link hi (enqueue s kind tag)
  rw [arrive_ready h]
  simp [Replied, framer, queue, replies, rate]

theorem takeFrame_of_length_ne {kind : Nat} {p : List Byte} (h : requestLength? kind ≠ some p.length) (s : State) :
    takeFrame kind p s = refuse s (if requestLength? kind = none then .unknownKind else .badLength) 0 := by
  unfold takeFrame
  split
  · next e => rw [if_pos e]
  · next n e =>
    have other : p.length ≠ n := fun same => h (by rw [e, same])
    rw [if_neg other, if_neg (by rw [e]; exact nofun)]

/-- Settles O6, by the three outcomes of an arrival and the bytes of a reply. -/
theorem requestsAreAnsweredOnce : Obligations.RequestsAreAnsweredOnce := by
  refine ⟨waitingRefusals_eq, fun i s kind tag payload parts => ⟨fun resetting => ?_, fun going full => ?_⟩,
    fun i s kind tag payload parts ready => ?_, fun b low kind tag n got s ready h crc length => ?_,
    fun kind field presence reason outcome items => ?_, rfl⟩
  · obtain ⟨take, -, arrives⟩ := exec_of_requestParts parts
    rw [arrives, arrive_resetting resetting]
  · obtain ⟨take, -, arrives⟩ := exec_of_requestParts parts
    rw [arrives, arrive_full going full]
    split
    · next room => exact ⟨_, congrArg _ (if_pos room), by simp, by simp, by simp, by simp⟩
    · next none' => exact congrArg _ (if_neg none')
  · obtain ⟨take, hi, arrives⟩ := exec_of_requestParts parts
    exact ⟨_, _, arrives s, arrive_replied ready kind tag hi⟩
  · have taken' := receive_good h crc
    rw [arrive_ready (s := setFramer s .hunt) ready, takeFrame_of_length_ne length] at taken'
    refine ⟨_, congrArg Host.Outcome.next taken', ?_, ?_, ?_, ?_⟩ <;> simp [refuse]
  · intro present body
    refine ⟨rfl, ?_, rfl, rfl⟩
    have bodies : Item.body = body := funext Item.body_eq
    rw [payload_own, bodies]
    cases outcome <;> rfl

/-! ## RESET (R168) -/

/-- A restart does not read the Link Port. -/
theorem restart_replyLeaves (s : State) (r : Reply) (rest : List Reply) (cause : RestartCause) (rate : Nat) :
    restart (replyLeaves s r rest) cause rate = restart s cause rate := rfl

/-- The reply of a taken RESET, sent whole, restarts the part at the rate latched before. -/
theorem replySent_reset {s : State} {r : Reply} {rest : List Reply} (resetting : s.link.resetting = true)
    (kind : r.kind = 0x49) (own : r.answer.isOwn = true) :
    replySent s r rest = restart s .request s.link.rate := by
  unfold replySent
  rw [if_pos (by simp [resetting, kind, own])]
  exact restart_replyLeaves s r rest _ _

/-- Settles O9: RESET is taken like any request, and the end of its reply is the restart. -/
theorem resetRestartsAfterItsReply : Obligations.ResetRestartsAfterItsReply := by
  refine ⟨fun tag s ready => ?_, fun s f r rest resetting hf what hr kind own => ?_⟩
  · refine ⟨_, rfl, ?_, arrive_replied (i := .resetRequest tag) ready _ _ rfl, ?_⟩
    · rw [arrive_ready ready, apart_transmit]
      rfl
    · rw [arrive_ready ready]
      simp [takeReset]
  · refine ⟨_, frameSent_reply hf what hr, ?_, ?_⟩ <;> rw [replySent_reset resetting kind own]

end Sys2Proof.Machine
end

-- ==== Proofs: every command goes on ====
section
/-! EveryCommandGoesOn: the queue of commands in the hands of a request, of a cut CLEAR_STORE, of the end of a frame and
of every other event. -/

namespace Sys2Proof.Machine

open Sys2Proof.Config

/-- The block that owns a request leaves the queue of commands. -/
theorem take_pending {i : Instr} {take : State → State × Answer} (hi : i.take? = some take) (s : State) :
    (take s).1.pending = s.pending := by
  unfold Instr.take? at hi
  split at hi <;> cases hi <;> simp

@[simp] theorem powerOn_pending (s : State) (pins : Pins) : (powerOn s pins).pending = s.pending := by
  simp [powerOn]

@[simp] theorem resetLine_pending (s : State) (pins : Pins) : (resetLine s pins).pending = s.pending := by
  simp [resetLine]

/-- The writes of a CLEAR_STORE before its cut are the store's alone (R35). -/
@[simp] theorem clearCut_pending (s : State) (writes : Nat) : (clearCut s writes).pending = s.pending := by
  unfold clearCut
  split <;> rfl

/-- A request goes on: its arrival is a next state, whether the part takes it, refuses it or discards it (R163). -/
theorem request_goesOn {i : Instr} {take : State → State × Answer} (hi : i.take? = some take) (s : State) :
    ∃ t, exec i s = .next t ∧ t.pending = s.pending := by
  obtain ⟨kind, tag, arrives⟩ := exec_of_take hi
  exact ⟨_, arrives s, arrive_pending s kind tag take (take_pending hi)⟩

/-- A CLEAR_STORE goes on, run whole or cut off by either restart. -/
theorem clearStore_goesOn (run : ClearRun) (s : State) :
    ∃ t, exec (.clearStore run) s = .next t ∧ t.pending = s.pending := by
  obtain ⟨tag, _ | c⟩ := run
  · exact request_goesOn (i := .clearStore ⟨tag, none⟩) rfl s
  · refine ⟨_, rfl, ?_⟩
    dsimp only
    split <;> simp

/-- The end of a frame goes on, with no frame on the line too, and a reply's with none in the list. -/
theorem frameSent_goesOn (s : State) : ∃ t, exec .frameSent s = .next t ∧ t.pending = s.pending := by
  refine ⟨_, rfl, ?_⟩
  split
  · rfl
  · split
    · split <;> simp
    · simp
    · exact chunkSent_pending s

/-- An event goes on, with something to act on or nothing (notes/assumptions/4.md). -/
theorem event_goesOn {i : Instr} (hi : i.take? = none) (s : State) :
    ∃ t, exec i s = .next t ∧ t.pending = s.pending := by
  cases i
  case clearStore run => exact clearStore_goesOn run s
  case frameSent => exact frameSent_goesOn s
  case byteReceived | gap | powerOn | resetLine | auxLevelChange | auxEdge | homeSensor | farEndSensor | holdSensor
      | cupEmptySensor | separationTime | restoreDescentEnd | restoreReleaseWait | liftTimeout | turnTimeout
      | platenSettled | angleSettled | glassForceReading | raisedStopSensor | glassMoveTimeout | supplySettled
      | idleStageExpiry | lightingGrant | lightingReady | referencePulseStart | referencePulseEnd | aimingInterval
      | exposureActiveRise | strobeDelayExpiry | strobeEnd | exposureActiveFall | cameraTimeout | volumeClockTick =>
    refine ⟨_, rfl, ?_⟩
    (repeat' split) <;> simp
  all_goals exact absurd hi nofun

/-- Settles O2: a command is a request, which arrives, or an event, and neither writes the queue of commands. -/
theorem everyCommandGoesOn : Obligations.EveryCommandGoesOn := by
  intro c s
  rcases hc : c.take? with _ | take
  · exact event_goesOn hc s
  · exact request_goesOn hc s

end Sys2Proof.Machine
end
